-- ==== Sys2Proof/Word.lean ====
section
/-! DEFINITION. The word and byte types of the device address space (R9) and their plainest arithmetic. -/

namespace Sys2Proof

/-- A 32-bit register word (R9). -/
abbrev Word := BitVec 32

/-- One byte of storage (R9). -/
abbrev Byte := BitVec 8

end Sys2Proof
end

