-- ==== Sys2Proof/Syntax.lean ====
section
/-! DEFINITION. The commands of the block, one constructor for each row of spec/opcode_table.json, in the table's order. -/

namespace Sys2Proof

/-- Sources of access (R14, R36): PCIe (Ladle transfers included), SMBus, SMC, JTAG. -/
inductive Src where
  | pcie | smbus | smc | jtag
  deriving DecidableEq, Repr

/-- What puts the Ladle into host-lost state (R434). -/
inductive LostCause where
  | linkDown | flr | busMasterClear | d3hot
  deriving DecidableEq, Repr

/-- What an encoder sees at its inputs (R481): an edge upward or downward, or a transition of both at once. -/
inductive EncMove where
  | up | down | both
  deriving DecidableEq, Repr

/-- Wake sources (R553): a GP pin, a timer channel, or the release of PCIE_PERST_N. -/
inductive WakeSource where
  | gp (pin : Nat) | timer (ch : Nat) | perst
  deriving DecidableEq, Repr

/-- A command. A microcode row names the core whose update engine executes the instruction at its run's address. -/
inductive Instr where
  /-- REGISTER_WRITE (R10). A write to a register that has no row of its own takes effect according to each field's access code. -/
  | registerWrite (src : Src) (addr : Nat) (len : Nat) (data : Nat)
  /-- RC_REGISTER_READ (R10). A read of an RC field returns its value and then clears it. -/
  | rcRegisterRead (src : Src) (addr : Nat) (len : Nat)
  /-- COUNTER_LOW_READ (R14). A read of the low register of a wide counter latches the high half for the reading source. -/
  | counterLowRead (src : Src) (addr : Nat) (len : Nat)
  /-- WINDOW_STORAGE_WRITE (R32). A write through a core, vault, Tundish SRAM or MRAM window stores bytes of any length and alignment. -/
  | windowStorageWrite (src : Src) (addr : Nat) (data : List (BitVec 8))
  /-- PCIE_CONFIG_REQUEST (R418). A PCIe configuration request is answered, with Request Retry Status until the endpoint is ready. -/
  | pcieConfigRequest (write : Bool) (off : Nat) (data : Nat)
  /-- LOAD_SLOT (R64). SMC_IMGCMD LOAD_SLOT starts a full image load from a flash slot. -/
  | loadSlot (src : Src) (slot : Nat)
  /-- LOAD_HOST (R64). SMC_IMGCMD LOAD_HOST starts a full or delta image load from host memory through the Ladle. -/
  | loadHost (src : Src)
  /-- IMAGE_STOP_FOR_LOAD (R64). The active image stops at the end of its current step and its weights are saved if chosen. -/
  | imageStopForLoad
  /-- IMAGE_CLEAR_DONE (R64). Clearing of every writable region ends and streaming of the sections begins. -/
  | imageClearDone
  /-- IMAGE_SECTION_STREAMED (R64). One section is read, checked under checks 8 and 9 and broadcast to its targets. -/
  | imageSectionStreamed
  /-- CONFIG_WRITE (R252). A network interface receiving a CONFIG packet writes its payload into its own window when it is a target. -/
  | configWrite (lcn : Nat)
  /-- IMAGE_VERIFY_DONE (R64). Checks 10 and 11 end, the settings block is read under check 12, and the image becomes LOADED. -/
  | imageVerifyDone
  /-- INSTALL (R75). SMC_IMGCMD INSTALL checks a host image and writes it into a flash slot. -/
  | install (src : Src) (slot : Nat)
  /-- INSTALL_PROGRAM_DONE (R75). Programming of the slot ends, the slot is read back and checked, and the slot state is derived. -/
  | installProgramDone
  /-- ACTIVATE_DELTA (R70). SMC_IMGCMD ACTIVATE_DELTA commits a staged delta through a mode commit. -/
  | activateDelta (src : Src) (arg : Nat)
  /-- DISCARD_DELTA (R77). SMC_IMGCMD DISCARD_DELTA discards a staged delta. -/
  | discardDelta (src : Src)
  /-- SETTINGS_RESET (R63). SMC_IMGCMD SETTINGS_RESET rewrites a slot's settings block and returns the slot to VALID. -/
  | settingsReset (src : Src) (slot : Nat)
  /-- EVENT_QUEUE_ACCEPT (R91). A network interface accepts an EVENT, GRADED or SUM flit into the event queue once there is room. -/
  | eventQueueAccept (lcn : Nat) (vc : Nat)
  /-- ACCUMULATE_ENTRY (R93). The accumulator takes one entry from the queue head and accumulates, parks or discards it by its due step. -/
  | accumulateEntry (lcn : Nat)
  /-- AXON_ENTRY_READ (R153). An axon entry returns from the vault and its segments are set up for streaming. -/
  | axonEntryRead (lcn : Nat)
  /-- SYNAPSE_BEAT (R96). One beat of up to 16 synapses is added into the target accumulators. -/
  | synapseBeat (lcn : Nat)
  /-- NCR_DPOOL_WRITE (R94). A write to NCR_DPOOL empties the pool, discarding every parked entry. -/
  | ncrDpoolWrite (src : Src) (lcn : Nat) (data : Nat)
  /-- STEP_ADMIT (R215). A core is admitted to its next step once every admission condition holds. -/
  | stepAdmit (lcn : Nat)
  /-- ACCUMULATE_END (R106). ACCUMULATE ends when every due entry is processed and UPDATE begins. -/
  | accumulateEnd (lcn : Nat)
  /-- GROUP_RUN_START (R143). A group run loads its members' contexts into the lanes at the model's entry point. -/
  | groupRunStart (lcn : Nat)
  /-- NOP (R127). Microcode NOP does nothing. -/
  | nop (lcn : Nat)
  /-- MOV (R127). MOV copies a register into the destination with saturation. -/
  | mov (lcn : Nat)
  /-- ADD (R127). ADD writes the saturated sum of two registers. -/
  | add (lcn : Nat)
  /-- SUB (R127). SUB writes the saturated difference of two registers. -/
  | sub (lcn : Nat)
  /-- MUL (R123). MUL writes the product shifted right by SH with the selected rounding. -/
  | mul (lcn : Nat)
  /-- MAC (R123). MAC adds the shifted product to the destination. -/
  | mac (lcn : Nat)
  /-- MIN (R127). MIN writes the smaller of two registers. -/
  | minOp (lcn : Nat)
  /-- MAX (R127). MAX writes the larger of two registers. -/
  | maxOp (lcn : Nat)
  /-- ABS (R127). ABS writes the saturated magnitude of a register. -/
  | absOp (lcn : Nat)
  /-- AND (R122). AND writes the bitwise AND of two registers. -/
  | andOp (lcn : Nat)
  /-- OR (R122). OR writes the bitwise OR of two registers. -/
  | orOp (lcn : Nat)
  /-- XOR (R122). XOR writes the bitwise XOR of two registers. -/
  | xor (lcn : Nat)
  /-- SHL (R127). SHL writes a register multiplied by 2^SH with saturation. -/
  | shl (lcn : Nat)
  /-- SHR (R123). SHR writes a register shifted right by SH with the selected rounding. -/
  | shr (lcn : Nat)
  /-- CLT (R126). CLT combines a less-than comparison into a flag. -/
  | clt (lcn : Nat)
  /-- CLE (R126). CLE combines a less-or-equal comparison into a flag. -/
  | cle (lcn : Nat)
  /-- CEQ (R126). CEQ combines an equality comparison into a flag. -/
  | ceq (lcn : Nat)
  /-- MOVI (R127). MOVI writes a signed immediate in every live lane. -/
  | movi (lcn : Nat)
  /-- ADDI (R127). ADDI adds a signed immediate in every live lane. -/
  | addi (lcn : Nat)
  /-- MULI (R127). MULI multiplies by a Q1.15 immediate with rounding in every live lane. -/
  | muli (lcn : Nat)
  /-- CLTI (R126). CLTI combines a comparison against an immediate into a flag. -/
  | clti (lcn : Nat)
  /-- CGEI (R126). CGEI combines a greater-or-equal comparison against an immediate into a flag. -/
  | cgei (lcn : Nat)
  /-- LUT (R135). LUT looks a value up in a table, with optional interpolation. -/
  | lut (lcn : Nat)
  /-- DECAY (R136). DECAY multiplies a value by the decay factor for the lane's elapsed steps. -/
  | decay (lcn : Nat)
  /-- TRACE (R141). TRACE decays X, adds the input where the predicate holds and posts postsynaptic records. -/
  | trace (lcn : Nat)
  /-- RDA (R131). RDA reads an input accumulator, raw or de-quantised through its rescale channel. -/
  | rda (lcn : Nat)
  /-- GET (R129). GET writes the selected lane value. -/
  | get (lcn : Nat)
  /-- SETQ (R142). SETQ sets the quiescent bit of the executing lanes. -/
  | setq (lcn : Nat)
  /-- BR (R130). BR branches uniformly when its mode holds over the live lanes. -/
  | br (lcn : Nat)
  /-- EMIT (R137). EMIT issues one EVENT packet per executing lane, stalling until the outgoing buffer has room. -/
  | emit (lcn : Nat)
  /-- EMITG (R137). EMITG issues one GRADED packet per executing lane. -/
  | emitg (lcn : Nat)
  /-- SEND_SUM (R138). SEND with KIND 0 issues one SUM packet per executing lane. -/
  | sendSum (lcn : Nat)
  /-- SEND_MESSAGE (R139). SEND with KIND 1 issues one message through a send descriptor once it has a credit. -/
  | sendMessage (lcn : Nat)
  /-- END (R117). END ends the run and writes back the members' contexts. -/
  | endRun (lcn : Nat)
  /-- UCLIMIT_EXPIRY (R103). A run reaching NCR_UCLIMIT.LIMIT cycles aborts as a hang. -/
  | uclimitExpiry (lcn : Nat)
  /-- STEP_SEAL (R209). A core seals its step once DONE and every packet of the step has retired, and sends its horizon reports. -/
  | stepSeal (lcn : Nat)
  /-- CORE_SCRUB_WORD (R590). The core scrubber reads and corrects one SRAM word in a free window slot. -/
  | coreScrubWord (lcn : Nat)
  /-- VAULT_SCRUB_WORD (R177). The vault scrubber reads one word and corrects it. -/
  | vaultScrubWord (part : Nat)
  /-- ROW_COPY_DONE (R179). The row copy ends and the map switches to the spare row. -/
  | rowCopyDone (part : Nat)
  /-- HORIZON_REPORT_RECEIVE (R213). A listening network interface or the SMC applies an arriving horizon report to the group's horizon. -/
  | horizonReportReceive (who : Nat)
  /-- HORIZON_TIMEOUT (R223). A core's counted wait reaching TMO sends a horizon-timeout fault report. -/
  | horizonTimeout (lcn : Nat)
  /-- TUNDISH_ADMIT (R218). The Tundish is admitted to its next step under its own conditions. -/
  | tundishAdmit
  /-- TUNDISH_INJECTION_END (R209). The Tundish's injection of a step ends at the next tick or once its present input is injected. -/
  | tundishInjectionEnd
  /-- TUNDISH_STEP_SEAL (R209). The Tundish seals its step once all its packets have retired and reports it. -/
  | tundishStepSeal
  /-- MODE_PREPARE (R226). A participant receiving PREPARE holds the change and acknowledges, or sends a NAK. -/
  | modePrepare (who : Nat)
  /-- MODE_ACK_RECEIVE (R226). The SMC totals a reduced acknowledgement and broadcasts COMMIT or ABORT when decided. -/
  | modeAckReceive
  /-- MODE_COMMIT_TIMEOUT (R226). A commit lacking the full count after 1 ms is aborted. -/
  | modeCommitTimeout
  /-- MODE_COMMIT_RECEIVE (R227). A participant receiving COMMIT schedules the change for the commit step. -/
  | modeCommitReceive (who : Nat)
  /-- MODE_ABORT_RECEIVE (R226). A prepared participant receiving ABORT discards the change and releases its hold. -/
  | modeAbortReceive (who : Nat)
  /-- START (R232). Run command START begins a new run from step 0 through a commit. -/
  | startRun (src : Src)
  /-- HOLD (R233). Run command HOLD commits a hold at a step. -/
  | holdRun (src : Src)
  /-- RESUME (R234). Run command RESUME releases the held step with a new anchor. -/
  | resumeRun (src : Src)
  /-- STEP (R234). Run command STEP runs ARG steps and holds again. -/
  | stepRun (src : Src) (arg : Nat)
  /-- STOP (R235). Run command STOP holds and then ends the run. -/
  | stopRun (src : Src)
  /-- LEARN_ON (R224). Run command LEARN_ON enables learning at the first step of an epoch. -/
  | learnOn (src : Src)
  /-- LEARN_OFF (R224). Run command LEARN_OFF disables learning at the first step of an epoch. -/
  | learnOff (src : Src)
  /-- LOCKSTEP (R219). Run command LOCKSTEP selects lockstep timing at the commit step. -/
  | lockstepMode (src : Src)
  /-- HORIZON (R219). Run command HORIZON selects horizon timing at the commit step. -/
  | horizonMode (src : Src)
  /-- STEPLEN (R207). Run command STEPLEN changes the step length and re-anchors the run. -/
  | steplen (src : Src) (arg : Nat)
  /-- RUN_HELD (R233). The run becomes HELD once the device horizon reaches the step before the hold. -/
  | runHeld
  /-- ROUTER_PACKET_ARRIVE (R257). A packet enters a router input buffer on its virtual channel. -/
  | routerPacketArrive (node : Nat) (port : Nat) (err : Bool)
  /-- ROUTER_ROUTE (R280). A packet at the head of its input buffer is routed by its class, kind and table. -/
  | routerRoute (lcn : Nat) (port : Nat) (vc : Nat)
  /-- ROUTER_PACKET_SEND (R258). An output allocator grants a packet that has credits and sends it on the link. -/
  | routerPacketSend (lcn : Nat) (out : Nat) (aged : List Nat)
  /-- PASS_THROUGH_FORWARD (R242). A pass-through router forwards a packet straight through and increments HOPS. -/
  | passThroughForward (pcn : Nat) (port : Nat) (vc : Nat)
  /-- CREDIT_RETURN (R257). A freed flit's credit reaches the upstream sender. -/
  | creditReturn (node : Nat) (port : Nat) (vc : Nat)
  /-- ESCAPE_TIMEOUT (R260). A packet held 64 cycles at its buffer head moves its unsent branches to the escape channel. -/
  | escapeTimeout (lcn : Nat) (port : Nat) (vc : Nat)
  /-- RETIREMENT_TOKEN (R266). A retirement token reaches its return point and decrements a record or step slot. -/
  | retirementToken (n : Nat)
  /-- COMBINE_WINDOW_CLOSE (R292). A SUM combining window closes 8 cycles after opening and the merged packet requests output. -/
  | combineWindowClose (lcn : Nat) (entry : Nat)
  /-- FAULT_COALESCE_CLOSE (R305). A fault coalescing window closes after 1 µs and sends up to four packets. -/
  | faultCoalesceClose (lcn : Nat) (entry : Nat)
  /-- INJECTOR_DRAINED (R310). An injector whose old-generation copies have all retired sends a DRAIN packet. -/
  | injectorDrained (who : Nat)
  /-- DRAIN_RECEIVE (R311). The SMC adds an arriving DRAIN contribution to SMC_DRAIN.COUNT. -/
  | drainReceive
  /-- MSG_REQUEST_ACCEPT (R325). A network interface checks a MSG_REQ and writes its payload and notification once the ring has room. -/
  | msgRequestAccept (lcn : Nat)
  /-- FORWARD_SEND (R332). A copy of an accepted message is forwarded to a host queue once fewer than 8 are in flight. -/
  | forwardSend (lcn : Nat)
  /-- SELECTOR_POP (R330). A read of MSG_SELsPOP pops one ready entry. -/
  | selectorPop (src : Src) (lcn : Nat) (sel : Nat)
  /-- MSG_RELEASE (R331). A write to MSG_RELEASE releases the oldest popped entry and sends its OK reply. -/
  | msgRelease (src : Src) (lcn : Nat) (queue : Nat)
  /-- MSG_REPLY_RECEIVE (R333). An arriving MSG_RSP returns a credit or is discarded as LATE. -/
  | msgReplyReceive (who : Nat)
  /-- MSG_REPLY_TIMEOUT (R335). A request waiting TMO µs for its reply has its credit reclaimed. -/
  | msgReplyTimeout (who : Nat) (desc : Nat)
  /-- MSG_QUEUE_CONFIG_WRITE (R340). A write to MSG_QnLAND or MSG_QnRING resets the queue's pointers. -/
  | msgQueueConfigWrite (src : Src) (lcn : Nat) (queue : Nat) (ring : Bool) (data : Nat)
  /-- PRE_RECORD_APPLY (R347). The Temper unit applies a pre record to its pre entry. -/
  | preRecordApply (part : Nat)
  /-- REWARD_RECEIVE (R351). The Temper unit pops a reward message and adds it to the current or next reward sum. -/
  | rewardReceive (part : Nat)
  /-- EPOCH_PASS_BEGIN (R355). When every core of a partition has sealed an epoch's last step the epoch-end pass begins. -/
  | epochPassBegin (part : Nat)
  /-- CHECKPOINT_COMPLETE (R593). The last context word is copied and the checkpoint becomes VALID. -/
  | checkpointComplete (part : Nat)
  /-- SYNAPSE_UPDATE (R361). Pass 1 updates one plastic synapse from its traces and reward. -/
  | synapseUpdate (part : Nat)
  /-- PASS1_END (R365). After pass 1 the normalisation factors and scales are derived. -/
  | pass1End (part : Nat)
  /-- SYNAPSE_RESCALE (R367). Pass 2 rescales one synapse by its factor and k. -/
  | synapseRescale (part : Nat)
  /-- EPOCH_PASS_END (R355). The pass ends, TMP_EPOCHDONE is set and the cores are released. -/
  | epochPassEnd (part : Nat)
  /-- WEIGHT_SAVE_BEGIN (R377). A save occasion starts building a weight-keep set. -/
  | weightSaveBegin
  /-- WEIGHT_SAVE_CHUNK (R376). One partition's chunk and its commit record are written to MRAM. -/
  | weightSaveChunk (part : Nat)
  /-- CSI_LONG_PACKET (R389). A CSI long packet is checked and written whole into the port's input buffer. -/
  | csiLongPacket (port : Nat) (header : Nat) (payload : List (BitVec 8)) (crc : Nat)
  /-- CSI_FRAME_START (R392). A frame start packet restarts line numbering for its streams. -/
  | csiFrameStart (port : Nat) (vc : Nat) (frame : Nat)
  /-- CSI_FRAME_END (R396). A frame end packet completes a frame for its streams. -/
  | csiFrameEnd (port : Nat) (vc : Nat) (frame : Nat)
  /-- CSI3_COPY (R391). A packet accepted by the Vernier CSI3 receiver is copied into port 3's buffer. -/
  | csi3Copy (header : Nat) (payload : List (BitVec 8)) (crc : Nat)
  /-- STREAM_DECODE (R395). A buffered packet is decoded into events by its stream descriptor once row queues have room. -/
  | streamDecode (port : Nat)
  /-- TUNDISH_INJECT (R400). The head of a row queue is injected with the current step tag. -/
  | tundishInject (row : Nat)
  /-- HOST_EVENT_INJECT (R403). A host-event record is injected, held for its STEP or discarded as late. -/
  | hostEventInject (ch : Nat)
  /-- COUNT_RECORD_SEND (R406). A core sends an undelivered COUNT record once fewer than 4 are in flight. -/
  | countRecordSend (lcn : Nat)
  /-- COUNT_RECORD_RETRY (R406). A COUNT record refused as FULL is re-sent after 10 µs. -/
  | countRecordRetry (lcn : Nat)
  /-- WINDOW_RECORD_RETRY (R410). A WINDOW record refused as FULL is offered again after 10 µs. -/
  | windowRecordRetry
  /-- LADLE_DOORBELL (R424). A write to LDL_CHnTAIL makes new descriptors available to the channel. -/
  | ladleDoorbell (src : Src) (ch : Nat) (tail : Nat)
  /-- LADLE_CHANNEL_ENABLE (R424). Setting LDL_CHnCFG.EN sets HEAD to TAIL and starts the channel. -/
  | ladleChannelEnable (src : Src) (ch : Nat) (cfg : Nat)
  /-- LADLE_CHANNEL_DISABLE (R424). Clearing EN ends the descriptor at its next 4 KiB boundary as ABORTED and stops the channel. -/
  | ladleChannelDisable (src : Src) (ch : Nat) (cfg : Nat)
  /-- LADLE_NOP (R425). Descriptor OP NOP completes without moving data. -/
  | ladleNop (ch : Nat)
  /-- LADLE_H2D (R426). Descriptor OP H2D copies bytes from host memory to a device address. -/
  | ladleH2d (ch : Nat)
  /-- LADLE_D2H (R426). Descriptor OP D2H copies bytes from a device address to host memory. -/
  | ladleD2h (ch : Nat)
  /-- LADLE_EVENTS (R426). Descriptor OP EVENTS hands host-event records to the Tundish in order. -/
  | ladleEvents (ch : Nat)
  /-- LADLE_MSG (R426). Descriptor OP MSG sends one MSG_REQ through a Ladle send descriptor. -/
  | ladleMsg (ch : Nat)
  /-- LADLE_READQ (R431). Descriptor OP READQ copies records from a host queue's local ring, padding with NONE records. -/
  | ladleReadq (ch : Nat)
  /-- LADLE_SEGMENT (R429). The channel arbiter grants one 4 KiB segment of a channel's transfer. -/
  | ladleSegment (ch : Nat)
  /-- LADLE_COMPLETION (R427). A completion entry is written in descriptor order, with the channel vector when required. -/
  | ladleCompletion (ch : Nat)
  /-- LADLE_READ_TIMEOUT (R428). A host read running past HIF_CPLTO completes with HOSTERR. -/
  | ladleReadTimeout (ch : Nat)
  /-- HOST_QUEUE_ACCEPT (R430). The Ladle places a request or record into a host queue's local ring or replies NOQUEUE or FULL. -/
  | hostQueueAccept (att : Nat)
  /-- LADLE_SELECTOR_SIGNAL (R422). The Ladle raises the selector vector of the signalling core and replies OK. -/
  | ladleSelectorSignal (att : Nat)
  /-- HOST_QUEUE_POP_READ (R431). A PCIe read of a pop window returns and removes records, padding with NONE records. -/
  | hostQueuePopRead (queue : Nat) (off : Nat) (len : Nat)
  /-- HOST_RING_TRANSFER (R433). Records move from the local ring to the host ring while it has room, with a tail writeback. -/
  | hostRingTransfer (queue : Nat)
  /-- HOST_QUEUE_IRQ_DELAY (R433). The coalescing delay after the oldest record expires and the queue's vector is sent. -/
  | hostQueueIrqDelay (queue : Nat)
  /-- HOST_QUEUE_LOCAL_WRITE (R444). A write to LDL_HQnLOCAL empties the queue's local ring. -/
  | hostQueueLocalWrite (src : Src) (queue : Nat) (data : Nat)
  /-- HOST_LOST_ENTRY (R434). Loss of the link, FLR, Bus Master Enable clear or D3hot puts the Ladle into host-lost state. -/
  | hostLostEntry (cause : LostCause)
  /-- HOST_LOST_EXIT (R436). Host-lost state ends with link up, Bus Master Enable set and D0. -/
  | hostLostExit (speed : Nat) (width : Nat)
  /-- SMBUS_BLOCK_WRITE (R438). SMBus command 0x10 performs one 32-bit write. -/
  | smbusBlockWrite (bytes : List (BitVec 8)) (pecOk : Bool)
  /-- SMBUS_SET_POINTER (R438). SMBus command 0x11 sets the read pointer. -/
  | smbusSetPointer (bytes : List (BitVec 8)) (pecOk : Bool)
  /-- SMBUS_BLOCK_READ (R438). SMBus command 0x12 reads the word at the read pointer and advances it. -/
  | smbusBlockRead (pecOk : Bool)
  /-- SMBUS_STATUS (R438). SMBus command 0x13 returns and clears the status byte. -/
  | smbusStatus (pecOk : Bool)
  /-- SMBUS_SCL_TIMEOUT (R438). SCL held low over 25 ms releases the bus and discards the transaction. -/
  | smbusSclTimeout
  /-- LINK_TRAINING_DONE (R447). Training brings a link UP, DEGRADED or DOWN. -/
  | linkTrainingDone (link : Nat) (lanes : Nat)
  /-- LINK_TRAIN_RETRY (R447). A DOWN link repeats training every 10 ms while enabled. -/
  | linkTrainRetry (link : Nat)
  /-- LINK_LANE_FAIL (R447). A lane failing in operation starts a retrain. -/
  | linkLaneFail (link : Nat) (lane : Nat)
  /-- LINK_RETRAIN_DONE (R447). A retrain ends and the replay buffer is replayed. -/
  | linkRetrainDone (link : Nat) (lanes : Nat)
  /-- LINK_RETRAIN_REQUEST (R470). Writing SPL_LnCTRL.RETRAIN requests a retrain. -/
  | linkRetrainRequest (src : Src) (link : Nat)
  /-- LINK_ENABLE (R451). Writing SPL_LnCTRL.EN from 0 to 1 retrains the link, including a FAILED one. -/
  | linkEnable (src : Src) (link : Nat)
  /-- DATA_FRAME_RECEIVE (R452). A DATA frame is sequenced, accepted and its flits passed to the router. -/
  | dataFrameReceive (link : Nat) (frame : List (BitVec 8))
  /-- RETURN_FRAME_RECEIVE (R453). A RETURN frame's tags release return-table entries and send retirement tokens. -/
  | returnFrameReceive (link : Nat) (frame : List (BitVec 8))
  /-- IDLE_FRAME_RECEIVE (R452). An IDLE frame's ACK is applied. -/
  | idleFrameReceive (link : Nat) (frame : List (BitVec 8))
  /-- NAK_FRAME_RECEIVE (R451). A NAK frame causes the sender to replay from ACK + 1. -/
  | nakFrameReceive (link : Nat) (frame : List (BitVec 8))
  /-- MGMT_FRAME_RECEIVE (R456). A MGMT frame delivers a HELLO, membership, assignment or time record. -/
  | mgmtFrameReceive (link : Nat) (frame : List (BitVec 8))
  /-- DATA_FRAME_SEND (R450). A DATA frame is sent against credits within the replay window. -/
  | dataFrameSend (link : Nat)
  /-- IDLE_FRAME_SEND (R449). An idle sender sends an IDLE frame every 0.5 µs. -/
  | idleFrameSend (link : Nat)
  /-- LINK_ACK_TIMEOUT (R451). The oldest unacknowledged frame waiting ACKTMO µs causes a replay. -/
  | linkAckTimeout (link : Nat)
  /-- LINK_PEER_TIMEOUT (R454). No valid frame for LINKTMO µs takes the link DOWN. -/
  | linkPeerTimeout (link : Nat)
  /-- DISCOVERY_STABLE (R456). Discovery ends when NDEV devices are known and the set is stable for 1 ms. -/
  | discoveryStable
  /-- DISCOVERY_TIMEOUT (R456). Discovery ends at DISCTMO and sets SHORT. -/
  | discoveryTimeout
  /-- TIME_SYNC_EXCHANGE (R464). Every 100 µs a device exchanges time records and slews its timebase toward device 0. -/
  | timeSyncExchange (offset : Int)
  /-- REMOTE_PREPARE (R466). A device receiving a system PREPARE from device 0 runs it locally and answers with its total. -/
  | remotePrepare
  /-- LEARNING_CLEAR_ALL (R469). Writing SPL_LRNCLR.ALL empties every learning-table entry. -/
  | learningClearAll (src : Src)
  /-- LEARNING_CLEAR_ONE (R469). Writing SPL_LRNCLR.ONE empties the named entry. -/
  | learningClearOne (src : Src) (entry : Nat)
  /-- VERNIER_RESET_ASSERT (R476). VRN_RST_N asserted or VDD_VRN lost puts the Vernier partition OFF. -/
  | vernierResetAssert
  /-- VERNIER_RESET_RELEASE (R477). Release of VRN_RST_N starts the mask ROM's check of firmware and parameters. -/
  | vernierResetRelease
  /-- VERNIER_BOOT_DONE (R477). The ROM starts the firmware, or the partition stays in FAULT. -/
  | vernierBootDone
  /-- LOCKSTEP_MISMATCH (R478). A lockstep mismatch restarts the pair, or locks it out after three in 1 s. -/
  | lockstepMismatch
  /-- ENCODER_EDGE (R481). A filtered encoder edge moves the count and latches the timebase. -/
  | encoderEdge (enc : Nat) (move : EncMove)
  /-- VERNIER_FRAME_START (R481). A CSI3 frame start latches the timebase and the selected encoder counts. -/
  | vernierFrameStart
  /-- PROFILE_FRAME_END (R483). A profile's frame end starts its summary or drops the frame. -/
  | profileFrameEnd
  /-- PROFILE_SUMMARY_DONE (R482). A profile summary ends and the object in progress is advanced. -/
  | profileSummaryDone
  /-- RESULT_RECORD_PUBLISH (R491). A result record, then slot 1, then slot 0 with the new WRSEQ are written to the mailbox. -/
  | resultRecordPublish
  /-- INDICATOR_READ (R493). SPI command READ returns mailbox bytes from an address. -/
  | indicatorRead (addr : Nat) (len : Nat) (hits : List Nat)
  /-- INDICATOR_STATUS (R493). SPI command STATUS returns the state byte. -/
  | indicatorStatus
  /-- INDICATOR_OTHER (R493). Any other SPI command is ignored and returns 0x00. -/
  | indicatorOther (cmd : Nat) (len : Nat)
  /-- SEAL_CHANGE (R500). A filtered SEAL_N level change at the Vernier receiver updates SEALOPEN. -/
  | sealChange (closed : Bool)
  /-- FW_CHUNK (R502). Maker command FW_CHUNK copies the update buffer into the staged firmware slot. -/
  | fwChunk (src : Src) (index : Nat)
  /-- VRN_FW_ACTIVATE (R503). Maker command FW_ACTIVATE checks the staged package, audits, commits and restarts the pair. -/
  | vrnFwActivate (src : Src)
  /-- PAR_CHUNK (R502). Maker command PAR_CHUNK copies the buffer into the staged parameter slot. -/
  | parChunk (src : Src) (index : Nat)
  /-- PAR_COMMIT (R487). Maker command PAR_COMMIT checks the staged set, audits, commits and restarts the pair. -/
  | parCommit (src : Src)
  /-- ARCHIVE (R505). Maker command ARCHIVE clears the audit trail when the host's digest matches. -/
  | archive (src : Src)
  /-- ABORT (R502). Maker command ABORT discards the staged chunk counts. -/
  | abortStaged (src : Src)
  /-- CHALLENGE (R513). SEC command CHALLENGE draws a fresh nonce bound to a role and slot. -/
  | challenge (src : Src) (role : Nat) (slot : Nat)
  /-- VERIFY (R514). SEC command VERIFY checks the response and opens a session. -/
  | verifySession (src : Src)
  /-- CLOSE (R515). SEC command CLOSE ends the session. -/
  | closeSession (src : Src)
  /-- PROG_KEY (R511). SEC command PROG_KEY starts programming an EMPTY key slot. -/
  | progKey (src : Src) (role : Nat) (slot : Nat)
  /-- REVOKE_KEY (R511). SEC command REVOKE_KEY starts blowing a slot's revoke fuse. -/
  | revokeKey (src : Src) (role : Nat) (slot : Nat)
  /-- PROV_MAKER (R511). SEC command PROV_MAKER programs maker slot 0 while both maker slots are EMPTY and the seal is open. -/
  | provMaker (src : Src)
  /-- KEY_PROGRAM_DONE (R512). OTP programming ends and the slot is checked. -/
  | keyProgramDone (good : Bool)
  /-- KEY_REVOKE_DONE (R512). Revocation ends and a session opened through the slot ends. -/
  | keyRevokeDone (good : Bool)
  /-- SESSION_IDLE_TIMEOUT (R515). A session idle for SEC_IDLE.SECONDS ends with cause IDLE. -/
  | sessionIdleTimeout
  /-- SEC_SEAL_CHANGE (R677). A filtered SEAL_N change at the SEC receiver is logged and ends a maker session when closed. -/
  | secSealChange (closed : Bool)
  /-- LOCKOUT_EXPIRY (R516). A lockout ends after 60 s. -/
  | lockoutExpiry
  /-- SLEEP (R552). PWR_DEVCMD SLEEP puts the fabric into RETAIN and the device into SLEEP. -/
  | sleep (src : Src)
  /-- DEEP (R552). PWR_DEVCMD DEEP leaves only the always-on and Vernier domains powered. -/
  | deepState (src : Src)
  /-- WAKE (R552). PWR_DEVCMD WAKE returns the device from SLEEP to ACTIVE. -/
  | wake (src : Src)
  /-- PROFILE (R536). PWR_DEVCMD PROFILE changes the run profile through a mode commit. -/
  | profile (src : Src) (prof : Nat) (arg : Nat)
  /-- DEVICE_STATE_REACHED (R552). Entry to SLEEP or DEEP, or the return to ACTIVE, completes. -/
  | deviceStateReached
  /-- WAKE_SOURCE (R553). An enabled wake source leaves SLEEP or DEEP. -/
  | wakeSource (source : WakeSource)
  /-- LIMITER_TICK (R538). Every 50 µs the limiter updates T and the core-row demotions. -/
  | limiterTick (draw : Nat)
  /-- THERMAL_SAMPLE (R541). Every 100 µs the junction sensors are read and warning or trip begins or ends. -/
  | thermalSample (temps : List Int)
  /-- DOMAIN_IDLE_ENTRY (R526). A domain whose units have been idle 64 cycles gates its clock. -/
  | domainIdleEntry (dom : Nat)
  /-- DOMAIN_IDLE_EXIT (R526). A gated domain ungates on demand within 2 cycles. -/
  | domainIdleExit (dom : Nat)
  /-- WAKE_STAGE_READY (R542). A wake stage's ready signal arrives and the next stage begins. -/
  | wakeStageReady (dom : Nat)
  /-- WAKE_STAGE_TIMEOUT (R543). A wake stage times out and the wake is retried or the domain fails. -/
  | wakeStageTimeout (dom : Nat) (pos : Nat)
  /-- WAKE_RETRY (R543). After the 10 µs wait a failed wake starts again from the regulator stage. -/
  | wakeRetry (dom : Nat)
  /-- DOMAIN_HARD_FAILURE (R544). A regulator or lock loss over 10 µs marks an ON domain failed. -/
  | domainHardFailure (dom : Nat)
  /-- DOMAIN_POWER_DOWN_DONE (R542). Entry of a domain to RETAIN or OFF completes. -/
  | domainPowerDownDone (dom : Nat)
  /-- VOLTAGE_RAMP_DONE (R531). A regulator ramp of a point change reaches its voltage. -/
  | voltageRampDone (dom : Nat)
  /-- CLOCK_SWITCH_DONE (R531). A glitch-free clock switch of a point change completes. -/
  | clockSwitchDone (dom : Nat)
  /-- PMBUS_STATUS_POLL (R532). Every 10 ms the SMC reads STATUS_WORD and logs regulator faults. -/
  | pmbusStatusPoll (status : Nat) (vout : Nat)
  /-- PWR_CEIL_WRITE (R540). An installer write to PWR_CEIL sets the ceilings and rewrites the settings records. -/
  | pwrCeilWrite (src : Src) (data : Nat)
  /-- PWRFAIL_ASSERT (R549). Filtered PWRFAIL_N starts the power-fail state and the learned-state save. -/
  | pwrfailAssert
  /-- PWRFAIL_RELEASE (R549). Release of PWRFAIL_N ends the power-fail state. -/
  | pwrfailRelease
  /-- PORST_ASSERT (R557). PORST_N asserted for at least 1 µs resets every compute and always-on domain. -/
  | porstAssert
  /-- PORST_RELEASE (R559). Release of PORST_N starts a cold start. -/
  | porstRelease
  /-- SYSRST_ASSERT (R557). SYSRST_N asserted for at least 1 µs resets every compute domain. -/
  | sysrstAssert
  /-- SYSRST_RELEASE (R559). Release of SYSRST_N starts a warm start. -/
  | sysrstRelease
  /-- AON_SUPPLY_LOW (R673). VDD_AON or VDDIO_AON below its threshold holds the device in reset as PORST_N. -/
  | aonSupplyLow
  /-- WARM (R586). RST_CMD WARM causes a software warm reset. -/
  | warmReset (src : Src)
  /-- WARM_FULL (R569). RST_CMD WARM_FULL causes a warm reset that tests every vault in full. -/
  | warmFull (src : Src)
  /-- WATCHDOG_EXPIRY (R583). The SMC watchdog expires and causes a warm reset. -/
  | watchdogExpiry
  /-- SMC_BOOT_RESTART (R581). SMC firmware requests a restart of the SMC domain during stage 2. -/
  | smcBootRestart
  /-- TAP_RESET (R557). The TAP controller enters Test-Logic-Reset. -/
  | tapReset
  /-- RELEASE_ORDER_STEP (R559). A release-order gap elapses and the next internal reset is released. -/
  | releaseOrderStep
  /-- FUSE_LOAD_DONE (R559). Fuse load ends and the SMC domain wake is counted down. -/
  | fuseLoadDone
  /-- RSTOUT_RELEASE (R560). RSTOUT_N is released 10 ms after the always-on logic, or at READY with OUTHOLD. -/
  | rstoutRelease
  /-- START_STAGE_END (R561). A stage of the cold or warm start ends and the next begins. -/
  | startStageEnd (found : List Nat)
  /-- CORE_WAVE (R562). A wave closes the power switch of one physical core per band row. -/
  | coreWave (wave : Nat)
  /-- PCIE_PERST_RELEASE (R564). Release of PCIE_PERST_N lets link training begin. -/
  | pciePerstRelease
  /-- ISOLATION_COMPLETE (R575). Closing a partition's isolation wrappers completes. -/
  | isolationComplete (part : Nat)
  /-- BAND_ROW_DRAINED (R572). Every buffer of the held band rows is empty and core moves begin. -/
  | bandRowDrained
  /-- CORE_COPY_DONE (R572). A moved core's SRAM copy ends, and after the last the map is rewritten and the hold released. -/
  | coreCopyDone
  /-- FW_INSTALL (R585). RST_FWCMD FW_INSTALL writes and checks an SMC firmware package into a slot. -/
  | fwInstall (src : Src) (slot : Nat)
  /-- FW_ACTIVATE (R585). RST_FWCMD FW_ACTIVATE makes the named slot preferred. -/
  | fwActivate (src : Src) (slot : Nat)
  /-- FW_SETRESET (R581). RST_FWCMD FW_SETRESET rewrites the system settings block and returns the slot to TRIAL. -/
  | fwSetreset (src : Src) (slot : Nat)
  /-- DIAG_DATA_READ (R586). A read of RST_DIAGDATA returns the named router register with its side effects. -/
  | diagDataRead (src : Src)
  /-- FAULT_REPORT_INTAKE (R599). The SMC takes a FAULT report into an open case, a new case or its FIFO. -/
  | faultReportIntake
  /-- HANG_CHECK_EXPIRY (R601). After HANGTMO the suspect's sealed step is read again and the case closes or proceeds. -/
  | hangCheckExpiry (slot : Nat)
  /-- RECOVERY_BEGIN (R603). A partition recovery checks its checkpoint and closes the wrappers. -/
  | recoveryBegin (part : Nat)
  /-- RECOVERY_RESTORE (R603). Cores are reset, faulty words rewritten, contexts restored and replay begins. -/
  | recoveryRestore (part : Nat)
  /-- REPLAY_ARRIVAL_FEED (R603). A journal ARRIVAL record is fed to its core's event queue during replay. -/
  | replayArrivalFeed (part : Nat)
  /-- RECOVERY_REJOIN (R603). The replayed partition opens its wrappers, rejoins and closes the case. -/
  | recoveryRejoin (part : Nat)
  /-- SUSPECT_SEARCH (R609). A recurring hang is searched serially and the guilty context quarantined. -/
  | suspectSearch (part : Nat) (ctx : Nat) (guilty : Bool)
  /-- RECOVERY_COPY_WRITE (R598). A section is written into the MRAM recovery copy in the background. -/
  | recoveryCopyWrite
  /-- AVAILABILITY_SAVE (R618). Every second the SMC adds the availability counters into MRAM. -/
  | availabilitySave
  /-- TIMER_FIRE (R626). An armed timer channel fires, reloads if periodic and drives its output. -/
  | timerFire (ch : Nat)
  /-- TIMER_COMPARE_WRITE (R625). A write of TMR_CHnCOMPARE arms the channel when EN is 1. -/
  | timerCompareWrite (src : Src) (ch : Nat) (data : Nat)
  /-- TIMER_CTRL_WRITE (R625). A write of TMR_CHnCTRL arms or disarms the channel. -/
  | timerCtrlWrite (src : Src) (ch : Nat) (data : Nat)
  /-- TIMER_GROUP_START (R629). A write to TMR_GROUP starts the named channels together with spread phases. -/
  | timerGroupStart (src : Src) (data : Nat)
  /-- PULSE_END (R628). A GP pulse driven by a firing ends after its length. -/
  | pulseEnd (ch : Nat)
  /-- LF_MODE_ENTRY (R622). The timebase enters LF mode at the next LFCLK edge. -/
  | lfModeEntry
  /-- LF_MODE_EXIT (R622). The timebase leaves LF mode and resumes 1 GHz counting. -/
  | lfModeExit
  /-- LFCLK_LOST (R623). LF mode without LFCLK holds the timebase and sets LFLOST. -/
  | lfclkLost
  /-- EPHEMERIS_ARM (R635). A write of an Ephemeris alarm's words arms or disarms it against the current horizon. -/
  | ephemerisArm (src : Src) (alarm : Nat) (word : Nat) (data : Nat)
  /-- EPHEMERIS_MESSAGE_SEND (R633). A waiting alarm message is sent once fewer than 16 are in flight. -/
  | ephemerisMessageSend
  /-- PERF_COUNTER_CLEAR (R641). Writing TMR_PCCTRL.CLEAR sets every performance counter to 0. -/
  | perfCounterClear (src : Src)
  /-- PERF_COUNT_REPORT (R640). Units report their increments on the counting bus once per microsecond. -/
  | perfCountReport (events : List Nat)
  /-- DEBUG_HALT_WRITE (R654). A JTAG write to SMC_DBGHALTj sets or clears core halt bits. -/
  | debugHaltWrite (src : Src) (group : Nat) (data : Nat)
  /-- SMC_DEBUG_HALT (R655). JTAG halts the SMC core through its debug module. -/
  | smcDebugHalt
  /-- SMC_DEBUG_RESUME (R655). The SMC core resumes, by debug or forced by PWRFAIL_N. -/
  | smcDebugResume (forced : Bool)
  /-- CSI_LINK_STATE_CHANGE (R412). A camera port's D-PHY lanes enter or leave HS receiving, stop state or ULPS, or lose their source, which changes TND_PnSTAT.LINK. -/
  | csiLinkStateChange (port : Nat) (link : Nat)
  /-- LFCLK_RETURN (R623). LFCLK starts toggling again while LF mode is required, and the held timebase advances by 30,518 at its next rising edge. -/
  | lfclkReturn
  /-- AON_SUPPLY_RETURN (R673). VDD_AON and VDDIO_AON return within their thresholds, ending the supply monitor's hold and starting a cold start as at the end of an internal reset. -/
  | aonSupplyReturn
  /-- SMC_REQUEST_RECEIVE (R324). A MSG_REQ reaching the SMC's attachment is taken by the SMC firmware protocol (a system commit outcome or total, a forwarded fault report, or a LOADED report toward AUTOSTART at device 0) or is answered NOQUEUE. -/
  | smcRequestReceive
  deriving DecidableEq, Repr

end Sys2Proof
end

