-- ==== Sys2Proof/Decode.lean ====
section
/-! DEFINITION. The command that a word of the opcode table spells: the table gives no row any bits, so no word spells one. -/

namespace Sys2Proof

/-- The command that `w` spells in `nbits` bits of the table: none, because every row is a command without bits. -/
def decodeTableWord (_nbits _w : Nat) : Option Instr := none

end Sys2Proof
end

