-- ==== Sys2Proof/Machine/Map.lean ====
section
/-! DEFINITION. Sparse storage by number: a list of key and value pairs in one canonical form, keys strictly rising and no
entry equal to the default. Every sparse piece of State is held so, and equal contents are equal data. -/

namespace Sys2Proof.Machine

/-- Value at key `k`; `d` where nothing is listed. -/
def mapGet {α : Type} (d : α) : List (Nat × α) → Nat → α
  | [], _ => d
  | (j, v) :: t, k => if k = j then v else mapGet d t k

/-- The map without key `k`. -/
def mapDel {α : Type} (m : List (Nat × α)) (k : Nat) : List (Nat × α) := m.filter (fun e => e.1 != k)

/-- The map with key `k` listed as `v`, in rising order of keys. -/
def mapIns {α : Type} : List (Nat × α) → Nat → α → List (Nat × α)
  | [], k, v => [(k, v)]
  | (j, w) :: t, k, v => if k < j then (k, v) :: (j, w) :: t else if k = j then (k, v) :: t else (j, w) :: mapIns t k v

/-- The map with `v` at key `k`: the default is held by listing nothing. -/
def mapSet {α : Type} [DecidableEq α] (d : α) (m : List (Nat × α)) (k : Nat) (v : α) : List (Nat × α) :=
  if v = d then mapDel m k else mapIns m k v

/-- Canonical form: keys strictly rising, no entry equal to the default. -/
abbrev mapWf {α : Type} [DecidableEq α] (d : α) (m : List (Nat × α)) : Prop :=
  (m.map Prod.fst).Pairwise (· < ·) ∧ ∀ e ∈ m, e.2 ≠ d

/-- The map without every key from `lo` up to but not including `hi`. -/
def mapClear {α : Type} (m : List (Nat × α)) (lo hi : Nat) : List (Nat × α) :=
  m.filter (fun e => e.1 < lo || hi ≤ e.1)

end Sys2Proof.Machine
end

