-- ==== Sys2Proof/Machine/Bits.lean ====
section
/-! DEFINITION. Bit fields, sign extension, saturation, step order, byte order and the checksums that the spec names. -/

namespace Sys2Proof.Machine

/-- Bits `[hi:lo]` of a number, as a number. -/
def bits (x hi lo : Nat) : Nat := x / 2 ^ lo % 2 ^ (hi + 1 - lo)

/-- Bit `i` of a number. -/
def bitAt (x i : Nat) : Bool := x / 2 ^ i % 2 == 1

/-- A number with bits `[hi:lo]` replaced by the low bits of `v`. -/
def putBits (x hi lo v : Nat) : Nat :=
  x / 2 ^ (hi + 1) * 2 ^ (hi + 1) + v % 2 ^ (hi + 1 - lo) * 2 ^ lo + x % 2 ^ lo

/-- Field `[hi:lo]` of a register word. -/
def getF (w : Word) (hi lo : Nat) : Nat := bits w.toNat hi lo

/-- A register word with field `[hi:lo]` replaced. -/
def setF (w : Word) (hi lo v : Nat) : Word := BitVec.ofNat 32 (putBits w.toNat hi lo v)

/-- The signed value of the low `n` bits of `x`, two's complement. -/
def toSigned (n x : Nat) : Int :=
  if x % 2 ^ n < 2 ^ (n - 1) then Int.ofNat (x % 2 ^ n) else Int.ofNat (x % 2 ^ n) - 2 ^ n

/-- An integer as an `n`-bit two's complement pattern (it wraps). -/
def toPattern (n : Nat) (x : Int) : Nat := (x % (2 ^ n : Int)).toNat

/-- An integer clamped to the signed range of `n` bits. -/
def satS (n : Nat) (x : Int) : Int := max (-(2 ^ (n - 1) : Int)) (min (2 ^ (n - 1) - 1) x)

/-- An integer clamped to the unsigned range of `n` bits. -/
def satU (n : Nat) (x : Int) : Int := max 0 (min (2 ^ n - 1) x)

/-- A number clamped to the largest value of `n` bits. -/
def satN (n x : Nat) : Nat := min x (2 ^ n - 1)

/-- Arithmetic shift right: floor division by a power of two. -/
def asr (x : Int) (s : Nat) : Int := x / (2 ^ s : Int)

/-- Shift right with rounding to nearest, ties toward plus infinity. -/
def rsr (x : Int) (s : Nat) : Int := if s = 0 then x else (x + 2 ^ (s - 1)) / (2 ^ s : Int)

/-- A list of bytes read as a little-endian number (R9). -/
def leNat : List Byte → Nat
  | [] => 0
  | b :: t => b.toNat + 256 * leNat t

/-- A list of bytes read as a big-endian number (R44). -/
def beNat (bs : List Byte) : Nat := bs.foldl (fun acc b => acc * 256 + b.toNat) 0

/-- `n` little-endian bytes of a number. -/
def leBytes : Nat → Nat → List Byte
  | 0, _ => []
  | n + 1, x => BitVec.ofNat 8 x :: leBytes n (x / 256)

/-- `n` big-endian bytes of a number. -/
def beBytes (n x : Nat) : List Byte := (leBytes n x).reverse

/-- `n` bytes of zero. -/
def zeros (n : Nat) : List Byte := List.replicate n 0

/-- A byte list cut or padded with zeros to `n` bytes. -/
def fitBytes (n : Nat) (bs : List Byte) : List Byte := (bs ++ zeros n).take n

/-- One CRC step, most significant bit first, over a `w`-bit register. -/
def crcStepMsb (w poly : Nat) (crc : Nat) : Nat → Nat → Nat
  | 0, _ => crc
  | n + 1, byte =>
    crcStepMsb w poly
      (if (crc / 2 ^ (w - 1) % 2 != byte / 2 ^ n % 2) then ((crc * 2) % 2 ^ w) ^^^ poly else (crc * 2) % 2 ^ w) n byte

/-- CRC-16 of R255: polynomial 0x1021, initial value 0xFFFF, no reflection, no final XOR. -/
def crc16 (bs : List Byte) : Nat := bs.foldl (fun c b => crcStepMsb 16 0x1021 c 8 b.toNat) 0xFFFF

/-- One reflected CRC step over a byte. -/
def crcStepLsb (poly : Nat) : Nat → Nat → Nat
  | crc, 0 => crc
  | crc, n + 1 => crcStepLsb poly (if crc % 2 = 1 then (crc / 2) ^^^ poly else crc / 2) n

/-- CRC-32 of IEEE 802.3 (R44): reflected polynomial 0xEDB8_8320, initial value and final XOR all ones. -/
def crc32 (bs : List Byte) : Nat :=
  (bs.foldl (fun c b => crcStepLsb 0xEDB88320 (c ^^^ b.toNat) 8) 0xFFFFFFFF) ^^^ 0xFFFFFFFF

/-- Step order of R205: `a` is at or after `b` when `a - b` modulo 2^32 is below 2^31. -/
def stepGe (a b : Nat) : Bool := (a + 2 ^ 32 - b % 2 ^ 32) % 2 ^ 32 < 2 ^ 31

/-- Step order of R205, strict. -/
def stepGt (a b : Nat) : Bool := stepGe a b && a % 2 ^ 32 != b % 2 ^ 32

/-- The difference of two 32-bit step numbers, modulo 2^32. -/
def stepSub (a b : Nat) : Nat := (a + 2 ^ 32 - b % 2 ^ 32) % 2 ^ 32

/-- Signed difference of two 16-bit step tags. -/
def tagDiff (a b : Nat) : Int := toSigned 16 (a + 2 ^ 16 - b % 2 ^ 16)

/-- The first index in a list at which a test holds. -/
def firstIdx {α : Type} (p : α → Bool) : List α → Option Nat
  | [] => none
  | x :: t => if p x then some 0 else (firstIdx p t).map (· + 1)

/-- A list with entry `i` replaced. -/
def setIdx {α : Type} (l : List α) (i : Nat) (v : α) : List α := l.set i v

/-- A list without entry `i`. -/
def dropIdx {α : Type} (l : List α) (i : Nat) : List α := l.eraseIdx i

end Sys2Proof.Machine
end

