-- ==== Sys2Proof/Machine/Registers.lean ====
section
/-! DEFINITION. The register maps of the spec: every register's address, fields with their access codes (R10) and reset
value, taken from the maps of its chapter. A register of a family is found by its index; a reset value that the spec
leaves to fuses or MRAM is the one that assumption log 2 names. -/

namespace Sys2Proof.Machine

/-- Access codes of R10. -/
inductive Access where
  | rw | ro | wo | w1c | w1s | rc | rwi | rwm
  deriving DecidableEq, Repr

/-- One register, or one family of registers: `dims` are (count, stride) pairs, the widest stride first; `wide` is 1 for
the low register of a wide counter (R14) and 2 for its high register; `mram` marks the bits held in MRAM (R580). -/
structure RegRow where
  name   : String
  base   : Nat
  dims   : List (Nat × Nat)
  fields : List (Nat × Nat × Access)
  reset  : Nat
  mram   : Nat
  wide   : Nat
  deriving DecidableEq, Repr

/-- An offset is an index into the family's dimensions. -/
def dimsOk : List (Nat × Nat) → Nat → Bool
  | [], off => off == 0
  | (n, st) :: t, off => off / st < n && dimsOk t (off % st)

/-- The row holds the register at a device address. -/
def RegRow.covers (r : RegRow) (a : Nat) : Bool := r.base ≤ a && dimsOk r.dims (a - r.base)

/-- Register maps, part 0. -/
def regTable0 : List RegRow := [
  ⟨"SYS_DEVID", 0x0, [], [(31, 20, .ro), (19, 8, .ro), (7, 4, .ro), (3, 2, .ro), (1, 1, .ro)], 0xa5296410, 0x0, 0⟩,
  ⟨"SYS_CAPS", 0x4, [], [(31, 24, .ro), (23, 12, .ro)], 0x194b0000, 0x0, 0⟩,
  ⟨"SYS_ACCERR_STAT", 0x10, [], [(31, 31, .w1c), (30, 29, .ro), (28, 28, .ro), (27, 26, .ro)], 0x0, 0x0, 0⟩,
  ⟨"SYS_ACCERR_ADDR_LO", 0x14, [], [(31, 0, .ro)], 0x0, 0x0, 0⟩,
  ⟨"SYS_ACCERR_ADDR_HI", 0x18, [], [(7, 0, .ro)], 0x0, 0x0, 0⟩,
  ⟨"SYS_ACCERR_CNT", 0x1c, [], [(31, 0, .rc)], 0x0, 0x0, 0⟩,
  ⟨"SYS_GPCFG", 0x20, [], [(31, 16, .rwi), (15, 0, .rwi)], 0xffff0000, 0xffffffff, 0⟩,
  ⟨"SYS_GPIN", 0x24, [], [(15, 0, .ro)], 0x0, 0x0, 0⟩,
  ⟨"SMC_IMGCMD", 0x2000, [], [(31, 24, .wo), (16, 16, .wo), (15, 0, .wo)], 0x0, 0x0, 0⟩,
  ⟨"SMC_IMGSTAT", 0x2004, [], [(31, 29, .ro), (28, 27, .ro), (26, 26, .ro), (25, 25, .ro), (24, 24, .ro), (23, 23, .ro), (22, 22, .ro), (19, 12, .ro), (11, 0, .ro)], 0x0, 0x0, 0⟩,
  ⟨"SMC_IMGHADDR_LO", 0x2008, [], [(31, 0, .rwi)], 0x0, 0x0, 0⟩,
  ⟨"SMC_IMGHADDR_HI", 0x200c, [], [(31, 0, .rwi)], 0x0, 0x0, 0⟩,
  ⟨"SMC_IMGHLEN", 0x2010, [], [(31, 0, .rwi)], 0x0, 0x0, 0⟩,
  ⟨"SMC_IMGSLOT", 0x2014, [(2, 0x8)], [(31, 30, .ro), (29, 28, .ro)], 0x0, 0x0, 0⟩,
  ⟨"SMC_IMGSLOT_VER", 0x2018, [(2, 0x8)], [(31, 0, .ro)], 0x0, 0x0, 0⟩,
  ⟨"SMC_IMGBOOT", 0x2024, [], [(2, 2, .rwi), (1, 1, .rwi), (0, 0, .rwi)], 0x0, 0x7, 0⟩,
  ⟨"SMC_IMGDIG", 0x2040, [(8, 0x4)], [(31, 0, .ro)], 0x0, 0x0, 0⟩,
  ⟨"NCR_CTRL", 0x100300000, [(1024, 0x400000)], [(18, 6, .rwi), (1, 1, .rwi)], 0x0, 0x0, 0⟩,
  ⟨"NCR_STAT", 0x100300004, [(1024, 0x400000)], [(31, 29, .ro)], 0xa0000000, 0x0, 0⟩,
  ⟨"NCR_STEP", 0x100300008, [(1024, 0x400000)], [(31, 0, .ro)], 0x0, 0x0, 0⟩,
  ⟨"NCR_KEYBASE", 0x100300010, [(1024, 0x400000)], [(31, 0, .rwi)], 0x0, 0x0, 0⟩,
  ⟨"NCR_KEYCFG", 0x100300014, [(1024, 0x400000)], [(4, 0, .rwi)], 0x5, 0x0, 0⟩,
  ⟨"NCR_AXBASE", 0x100300018, [(1024, 0x400000)], [(21, 0, .rwi)], 0x0, 0x0, 0⟩,
  ⟨"NCR_AXLEN", 0x10030001c, [(1024, 0x400000)], [(14, 0, .rwi)], 0x0, 0x0, 0⟩,
  ⟨"NCR_DPOOL", 0x100300020, [(1024, 0x400000)], [(25, 16, .rwi), (8, 0, .rwi)], 0x0, 0x0, 0⟩,
  ⟨"NCR_SIDE", 0x100300024, [(1024, 0x400000)], [(28, 16, .rwi), (8, 0, .rwi)], 0x0, 0x0, 0⟩,
  ⟨"NCR_UCLIMIT", 0x100300028, [(1024, 0x400000)], [(11, 0, .rwi)], 0x400, 0x0, 0⟩,
  ⟨"NCR_EQSTAT", 0x100300030, [(1024, 0x400000)], [(28, 16, .rc), (12, 0, .ro)], 0x0, 0x0, 0⟩,
  ⟨"NCR_ERRSTAT", 0x100300034, [(1024, 0x400000)], [(6, 6, .w1c), (5, 5, .w1c), (4, 4, .w1c), (3, 3, .w1c), (2, 2, .w1c), (1, 1, .w1c), (0, 0, .w1c)], 0x0, 0x0, 0⟩,
  ⟨"NCR_UCFAULT", 0x100300038, [(1024, 0x400000)], [(31, 29, .ro), (27, 24, .ro), (23, 13, .ro), (10, 0, .ro)], 0x0, 0x0, 0⟩]

/-- Register maps, part 1. -/
def regTable1 : List RegRow := [
  ⟨"NCR_UCMAX", 0x10030003c, [(1024, 0x400000)], [(12, 0, .rc)], 0x0, 0x0, 0⟩,
  ⟨"NCR_EVCNT", 0x100300040, [(1024, 0x400000)], [(31, 0, .ro)], 0x0, 0x0, 1⟩,
  ⟨"NCR_EVCNT_H", 0x100300044, [(1024, 0x400000)], [(15, 0, .ro)], 0x0, 0x0, 2⟩,
  ⟨"NCR_SYNCNT", 0x100300048, [(1024, 0x400000)], [(31, 0, .ro)], 0x0, 0x0, 1⟩,
  ⟨"NCR_SYNCNT_H", 0x10030004c, [(1024, 0x400000)], [(15, 0, .ro)], 0x0, 0x0, 2⟩,
  ⟨"NCR_RUNCNT", 0x100300050, [(1024, 0x400000)], [(31, 0, .ro)], 0x0, 0x0, 1⟩,
  ⟨"NCR_RUNCNT_H", 0x100300054, [(1024, 0x400000)], [(15, 0, .ro)], 0x0, 0x0, 2⟩,
  ⟨"NCR_DROPCNT", 0x100300060, [(1024, 0x400000)], [(31, 0, .rc)], 0x0, 0x0, 0⟩,
  ⟨"NCR_LATECNT", 0x100300064, [(1024, 0x400000)], [(31, 0, .rc)], 0x0, 0x0, 0⟩,
  ⟨"NCR_NOMATCHCNT", 0x100300068, [(1024, 0x400000)], [(31, 0, .rc)], 0x0, 0x0, 0⟩,
  ⟨"NCR_SATCNT", 0x10030006c, [(1024, 0x400000)], [(31, 0, .rc)], 0x0, 0x0, 0⟩,
  ⟨"NCR_BUSYCNT", 0x100300070, [(1024, 0x400000)], [(31, 0, .rc)], 0x0, 0x0, 0⟩,
  ⟨"NCR_ECCCNT", 0x100300074, [(1024, 0x400000)], [(31, 0, .rc)], 0x0, 0x0, 0⟩,
  ⟨"NCR_ESCMISSCNT", 0x100300078, [(1024, 0x400000)], [(31, 0, .rc)], 0x0, 0x0, 0⟩,
  ⟨"NCR_GRIDSTAT", 0x10030007c, [(1024, 0x400000)], [(1, 1, .w1c), (0, 0, .w1c)], 0x0, 0x0, 0⟩,
  ⟨"NCR_AXWIN_MATCH", 0x100300100, [(1024, 0x400000), (16, 0x10)], [(31, 0, .rwi)], 0x0, 0x0, 0⟩,
  ⟨"NCR_AXWIN_MASK", 0x100300104, [(1024, 0x400000), (16, 0x10)], [(31, 0, .rwi)], 0x0, 0x0, 0⟩,
  ⟨"NCR_AXWIN_MAP", 0x100300108, [(1024, 0x400000), (16, 0x10)], [(31, 31, .rwi), (18, 14, .rwi), (13, 0, .rwi)], 0x0, 0x0, 0⟩,
  ⟨"NCR_HZCFG", 0x100300200, [(1024, 0x400000)], [(15, 0, .rwi)], 0x1f4, 0x0, 0⟩,
  ⟨"NCR_HZLIST", 0x100300210, [(1024, 0x400000), (8, 0x4)], [(31, 31, .rwi), (30, 30, .rwi), (22, 16, .rwi), (7, 0, .rwi)], 0x10000, 0x0, 0⟩,
  ⟨"NCR_HZRPT", 0x100300230, [(1024, 0x400000), (8, 0x4)], [(31, 31, .rwi), (7, 0, .rwi)], 0x0, 0x0, 0⟩,
  ⟨"NCR_HZVAL", 0x100300250, [(1024, 0x400000), (8, 0x4)], [(31, 0, .ro)], 0xffffffff, 0x0, 0⟩,
  ⟨"NCR_HZLAG", 0x100300270, [(1024, 0x400000)], [(31, 16, .rc), (15, 0, .ro)], 0x0, 0x0, 0⟩,
  ⟨"NCR_HZSTAT", 0x100300274, [(1024, 0x400000)], [(31, 29, .ro), (27, 27, .ro), (26, 24, .ro), (15, 0, .ro)], 0x0, 0x0, 0⟩,
  ⟨"NCR_HZTOCNT", 0x100300278, [(1024, 0x400000)], [(31, 0, .rc)], 0x0, 0x0, 0⟩,
  ⟨"NCR_SEALED", 0x10030027c, [(1024, 0x400000)], [(31, 0, .ro)], 0xffffffff, 0x0, 0⟩,
  ⟨"VLT_STAT", 0x201ff0000, [(16, 0x2000000)], [(31, 30, .ro), (29, 29, .ro), (28, 28, .ro)], 0x0, 0x0, 0⟩,
  ⟨"VLT_ERRSTAT", 0x201ff0004, [(16, 0x2000000)], [(4, 4, .w1c), (3, 3, .w1c), (2, 2, .w1c), (1, 1, .w1c), (0, 0, .w1c)], 0x0, 0x0, 0⟩,
  ⟨"VLT_UEADDR", 0x201ff0008, [(16, 0x2000000)], [(24, 4, .ro)], 0x0, 0x0, 0⟩,
  ⟨"VLT_SCRUB", 0x201ff000c, [(16, 0x2000000)], [(31, 31, .rwi), (23, 8, .rwi), (7, 0, .rwi)], 0x80006404, 0x80ffffff, 0⟩]

/-- Register maps, part 2. -/
def regTable2 : List RegRow := [
  ⟨"VLT_REPAIR", 0x201ff0010, [(16, 0x2000000)], [(31, 27, .ro), (26, 16, .ro), (10, 0, .ro)], 0xc0000000, 0x7ff0000, 0⟩,
  ⟨"VLT_SCRUBPASS", 0x201ff0014, [(16, 0x2000000)], [(31, 0, .ro)], 0x0, 0x0, 0⟩,
  ⟨"VLT_CECNT", 0x201ff0020, [(16, 0x2000000)], [(31, 0, .rc)], 0x0, 0x0, 0⟩,
  ⟨"VLT_UECNT", 0x201ff0024, [(16, 0x2000000)], [(31, 0, .rc)], 0x0, 0x0, 0⟩,
  ⟨"VLT_BUSYCNT", 0x201ff0028, [(16, 0x2000000)], [(31, 0, .rc)], 0x0, 0x0, 0⟩,
  ⟨"VLT_RANGECNT", 0x201ff002c, [(16, 0x2000000)], [(31, 0, .rc)], 0x0, 0x0, 0⟩,
  ⟨"VLT_THRCNT", 0x201ff0030, [(16, 0x2000000)], [(31, 0, .rc)], 0x0, 0x0, 0⟩,
  ⟨"VLT_FETCHWD", 0x201ff0040, [(16, 0x2000000)], [(31, 0, .ro)], 0x0, 0x0, 1⟩,
  ⟨"VLT_FETCHWD_H", 0x201ff0044, [(16, 0x2000000)], [(15, 0, .ro)], 0x0, 0x0, 2⟩,
  ⟨"VLT_TMPWD", 0x201ff0048, [(16, 0x2000000)], [(31, 0, .ro)], 0x0, 0x0, 1⟩,
  ⟨"VLT_TMPWD_H", 0x201ff004c, [(16, 0x2000000)], [(15, 0, .ro)], 0x0, 0x0, 2⟩,
  ⟨"VLT_CKWD", 0x201ff0050, [(16, 0x2000000)], [(31, 0, .ro)], 0x0, 0x0, 1⟩,
  ⟨"VLT_CKWD_H", 0x201ff0054, [(16, 0x2000000)], [(15, 0, .ro)], 0x0, 0x0, 2⟩,
  ⟨"VLT_CKSTAT", 0x201ff0100, [(16, 0x2000000)], [(31, 31, .ro), (30, 30, .ro), (29, 29, .ro), (28, 28, .w1c)], 0x0, 0x0, 0⟩,
  ⟨"VLT_CKSTEP", 0x201ff0104, [(16, 0x2000000)], [(31, 0, .ro)], 0x0, 0x0, 0⟩,
  ⟨"VLT_JRNL", 0x201ff0108, [(16, 0x2000000)], [(20, 0, .ro)], 0x0, 0x0, 0⟩,
  ⟨"VLT_JLEN", 0x201ff010c, [(16, 0x2000000)], [(20, 0, .ro)], 0x0, 0x0, 0⟩,
  ⟨"VLT_JUSED", 0x201ff0110, [(16, 0x2000000)], [(20, 0, .ro)], 0x0, 0x0, 0⟩,
  ⟨"VLT_CKCNT", 0x201ff0114, [(16, 0x2000000)], [(31, 0, .rc)], 0x0, 0x0, 0⟩,
  ⟨"VLT_CKTIME", 0x201ff0118, [(16, 0x2000000)], [(31, 0, .ro)], 0x0, 0x0, 0⟩,
  ⟨"SMC_RUNCMD", 0x2100, [], [(31, 24, .wo), (15, 0, .wo)], 0x0, 0x0, 0⟩,
  ⟨"SMC_RUNSTAT", 0x2104, [], [(31, 29, .ro), (28, 28, .ro), (27, 27, .ro), (26, 26, .ro), (25, 25, .ro), (23, 16, .ro)], 0x0, 0x0, 0⟩,
  ⟨"SMC_STEPCFG", 0x2108, [], [(27, 24, .ro), (23, 23, .ro), (15, 0, .ro)], 0x2000064, 0x0, 0⟩,
  ⟨"SMC_EPOCH", 0x210c, [], [(31, 16, .ro), (15, 0, .ro)], 0x10001, 0x0, 0⟩,
  ⟨"SMC_DEVHZ", 0x2110, [], [(31, 0, .ro)], 0xffffffff, 0x0, 0⟩,
  ⟨"SMC_DEVHZSRC", 0x2114, [], [(31, 31, .ro), (19, 16, .ro), (9, 0, .ro)], 0x0, 0x0, 0⟩,
  ⟨"SMC_SCHED", 0x2118, [], [(31, 0, .ro)], 0x0, 0x0, 0⟩,
  ⟨"SMC_LAGMAX", 0x211c, [], [(31, 16, .rc), (15, 15, .ro), (13, 10, .ro), (9, 0, .ro)], 0x0, 0x0, 0⟩,
  ⟨"SMC_MODEGEN", 0x2120, [], [(15, 0, .ro)], 0x0, 0x0, 0⟩,
  ⟨"SMC_COMMITSTEP", 0x2124, [], [(31, 0, .ro)], 0x0, 0x0, 0⟩]

/-- Register maps, part 3. -/
def regTable3 : List RegRow := [
  ⟨"SMC_MODEEXP", 0x2128, [], [(15, 0, .ro)], 0x0, 0x0, 0⟩,
  ⟨"SMC_MODEACK", 0x212c, [], [(31, 16, .ro), (15, 0, .ro)], 0x0, 0x0, 0⟩,
  ⟨"SMC_ABORTCNT", 0x2150, [], [(31, 0, .rc)], 0x0, 0x0, 0⟩,
  ⟨"SMC_PARTGEN", 0x2130, [(8, 0x4)], [(31, 16, .ro), (15, 0, .ro)], 0x0, 0x0, 0⟩,
  ⟨"SMC_DRAIN", 0x2160, [], [(31, 16, .ro), (15, 0, .ro)], 0x0, 0x0, 0⟩,
  ⟨"RTR_ID", 0x10000000, [(1024, 0x10000)], [(21, 16, .ro), (12, 8, .ro), (7, 6, .ro), (5, 5, .ro)], 0x0, 0x0, 0⟩,
  ⟨"RTR_ERRSTAT", 0x10000004, [(1024, 0x10000)], [(4, 4, .w1c), (3, 3, .w1c), (2, 2, .w1c), (1, 1, .w1c), (0, 0, .w1c)], 0x0, 0x0, 0⟩,
  ⟨"RTR_RETSTAT", 0x10000008, [(1024, 0x10000)], [(25, 16, .rc), (9, 0, .ro)], 0x0, 0x0, 0⟩,
  ⟨"RTR_INJSTEP", 0x10000010, [(1024, 0x10000)], [(31, 0, .ro)], 0x0, 0x0, 0⟩,
  ⟨"RTR_INJCNT", 0x10000014, [(1024, 0x10000)], [(31, 0, .ro)], 0x0, 0x0, 0⟩,
  ⟨"RTR_OUTST", 0x10000018, [(1024, 0x10000)], [(19, 0, .ro)], 0x0, 0x0, 0⟩,
  ⟨"RTR_CRCCNT", 0x10000020, [(1024, 0x10000)], [(31, 0, .rc)], 0x0, 0x0, 0⟩,
  ⟨"RTR_HOPCNT", 0x10000024, [(1024, 0x10000)], [(31, 0, .rc)], 0x0, 0x0, 0⟩,
  ⟨"RTR_KINDCNT", 0x10000028, [(1024, 0x10000)], [(31, 0, .rc)], 0x0, 0x0, 0⟩,
  ⟨"RTR_NOPORTCNT", 0x1000002c, [(1024, 0x10000)], [(31, 0, .rc)], 0x0, 0x0, 0⟩,
  ⟨"RTR_ESCCNT", 0x10000030, [(1024, 0x10000)], [(31, 0, .rc)], 0x0, 0x0, 0⟩,
  ⟨"RTR_RETWAIT", 0x10000034, [(1024, 0x10000)], [(31, 0, .rc)], 0x0, 0x0, 0⟩,
  ⟨"RTR_MAP", 0x10008000, [(1024, 0x10000), (512, 0x4)], [(31, 31, .ro), (26, 16, .ro), (15, 15, .ro), (10, 0, .ro)], 0x0, 0x0, 0⟩,
  ⟨"RTR_FLITN", 0x10000040, [(1024, 0x10000)], [(31, 0, .ro)], 0x0, 0x0, 1⟩,
  ⟨"RTR_FLITN_H", 0x10000044, [(1024, 0x10000)], [(15, 0, .ro)], 0x0, 0x0, 2⟩,
  ⟨"RTR_FLITE", 0x10000048, [(1024, 0x10000)], [(31, 0, .ro)], 0x0, 0x0, 1⟩,
  ⟨"RTR_FLITE_H", 0x1000004c, [(1024, 0x10000)], [(15, 0, .ro)], 0x0, 0x0, 2⟩,
  ⟨"RTR_FLITS", 0x10000050, [(1024, 0x10000)], [(31, 0, .ro)], 0x0, 0x0, 1⟩,
  ⟨"RTR_FLITS_H", 0x10000054, [(1024, 0x10000)], [(15, 0, .ro)], 0x0, 0x0, 2⟩,
  ⟨"RTR_FLITW", 0x10000058, [(1024, 0x10000)], [(31, 0, .ro)], 0x0, 0x0, 1⟩,
  ⟨"RTR_FLITW_H", 0x1000005c, [(1024, 0x10000)], [(15, 0, .ro)], 0x0, 0x0, 2⟩,
  ⟨"RTR_FLITL", 0x10000060, [(1024, 0x10000)], [(31, 0, .ro)], 0x0, 0x0, 1⟩,
  ⟨"RTR_FLITL_H", 0x10000064, [(1024, 0x10000)], [(15, 0, .ro)], 0x0, 0x0, 2⟩,
  ⟨"RTR_FLITX", 0x10000068, [(1024, 0x10000)], [(31, 0, .ro)], 0x0, 0x0, 1⟩,
  ⟨"RTR_FLITX_H", 0x1000006c, [(1024, 0x10000)], [(15, 0, .ro)], 0x0, 0x0, 2⟩]

/-- Register maps, part 4. -/
def regTable4 : List RegRow := [
  ⟨"RTR_BANK", 0x10001000, [(1024, 0x10000)], [(31, 16, .ro), (1, 1, .ro), (0, 0, .ro)], 0x0, 0x0, 0⟩,
  ⟨"RTR_CMBSTAT", 0x10001004, [(1024, 0x10000)], [(30, 24, .rc), (22, 16, .ro), (6, 0, .ro)], 0x0, 0x0, 0⟩,
  ⟨"RTR_RTERR", 0x10001008, [(1024, 0x10000)], [(1, 1, .w1c), (0, 0, .w1c)], 0x0, 0x0, 0⟩,
  ⟨"RTR_DRAINOUT", 0x1000100c, [(1024, 0x10000)], [(19, 0, .ro)], 0x0, 0x0, 0⟩,
  ⟨"RTR_SUMMRG", 0x10001020, [(1024, 0x10000)], [(31, 0, .rc)], 0x0, 0x0, 0⟩,
  ⟨"RTR_MINFWD", 0x10001024, [(1024, 0x10000)], [(31, 0, .rc)], 0x0, 0x0, 0⟩,
  ⟨"RTR_FLTMRG", 0x10001028, [(1024, 0x10000)], [(31, 0, .rc)], 0x0, 0x0, 0⟩,
  ⟨"RTR_DEFCNT", 0x1000102c, [(1024, 0x10000)], [(31, 0, .rc)], 0x0, 0x0, 0⟩,
  ⟨"RTR_CMBMISS", 0x10001030, [(1024, 0x10000)], [(31, 0, .rc)], 0x0, 0x0, 0⟩,
  ⟨"RTR_INPORTCNT", 0x10001034, [(1024, 0x10000)], [(31, 0, .rc)], 0x0, 0x0, 0⟩,
  ⟨"RTR_LOOKUP", 0x10001040, [(1024, 0x10000)], [(31, 0, .ro)], 0x0, 0x0, 1⟩,
  ⟨"RTR_LOOKUP_H", 0x10001044, [(1024, 0x10000)], [(15, 0, .ro)], 0x0, 0x0, 2⟩,
  ⟨"ARB_RTR_GRANT", 0x10009000, [(1024, 0x10000), (6, 0x80), (7, 0x10)], [(31, 0, .ro)], 0x0, 0x0, 0⟩,
  ⟨"ARB_RTR_WAIT", 0x10009004, [(1024, 0x10000), (6, 0x80), (7, 0x10)], [(31, 0, .ro)], 0x0, 0x0, 1⟩,
  ⟨"ARB_RTR_WAIT_H", 0x10009008, [(1024, 0x10000), (6, 0x80), (7, 0x10)], [(15, 0, .ro)], 0x0, 0x0, 2⟩,
  ⟨"ARB_RTR_LONG", 0x1000900c, [(1024, 0x10000), (6, 0x80), (7, 0x10)], [(15, 0, .rc)], 0x0, 0x0, 0⟩,
  ⟨"ARB_VLT_GRANT", 0x201ff1000, [(16, 0x2000000), (20, 0x10)], [(31, 0, .ro)], 0x0, 0x0, 0⟩,
  ⟨"ARB_VLT_WAIT", 0x201ff1004, [(16, 0x2000000), (20, 0x10)], [(31, 0, .ro)], 0x0, 0x0, 1⟩,
  ⟨"ARB_VLT_WAIT_H", 0x201ff1008, [(16, 0x2000000), (20, 0x10)], [(15, 0, .ro)], 0x0, 0x0, 2⟩,
  ⟨"ARB_VLT_LONG", 0x201ff100c, [(16, 0x2000000), (20, 0x10)], [(15, 0, .rc)], 0x0, 0x0, 0⟩,
  ⟨"ARB_LDL_GRANT", 0x1011000, [(32, 0x10)], [(31, 0, .ro)], 0x0, 0x0, 0⟩,
  ⟨"ARB_LDL_WAIT", 0x1011004, [(32, 0x10)], [(31, 0, .ro)], 0x0, 0x0, 1⟩,
  ⟨"ARB_LDL_WAIT_H", 0x1011008, [(32, 0x10)], [(15, 0, .ro)], 0x0, 0x0, 2⟩,
  ⟨"ARB_LDL_LONG", 0x101100c, [(32, 0x10)], [(15, 0, .rc)], 0x0, 0x0, 0⟩,
  ⟨"MSG_STAT", 0x100310000, [(1024, 0x400000)], [(5, 5, .w1c), (4, 4, .w1c), (3, 3, .w1c), (2, 2, .w1c), (1, 1, .w1c), (0, 0, .w1c)], 0x0, 0x0, 0⟩,
  ⟨"MSG_RELEASE", 0x100310004, [(1024, 0x400000)], [(6, 0, .wo)], 0x0, 0x0, 0⟩,
  ⟨"MSG_REFCNT", 0x100310008, [(1024, 0x400000)], [(31, 0, .rc)], 0x0, 0x0, 0⟩,
  ⟨"MSG_SDERRCNT", 0x10031000c, [(1024, 0x400000)], [(31, 0, .rc)], 0x0, 0x0, 0⟩,
  ⟨"MSG_INJCNT", 0x100310040, [(1024, 0x400000)], [(31, 0, .ro)], 0x0, 0x0, 0⟩,
  ⟨"MSG_SELCFG", 0x100310010, [(1024, 0x400000), (4, 0x8)], [(31, 31, .rwi), (30, 30, .rwi), (29, 29, .rwi), (18, 16, .rwi), (15, 0, .rwi)], 0x0, 0x0, 0⟩]

/-- Register maps, part 5. -/
def regTable5 : List RegRow := [
  ⟨"MSG_SELPOP", 0x100310014, [(1024, 0x400000), (4, 0x8)], [(31, 31, .ro), (30, 24, .ro), (14, 0, .ro)], 0x0, 0x0, 0⟩,
  ⟨"MSG_QCFG", 0x100311000, [(1024, 0x400000), (128, 0x10)], [(31, 31, .rwi), (30, 29, .rwi), (28, 28, .rwi), (27, 16, .rwi)], 0x0, 0x0, 0⟩,
  ⟨"MSG_QLAND", 0x100311004, [(1024, 0x400000), (128, 0x10)], [(27, 16, .rwi), (10, 0, .rwi)], 0x0, 0x0, 0⟩,
  ⟨"MSG_QRING", 0x100311008, [(1024, 0x400000), (128, 0x10)], [(27, 16, .rwi), (3, 0, .rwi)], 0x0, 0x0, 0⟩,
  ⟨"MSG_QPTR", 0x10031100c, [(1024, 0x400000), (128, 0x10)], [(26, 18, .ro), (17, 9, .ro), (8, 0, .ro)], 0x0, 0x0, 0⟩,
  ⟨"MSG_QACC", 0x100312000, [(1024, 0x400000), (128, 0x4)], [(31, 0, .rc)], 0x0, 0x0, 0⟩,
  ⟨"MSG_QHOLD", 0x100312200, [(1024, 0x400000), (128, 0x4)], [(31, 0, .rc)], 0x0, 0x0, 0⟩,
  ⟨"MSG_SDKEY", 0x100313000, [(1024, 0x400000), (32, 0x20)], [(31, 0, .rwi)], 0x0, 0x0, 0⟩,
  ⟨"MSG_SDLAND", 0x100313004, [(1024, 0x400000), (32, 0x20)], [(31, 28, .rwi), (27, 23, .rwi), (22, 17, .rwi), (14, 0, .rwi)], 0x0, 0x0, 0⟩,
  ⟨"MSG_SDTMO", 0x100313008, [(1024, 0x400000), (32, 0x20)], [(15, 0, .rwi)], 0x0, 0x0, 0⟩,
  ⟨"MSG_SDSTAT", 0x10031300c, [(1024, 0x400000), (32, 0x20)], [(31, 24, .ro), (23, 20, .ro), (19, 15, .ro), (3, 0, .ro)], 0x0, 0x0, 0⟩,
  ⟨"MSG_SDSENT", 0x100313010, [(1024, 0x400000), (32, 0x20)], [(31, 0, .rc)], 0x0, 0x0, 0⟩,
  ⟨"MSG_SDSTALL", 0x100313014, [(1024, 0x400000), (32, 0x20)], [(31, 0, .rc)], 0x0, 0x0, 0⟩,
  ⟨"MSG_SDERR", 0x100313018, [(1024, 0x400000), (32, 0x20)], [(31, 0, .rc)], 0x0, 0x0, 0⟩,
  ⟨"NCR_TAPCTRL", 0x100320000, [(1024, 0x400000)], [(31, 31, .rwi), (29, 21, .rwi), (11, 0, .rwi)], 0x0, 0x0, 0⟩,
  ⟨"NCR_TAPSTAT", 0x100320004, [(1024, 0x400000)], [(15, 8, .ro), (7, 0, .ro)], 0x0, 0x0, 0⟩,
  ⟨"NCR_TAPLOST", 0x100320008, [(1024, 0x400000)], [(31, 0, .rc)], 0x0, 0x0, 0⟩,
  ⟨"NCR_TAPWIN", 0x10032000c, [(1024, 0x400000)], [(31, 0, .ro)], 0x0, 0x0, 0⟩,
  ⟨"NCR_TAPCFG0", 0x100321000, [(1024, 0x400000), (256, 0x8)], [(31, 31, .rwi), (30, 26, .rwi), (25, 21, .rwi), (12, 0, .rwi)], 0x0, 0x0, 0⟩,
  ⟨"NCR_TAPCFG1", 0x100321004, [(1024, 0x400000), (256, 0x8)], [(12, 0, .rwi)], 0x0, 0x0, 0⟩,
  ⟨"NCR_TAPCNT", 0x100322000, [(1024, 0x400000), (256, 0x4)], [(16, 16, .ro), (15, 0, .ro)], 0x0, 0x0, 0⟩,
  ⟨"TMP_STAT", 0x201ff8000, [(16, 0x2000000)], [(31, 29, .ro), (28, 28, .ro), (15, 0, .ro)], 0x0, 0x0, 0⟩,
  ⟨"TMP_EPOCHDONE", 0x201ff8004, [(16, 0x2000000)], [(31, 0, .ro)], 0xffffffff, 0x0, 0⟩,
  ⟨"TMP_LFSR", 0x201ff8008, [(16, 0x2000000)], [(31, 0, .ro)], 0x1, 0x0, 0⟩,
  ⟨"TMP_ERRSTAT", 0x201ff800c, [(16, 0x2000000)], [(3, 3, .w1c), (2, 2, .w1c), (1, 1, .w1c), (0, 0, .w1c)], 0x0, 0x0, 0⟩,
  ⟨"TMP_REWSTAT", 0x201ff8018, [(16, 0x2000000)], [(23, 12, .ro), (11, 0, .ro)], 0x0, 0x0, 0⟩,
  ⟨"TMP_REWCUR", 0x201ff8010, [(16, 0x2000000)], [(31, 0, .ro)], 0x0, 0x0, 0⟩,
  ⟨"TMP_REWNEXT", 0x201ff8014, [(16, 0x2000000)], [(31, 0, .ro)], 0x0, 0x0, 0⟩,
  ⟨"TMP_PASSCYC", 0x201ff801c, [(16, 0x2000000)], [(31, 0, .ro)], 0x0, 0x0, 0⟩,
  ⟨"TMP_PASSMAX", 0x201ff8020, [(16, 0x2000000)], [(31, 0, .rc)], 0x0, 0x0, 0⟩]

/-- Register maps, part 6. -/
def regTable6 : List RegRow := [
  ⟨"TMP_PRUNECNT", 0x201ff8040, [(16, 0x2000000)], [(31, 0, .rc)], 0x0, 0x0, 0⟩,
  ⟨"TMP_CREATECNT", 0x201ff8044, [(16, 0x2000000)], [(31, 0, .rc)], 0x0, 0x0, 0⟩,
  ⟨"TMP_NORMCNT", 0x201ff8048, [(16, 0x2000000)], [(31, 0, .rc)], 0x0, 0x0, 0⟩,
  ⟨"TMP_WSATCNT", 0x201ff804c, [(16, 0x2000000)], [(31, 0, .rc)], 0x0, 0x0, 0⟩,
  ⟨"TMP_REWLATECNT", 0x201ff8050, [(16, 0x2000000)], [(31, 0, .rc)], 0x0, 0x0, 0⟩,
  ⟨"TMP_PREDISCNT", 0x201ff8054, [(16, 0x2000000)], [(31, 0, .rc)], 0x0, 0x0, 0⟩,
  ⟨"TMP_POISONCNT", 0x201ff8058, [(16, 0x2000000)], [(31, 0, .rc)], 0x0, 0x0, 0⟩,
  ⟨"TMP_TOABSCNT", 0x201ff805c, [(16, 0x2000000)], [(31, 0, .rc)], 0x0, 0x0, 0⟩,
  ⟨"TMP_SYNUPD", 0x201ff8080, [(16, 0x2000000)], [(31, 0, .ro)], 0x0, 0x0, 1⟩,
  ⟨"TMP_SYNUPD_H", 0x201ff8084, [(16, 0x2000000)], [(15, 0, .ro)], 0x0, 0x0, 2⟩,
  ⟨"TMP_PREREC", 0x201ff8088, [(16, 0x2000000)], [(31, 0, .ro)], 0x0, 0x0, 1⟩,
  ⟨"TMP_PREREC_H", 0x201ff808c, [(16, 0x2000000)], [(15, 0, .ro)], 0x0, 0x0, 2⟩,
  ⟨"TMP_POSTSPK", 0x201ff8090, [(16, 0x2000000)], [(31, 0, .ro)], 0x0, 0x0, 1⟩,
  ⟨"TMP_POSTSPK_H", 0x201ff8094, [(16, 0x2000000)], [(15, 0, .ro)], 0x0, 0x0, 2⟩,
  ⟨"TMP_CTRL", 0x201ff8100, [(16, 0x2000000)], [(31, 31, .rwi)], 0x0, 0x0, 0⟩,
  ⟨"TMP_PREBASE", 0x201ff8104, [(16, 0x2000000)], [(20, 0, .rwi)], 0x0, 0x0, 0⟩,
  ⟨"TMP_PRELO", 0x201ff8108, [(16, 0x2000000)], [(21, 0, .rwi)], 0x0, 0x0, 0⟩,
  ⟨"TMP_PRELEN", 0x201ff810c, [(16, 0x2000000)], [(21, 0, .rwi)], 0x0, 0x0, 0⟩,
  ⟨"TMP_NORMBASE", 0x201ff8110, [(16, 0x2000000)], [(20, 0, .rwi)], 0x0, 0x0, 0⟩,
  ⟨"TMP_NORMMASK_LO", 0x201ff8114, [(16, 0x2000000)], [(31, 0, .rwi)], 0x0, 0x0, 0⟩,
  ⟨"TMP_NORMMASK_HI", 0x201ff8118, [(16, 0x2000000)], [(31, 0, .rwi)], 0x0, 0x0, 0⟩,
  ⟨"TMP_REWQ", 0x201ff811c, [(16, 0x2000000)], [(31, 31, .rwi), (13, 8, .rwi), (6, 0, .rwi)], 0x0, 0x0, 0⟩,
  ⟨"TMP_CREATEMAX", 0x201ff8120, [(16, 0x2000000)], [(15, 0, .rwi)], 0x0, 0x0, 0⟩,
  ⟨"TMP_SEED", 0x201ff8124, [(16, 0x2000000)], [(31, 0, .rwi)], 0x1, 0x0, 0⟩,
  ⟨"TND_CTRL", 0x2000000, [], [(31, 31, .rwi), (11, 0, .rwi)], 0x0, 0x0, 0⟩,
  ⟨"TND_STAT", 0x2000004, [], [(31, 29, .ro), (28, 28, .ro)], 0x0, 0x0, 0⟩,
  ⟨"TND_STEP", 0x2000008, [], [(31, 0, .ro)], 0x0, 0x0, 0⟩,
  ⟨"TND_SEALED", 0x200000c, [], [(31, 0, .ro)], 0xffffffff, 0x0, 0⟩,
  ⟨"TND_WIN", 0x2000010, [], [(31, 0, .ro)], 0x0, 0x0, 0⟩,
  ⟨"TND_DESC", 0x2001000, [(16, 0x20), (8, 0x4)], [(31, 0, .rwi)], 0x0, 0x0, 0⟩]

/-- Register maps, part 7. -/
def regTable7 : List RegRow := [
  ⟨"TND_ERRSTAT", 0x2000014, [], [(6, 6, .w1c), (5, 5, .w1c), (4, 4, .w1c), (3, 3, .w1c), (2, 2, .w1c), (1, 1, .w1c), (0, 0, .w1c)], 0x0, 0x0, 0⟩,
  ⟨"TND_HZDOWN", 0x2000040, [(8, 0x4)], [(31, 31, .rwi), (7, 0, .rwi)], 0x0, 0x0, 0⟩,
  ⟨"TND_HZRPT", 0x2000060, [(8, 0x4)], [(31, 31, .rwi), (7, 0, .rwi)], 0x0, 0x0, 0⟩,
  ⟨"TND_PCFG", 0x2000100, [(4, 0x40)], [(31, 31, .rwi), (30, 29, .rwi), (28, 16, .rwi), (15, 8, .rwi), (7, 3, .rwi)], 0x5194e400, 0x0, 0⟩,
  ⟨"TND_PBUF", 0x2000104, [(4, 0x40)], [(31, 15, .rwi), (14, 0, .rwi)], 0x0, 0x0, 0⟩,
  ⟨"TND_PSTAT", 0x2000108, [(4, 0x40)], [(31, 30, .ro), (29, 29, .ro), (15, 0, .ro)], 0x0, 0x0, 0⟩,
  ⟨"TND_PPKTCNT", 0x2000110, [(4, 0x40)], [(31, 0, .rc)], 0x0, 0x0, 0⟩,
  ⟨"TND_PECCCNT", 0x2000114, [(4, 0x40)], [(31, 0, .rc)], 0x0, 0x0, 0⟩,
  ⟨"TND_PHDRCNT", 0x2000118, [(4, 0x40)], [(31, 0, .rc)], 0x0, 0x0, 0⟩,
  ⟨"TND_PCRCCNT", 0x200011c, [(4, 0x40)], [(31, 0, .rc)], 0x0, 0x0, 0⟩,
  ⟨"TND_PDROPCNT", 0x2000120, [(4, 0x40)], [(31, 0, .rc)], 0x0, 0x0, 0⟩,
  ⟨"TND_PUNSUPCNT", 0x2000124, [(4, 0x40)], [(31, 0, .rc)], 0x0, 0x0, 0⟩,
  ⟨"TND_ROICNT", 0x2000200, [], [(31, 0, .rc)], 0x0, 0x0, 0⟩,
  ⟨"TND_OTHERCNT", 0x2000204, [], [(31, 0, .rc)], 0x0, 0x0, 0⟩,
  ⟨"TND_HLATECNT", 0x2000208, [], [(31, 0, .rc)], 0x0, 0x0, 0⟩,
  ⟨"TND_RECLOST", 0x200020c, [], [(31, 0, .rc)], 0x0, 0x0, 0⟩,
  ⟨"TND_PEVCNT", 0x2000128, [(4, 0x40)], [(31, 0, .ro)], 0x0, 0x0, 1⟩,
  ⟨"TND_PEVCNT_H", 0x200012c, [(4, 0x40)], [(15, 0, .ro)], 0x0, 0x0, 2⟩,
  ⟨"TND_HEVCNT", 0x2000220, [], [(31, 0, .ro)], 0x0, 0x0, 1⟩,
  ⟨"TND_HEVCNT_H", 0x2000224, [], [(15, 0, .ro)], 0x0, 0x0, 2⟩,
  ⟨"HIF_LINK", 0x1000000, [], [(31, 31, .ro), (30, 28, .ro), (27, 24, .ro)], 0x0, 0x0, 0⟩,
  ⟨"HIF_STAT", 0x1000004, [], [(2, 2, .ro), (1, 1, .w1c), (0, 0, .ro)], 0x5, 0x0, 0⟩,
  ⟨"HIF_LOSTCNT", 0x1000008, [], [(31, 0, .rc)], 0x0, 0x0, 0⟩,
  ⟨"HIF_SMBCFG", 0x100000c, [], [(31, 31, .rwi), (6, 0, .rwi)], 0x5a, 0x8000007f, 0⟩,
  ⟨"HIF_SMBPECCNT", 0x1000010, [], [(31, 0, .rc)], 0x0, 0x0, 0⟩,
  ⟨"HIF_CPLTO", 0x1000014, [], [(15, 0, .rwi)], 0x2710, 0x0, 0⟩,
  ⟨"LDL_CTRL", 0x1010000, [], [(31, 31, .rwi), (11, 0, .rwi)], 0x0, 0x0, 0⟩,
  ⟨"LDL_POOL", 0x1010004, [], [(29, 16, .rc), (13, 0, .ro)], 0x0, 0x0, 0⟩,
  ⟨"LDL_ERRSTAT", 0x1010008, [], [(4, 4, .w1c), (3, 3, .w1c), (2, 2, .w1c), (1, 1, .w1c), (0, 0, .w1c)], 0x0, 0x0, 0⟩,
  ⟨"LDL_CHCFG", 0x1020000, [(32, 0x100)], [(31, 31, .rw), (30, 29, .rw), (28, 24, .rw)], 0x0, 0x0, 0⟩]

/-- Register maps, part 8. -/
def regTable8 : List RegRow := [
  ⟨"LDL_CHSTAT", 0x1020004, [(32, 0x100)], [(31, 30, .ro)], 0xc0000000, 0x0, 0⟩,
  ⟨"LDL_CHDRING_LO", 0x1020008, [(32, 0x100)], [(31, 0, .rw)], 0x0, 0x0, 0⟩,
  ⟨"LDL_CHDRING_HI", 0x102000c, [(32, 0x100)], [(31, 0, .rw)], 0x0, 0x0, 0⟩,
  ⟨"LDL_CHCRING_LO", 0x1020010, [(32, 0x100)], [(31, 0, .rw)], 0x0, 0x0, 0⟩,
  ⟨"LDL_CHCRING_HI", 0x1020014, [(32, 0x100)], [(31, 0, .rw)], 0x0, 0x0, 0⟩,
  ⟨"LDL_CHTAIL", 0x1020018, [(32, 0x100)], [(15, 0, .rw)], 0x0, 0x0, 0⟩,
  ⟨"LDL_CHHEAD", 0x102001c, [(32, 0x100)], [(15, 0, .ro)], 0x0, 0x0, 0⟩,
  ⟨"LDL_CHDESCCNT", 0x1020020, [(32, 0x100)], [(31, 0, .rc)], 0x0, 0x0, 0⟩,
  ⟨"LDL_CHERRCNT", 0x1020024, [(32, 0x100)], [(31, 0, .rc)], 0x0, 0x0, 0⟩,
  ⟨"LDL_CHBYTES", 0x1020028, [(32, 0x100)], [(31, 0, .ro)], 0x0, 0x0, 1⟩,
  ⟨"LDL_CHBYTES_H", 0x102002c, [(32, 0x100)], [(15, 0, .ro)], 0x0, 0x0, 2⟩,
  ⟨"LDL_SDKEY", 0x1030000, [(32, 0x20)], [(31, 0, .rw)], 0x0, 0x0, 0⟩,
  ⟨"LDL_SDLAND", 0x1030004, [(32, 0x20)], [(31, 28, .rw), (27, 23, .rw), (22, 17, .rw), (14, 0, .rw)], 0x0, 0x0, 0⟩,
  ⟨"LDL_SDTMO", 0x1030008, [(32, 0x20)], [(15, 0, .rw)], 0x0, 0x0, 0⟩,
  ⟨"LDL_SDSTAT", 0x103000c, [(32, 0x20)], [(31, 24, .ro), (23, 20, .ro), (19, 15, .ro), (3, 0, .ro)], 0x0, 0x0, 0⟩,
  ⟨"LDL_SDSENT", 0x1030010, [(32, 0x20)], [(31, 0, .rc)], 0x0, 0x0, 0⟩,
  ⟨"LDL_SDSTALL", 0x1030014, [(32, 0x20)], [(31, 0, .rc)], 0x0, 0x0, 0⟩,
  ⟨"LDL_SDERR", 0x1030018, [(32, 0x20)], [(31, 0, .rc)], 0x0, 0x0, 0⟩,
  ⟨"LDL_HQCFG", 0x1100000, [(4096, 0x40)], [(31, 31, .rw), (30, 30, .rw), (29, 29, .rw), (28, 24, .rw), (10, 0, .rw)], 0x0, 0x0, 0⟩,
  ⟨"LDL_HQLOCAL", 0x1100004, [(4096, 0x40)], [(29, 16, .rw), (14, 0, .rw)], 0x0, 0x0, 0⟩,
  ⟨"LDL_HQRING_LO", 0x1100008, [(4096, 0x40)], [(31, 0, .rw)], 0x0, 0x0, 0⟩,
  ⟨"LDL_HQRING_HI", 0x110000c, [(4096, 0x40)], [(31, 0, .rw)], 0x0, 0x0, 0⟩,
  ⟨"LDL_HQWB_LO", 0x1100010, [(4096, 0x40)], [(31, 0, .rw)], 0x0, 0x0, 0⟩,
  ⟨"LDL_HQWB_HI", 0x1100014, [(4096, 0x40)], [(31, 0, .rw)], 0x0, 0x0, 0⟩,
  ⟨"LDL_HQHEAD", 0x1100018, [(4096, 0x40)], [(20, 0, .rw)], 0x0, 0x0, 0⟩,
  ⟨"LDL_HQTAIL", 0x110001c, [(4096, 0x40)], [(20, 0, .ro)], 0x0, 0x0, 0⟩,
  ⟨"LDL_HQLSTAT", 0x1100020, [(4096, 0x40)], [(28, 16, .rc), (14, 0, .ro)], 0x0, 0x0, 0⟩,
  ⟨"LDL_HQCOAL", 0x1100024, [(4096, 0x40)], [(31, 16, .rw), (15, 0, .rw)], 0x0, 0x0, 0⟩,
  ⟨"LDL_HQPLACED", 0x1100028, [(4096, 0x40)], [(31, 0, .rc)], 0x0, 0x0, 0⟩,
  ⟨"LDL_HQFULLCNT", 0x110002c, [(4096, 0x40)], [(31, 0, .rc)], 0x0, 0x0, 0⟩]

/-- Register maps, part 9. -/
def regTable9 : List RegRow := [
  ⟨"MSIX_ADDR_LO", 0x1800000, [(2048, 0x10)], [(31, 0, .rw)], 0x0, 0x0, 0⟩,
  ⟨"MSIX_ADDR_HI", 0x1800004, [(2048, 0x10)], [(31, 0, .rw)], 0x0, 0x0, 0⟩,
  ⟨"MSIX_DATA", 0x1800008, [(2048, 0x10)], [(31, 0, .rw)], 0x0, 0x0, 0⟩,
  ⟨"MSIX_CTRL", 0x180000c, [(2048, 0x10)], [(0, 0, .rw)], 0x1, 0x0, 0⟩,
  ⟨"MSIX_PBA", 0x1808000, [(64, 0x4)], [(31, 0, .ro)], 0x0, 0x0, 0⟩,
  ⟨"SPL_SYSCFG", 0x3000000, [], [(31, 31, .rwi), (30, 30, .rwi), (25, 22, .rwi), (16, 12, .rwi), (8, 0, .rwi)], 0x12c, 0xc3c1f1ff, 0⟩,
  ⟨"SPL_SYSSTAT", 0x3000004, [], [(31, 29, .ro), (28, 24, .ro), (23, 20, .ro), (15, 0, .ro)], 0x1000001, 0x0, 0⟩,
  ⟨"SPL_DEVRT", 0x3000008, [(2, 0x4)], [(31, 31, .ro), (30, 28, .ro), (27, 27, .ro), (26, 24, .ro), (23, 23, .ro), (22, 20, .ro), (19, 19, .ro), (18, 16, .ro), (15, 15, .ro), (14, 12, .ro), (11, 11, .ro), (10, 8, .ro), (7, 7, .ro), (6, 4, .ro), (3, 3, .ro), (2, 0, .ro)], 0x0, 0x0, 0⟩,
  ⟨"SPL_TSYNC", 0x3000010, [], [(31, 0, .ro)], 0x0, 0x0, 0⟩,
  ⟨"SPL_LRNCLR", 0x3000014, [], [(31, 31, .rwi), (8, 8, .rwi), (7, 0, .rwi)], 0x0, 0x0, 0⟩,
  ⟨"SPL_ERRSTAT", 0x3000018, [], [(2, 2, .w1c), (1, 1, .w1c), (0, 0, .w1c)], 0x0, 0x0, 0⟩,
  ⟨"SPL_LRNCNT", 0x300001c, [], [(31, 0, .rc)], 0x0, 0x0, 0⟩,
  ⟨"SPL_LRN", 0x3001000, [(256, 0x4)], [(31, 30, .ro), (29, 27, .ro), (26, 24, .ro)], 0x0, 0x0, 0⟩,
  ⟨"SPL_LCTRL", 0x3000100, [(8, 0x40)], [(31, 31, .rwi), (30, 30, .w1s)], 0x80000000, 0x0, 0⟩,
  ⟨"SPL_LTMO", 0x3000104, [(8, 0x40)], [(31, 16, .rwi), (15, 0, .rwi)], 0x320005, 0x0, 0⟩,
  ⟨"SPL_LSTAT", 0x3000108, [(8, 0x40)], [(31, 29, .ro), (28, 25, .ro), (24, 21, .ro), (20, 20, .ro), (19, 17, .ro), (16, 5, .ro)], 0x0, 0x0, 0⟩,
  ⟨"SPL_LPEERSN_LO", 0x300010c, [(8, 0x40)], [(31, 0, .ro)], 0x0, 0x0, 0⟩,
  ⟨"SPL_LPEERSN_HI", 0x3000110, [(8, 0x40)], [(31, 0, .ro)], 0x0, 0x0, 0⟩,
  ⟨"SPL_LCRCCNT", 0x3000114, [(8, 0x40)], [(31, 0, .rc)], 0x0, 0x0, 0⟩,
  ⟨"SPL_LNAKCNT", 0x3000118, [(8, 0x40)], [(31, 0, .rc)], 0x0, 0x0, 0⟩,
  ⟨"SPL_LREPLAYCNT", 0x300011c, [(8, 0x40)], [(31, 0, .rc)], 0x0, 0x0, 0⟩,
  ⟨"SPL_LRETRAINCNT", 0x3000120, [(8, 0x40)], [(31, 0, .rc)], 0x0, 0x0, 0⟩,
  ⟨"SPL_LDOWNCNT", 0x3000124, [(8, 0x40)], [(31, 0, .rc)], 0x0, 0x0, 0⟩,
  ⟨"SPL_LLOSTCNT", 0x3000128, [(8, 0x40)], [(31, 0, .rc)], 0x0, 0x0, 0⟩,
  ⟨"SPL_LSTALLCNT", 0x300012c, [(8, 0x40)], [(31, 0, .rc)], 0x0, 0x0, 0⟩,
  ⟨"SPL_LFRAMETX", 0x3000130, [(8, 0x40)], [(31, 0, .ro)], 0x0, 0x0, 1⟩,
  ⟨"SPL_LFRAMETX_H", 0x3000134, [(8, 0x40)], [(15, 0, .ro)], 0x0, 0x0, 2⟩,
  ⟨"SPL_LFRAMERX", 0x3000138, [(8, 0x40)], [(31, 0, .ro)], 0x0, 0x0, 1⟩,
  ⟨"SPL_LFRAMERX_H", 0x300013c, [(8, 0x40)], [(15, 0, .ro)], 0x0, 0x0, 2⟩,
  ⟨"VRN_STAT", 0x4001000, [], [(31, 29, .ro), (28, 28, .ro), (27, 27, .ro), (26, 26, .ro), (25, 25, .ro), (24, 24, .ro), (23, 23, .ro)], 0x0, 0x0, 0⟩]

/-- Register maps, part 10. -/
def regTable10 : List RegRow := [
  ⟨"VRN_IRQCFG", 0x4001004, [], [(31, 31, .rw), (1, 1, .rw), (0, 0, .rw)], 0x0, 0x0, 0⟩,
  ⟨"VRN_IRQSTAT", 0x4001008, [], [(1, 1, .w1c), (0, 0, .w1c)], 0x0, 0x0, 0⟩,
  ⟨"VRN_UPDCMD", 0x4100000, [], [(31, 24, .rwm), (7, 0, .rwm)], 0x0, 0x0, 0⟩,
  ⟨"VRN_UPDSTAT", 0x4100004, [], [(31, 31, .ro), (23, 16, .ro), (15, 8, .ro), (7, 0, .ro)], 0x0, 0x0, 0⟩,
  ⟨"VRN_UPDUTC", 0x4100008, [(2, 0x4)], [(31, 0, .rwm)], 0x0, 0x0, 0⟩,
  ⟨"SEC_STAT", 0x3000, [], [(31, 30, .ro), (29, 27, .ro), (26, 26, .ro), (25, 25, .ro), (24, 24, .ro), (15, 0, .ro)], 0x1000000, 0x0, 0⟩,
  ⟨"SEC_CMD", 0x3004, [], [(31, 24, .wo), (17, 16, .wo), (2, 0, .wo)], 0x0, 0x0, 0⟩,
  ⟨"SEC_RESULT", 0x3008, [], [(31, 31, .ro), (7, 0, .ro)], 0x0, 0x0, 0⟩,
  ⟨"SEC_IDLE", 0x300c, [], [(15, 0, .rwi)], 0x12c, 0xffff, 0⟩,
  ⟨"SEC_OTP", 0x3010, [], [(11, 8, .ro), (7, 0, .ro)], 0x0, 0xfff, 0⟩,
  ⟨"SEC_FAILCNT", 0x3014, [], [(31, 0, .rc)], 0x0, 0x0, 0⟩,
  ⟨"SEC_LOGSEQ", 0x3018, [], [(31, 0, .ro)], 0x0, 0xffffffff, 0⟩,
  ⟨"SEC_LOGLOST", 0x301c, [], [(31, 0, .ro)], 0x0, 0xffffffff, 0⟩,
  ⟨"SEC_NONCE", 0x3020, [(8, 0x4)], [(31, 0, .ro)], 0x0, 0x0, 0⟩,
  ⟨"SEC_RESP", 0x3040, [(32, 0x4)], [(31, 0, .wo)], 0x0, 0x0, 0⟩,
  ⟨"PWR_DEVCMD", 0x10000, [], [(31, 24, .rwi), (17, 16, .rwi), (15, 0, .rwi)], 0x0, 0x0, 0⟩,
  ⟨"PWR_DEVSTAT", 0x10004, [], [(31, 30, .ro), (29, 29, .ro), (28, 28, .ro), (27, 27, .ro), (26, 26, .ro), (25, 25, .ro), (24, 24, .ro), (23, 16, .ro), (15, 14, .ro)], 0x0, 0x0, 0⟩,
  ⟨"PWR_CEIL", 0x10008, [], [(31, 24, .rwi), (17, 16, .rwi)], 0x19000000, 0xff030000, 0⟩,
  ⟨"PWR_LIMSTAT", 0x1000c, [], [(31, 23, .ro), (15, 0, .ro)], 0x0, 0x0, 0⟩,
  ⟨"PWR_THERM", 0x10020, [], [(31, 24, .ro), (18, 14, .ro), (7, 0, .rwi)], 0x64, 0x0, 0⟩,
  ⟨"PWR_WAKECFG", 0x1002c, [], [(31, 31, .rwi), (30, 30, .rwi), (19, 16, .rwi), (15, 0, .rwi)], 0x80000000, 0xc00fffff, 0⟩,
  ⟨"PWR_VCORE", 0x10060, [], [(31, 16, .ro), (15, 0, .ro)], 0x0, 0x0, 0⟩,
  ⟨"PWR_PMBCFG", 0x10064, [], [(31, 31, .rwi), (6, 0, .rwi)], 0x80000040, 0x8000007f, 0⟩,
  ⟨"PWR_LIMPEAK", 0x10010, [], [(15, 0, .rc)], 0x0, 0x0, 0⟩,
  ⟨"PWR_LIMTIME", 0x10018, [], [(31, 0, .ro)], 0x0, 0x0, 1⟩,
  ⟨"PWR_LIMTIME_H", 0x1001c, [], [(15, 0, .ro)], 0x0, 0x0, 2⟩,
  ⟨"PWR_IRQEN", 0x10024, [], [(4, 4, .rw), (3, 3, .rw), (2, 2, .rw), (1, 1, .rw), (0, 0, .rw)], 0x0, 0x0, 0⟩,
  ⟨"PWR_IRQSTAT", 0x10028, [], [(4, 4, .w1c), (3, 3, .w1c), (2, 2, .w1c), (1, 1, .w1c), (0, 0, .w1c)], 0x0, 0x0, 0⟩,
  ⟨"PWR_FAILMAP", 0x10040, [(6, 0x4)], [(31, 0, .ro)], 0x0, 0x0, 0⟩,
  ⟨"PWR_DSTAT", 0x11000, [(177, 0x80)], [(31, 29, .ro), (28, 28, .ro), (27, 26, .ro), (25, 25, .ro), (24, 23, .ro), (22, 20, .ro), (8, 0, .ro)], 0x60000000, 0x0, 0⟩]

/-- Register maps, part 11. -/
def regTable11 : List RegRow := [
  ⟨"PWR_DTARGET", 0x11004, [(177, 0x80)], [(31, 30, .ro), (29, 28, .ro), (27, 26, .ro), (25, 24, .ro)], 0xc0000000, 0x0, 0⟩,
  ⟨"PWR_DREPLCNT", 0x11008, [(177, 0x80)], [(31, 0, .rc)], 0x0, 0x0, 0⟩,
  ⟨"PWR_DRETRYCNT", 0x1100c, [(177, 0x80)], [(31, 0, .rc)], 0x0, 0x0, 0⟩,
  ⟨"PWR_DRESON", 0x11010, [(177, 0x80)], [(31, 0, .ro)], 0x0, 0x0, 1⟩,
  ⟨"PWR_DRESON_H", 0x11014, [(177, 0x80)], [(15, 0, .ro)], 0x0, 0x0, 2⟩,
  ⟨"PWR_DRESIDLE", 0x11018, [(177, 0x80)], [(31, 0, .ro)], 0x0, 0x0, 1⟩,
  ⟨"PWR_DRESIDLE_H", 0x1101c, [(177, 0x80)], [(15, 0, .ro)], 0x0, 0x0, 2⟩,
  ⟨"PWR_DRESRET", 0x11020, [(177, 0x80)], [(31, 0, .ro)], 0x0, 0x0, 1⟩,
  ⟨"PWR_DRESRET_H", 0x11024, [(177, 0x80)], [(15, 0, .ro)], 0x0, 0x0, 2⟩,
  ⟨"PWR_DRESOFF", 0x11028, [(177, 0x80)], [(31, 0, .ro)], 0x0, 0x0, 1⟩,
  ⟨"PWR_DRESOFF_H", 0x1102c, [(177, 0x80)], [(15, 0, .ro)], 0x0, 0x0, 2⟩,
  ⟨"PWR_DRESPT", 0x11030, [(177, 0x80), (4, 0x8)], [(31, 0, .ro)], 0x0, 0x0, 1⟩,
  ⟨"PWR_DRESPT_H", 0x11034, [(177, 0x80), (4, 0x8)], [(15, 0, .ro)], 0x0, 0x0, 2⟩,
  ⟨"CLK_REFSTAT", 0x20000, [], [(31, 31, .ro), (30, 30, .ro), (29, 29, .ro)], 0x0, 0x0, 0⟩,
  ⟨"CLK_ISL", 0x20100, [(177, 0x4)], [(31, 31, .ro), (30, 30, .ro), (15, 0, .ro)], 0x0, 0x0, 0⟩,
  ⟨"RST_CAUSE", 0x30000, [], [(31, 28, .ro), (4, 0, .w1c)], 0x10000001, 0x0, 0⟩,
  ⟨"RST_CMD", 0x30004, [], [(31, 24, .wo)], 0x0, 0x0, 0⟩,
  ⟨"RST_STAT", 0x30008, [], [(31, 28, .ro), (27, 27, .ro), (26, 26, .ro), (25, 25, .ro), (24, 24, .ro), (7, 0, .ro)], 0x12000000, 0x0, 0⟩,
  ⟨"RST_CFG", 0x3000c, [], [(31, 31, .rwi), (30, 30, .rwi)], 0x80000000, 0xc0000000, 0⟩,
  ⟨"RST_ISO", 0x30020, [], [(31, 16, .ro), (15, 0, .ro)], 0x0, 0x0, 0⟩,
  ⟨"RST_DIAGSEL", 0x30024, [], [(31, 21, .rwi), (11, 0, .rwi)], 0x0, 0x0, 0⟩,
  ⟨"RST_FWCMD", 0x30100, [], [(31, 24, .wo), (16, 16, .wo)], 0x0, 0x0, 0⟩,
  ⟨"RST_FWSTAT", 0x30104, [], [(31, 31, .ro), (30, 30, .ro), (29, 29, .ro), (23, 16, .ro)], 0x0, 0x0, 0⟩,
  ⟨"RST_READYTIME", 0x30010, [], [(31, 0, .ro)], 0x0, 0x0, 0⟩,
  ⟨"RST_COLDCNT", 0x30014, [], [(31, 0, .ro)], 0x0, 0xffffffff, 0⟩,
  ⟨"RST_WARMCNT", 0x30018, [], [(31, 0, .ro)], 0x0, 0xffffffff, 0⟩,
  ⟨"RST_DIAGDATA", 0x30028, [], [(31, 0, .ro)], 0x0, 0x0, 0⟩,
  ⟨"RST_ISODROP", 0x30040, [(16, 0x4)], [(31, 0, .rc)], 0x0, 0x0, 0⟩,
  ⟨"RST_MAP", 0x30200, [(128, 0x4)], [(31, 31, .ro), (25, 17, .ro), (16, 13, .ro), (8, 0, .ro)], 0x0, 0x0, 0⟩,
  ⟨"RST_FWSLOT", 0x30108, [(2, 0x4)], [(31, 29, .ro), (28, 27, .ro), (26, 26, .ro)], 0x0, 0xfc000000, 0⟩]

/-- Register maps, part 12. -/
def regTable12 : List RegRow := [
  ⟨"RST_FWVER", 0x30110, [(2, 0x4)], [(31, 0, .ro)], 0x0, 0xffffffff, 0⟩,
  ⟨"RST_FWHADDR", 0x30118, [(2, 0x4)], [(31, 0, .rwi)], 0x0, 0x0, 0⟩,
  ⟨"RST_FWHLEN", 0x30120, [], [(31, 0, .rwi)], 0x0, 0x0, 0⟩,
  ⟨"SMC_RECCFG", 0x4000, [], [(31, 31, .rwi), (27, 16, .rwi), (11, 0, .rwi)], 0x1f40000, 0x8fff0fff, 0⟩,
  ⟨"SMC_RECSTAT", 0x4004, [], [(31, 16, .ro), (15, 0, .ro)], 0x0, 0x0, 0⟩,
  ⟨"SMC_CASESTAT", 0x4008, [], [(22, 16, .ro), (4, 0, .ro)], 0x0, 0x0, 0⟩,
  ⟨"SMC_RECCOVER", 0x400c, [], [(31, 31, .ro), (30, 30, .ro), (23, 0, .ro)], 0x0, 0x0, 0⟩,
  ⟨"SMC_AVCFG", 0x4010, [], [(15, 0, .rwi)], 0x14, 0xffff, 0⟩,
  ⟨"SMC_RECCNT", 0x4020, [], [(31, 0, .rc)], 0x0, 0x0, 0⟩,
  ⟨"SMC_QUARCNT", 0x4024, [], [(31, 0, .rc)], 0x0, 0x0, 0⟩,
  ⟨"SMC_SUBCNT", 0x4028, [], [(31, 0, .rc)], 0x0, 0x0, 0⟩,
  ⟨"SMC_NOTABSCNT", 0x402c, [], [(31, 0, .rc)], 0x0, 0x0, 0⟩,
  ⟨"SMC_SLOWCNT", 0x4030, [], [(31, 0, .rc)], 0x0, 0x0, 0⟩,
  ⟨"SMC_DUPCNT", 0x4034, [], [(31, 0, .rc)], 0x0, 0x0, 0⟩,
  ⟨"SMC_FIFODROP", 0x4038, [], [(31, 0, .rc)], 0x0, 0x0, 0⟩,
  ⟨"SMC_INEXACTCNT", 0x403c, [], [(31, 0, .rc)], 0x0, 0x0, 0⟩,
  ⟨"SMC_RECLAST", 0x4040, [], [(31, 0, .ro)], 0x0, 0x0, 0⟩,
  ⟨"SMC_RECMAX", 0x4044, [], [(31, 0, .rc)], 0x0, 0x0, 0⟩,
  ⟨"SMC_AVRUN", 0x4060, [], [(31, 0, .ro)], 0x0, 0x0, 1⟩,
  ⟨"SMC_AVRUN_H", 0x4064, [], [(15, 0, .ro)], 0x0, 0x0, 2⟩,
  ⟨"SMC_AVLATE_REC", 0x4068, [], [(31, 0, .ro)], 0x0, 0x0, 1⟩,
  ⟨"SMC_AVLATE_REC_H", 0x406c, [], [(15, 0, .ro)], 0x0, 0x0, 2⟩,
  ⟨"SMC_AVLATE_FLT", 0x4070, [], [(31, 0, .ro)], 0x0, 0x0, 1⟩,
  ⟨"SMC_AVLATE_FLT_H", 0x4074, [], [(15, 0, .ro)], 0x0, 0x0, 2⟩,
  ⟨"SMC_AVLATE_LOAD", 0x4078, [], [(31, 0, .ro)], 0x0, 0x0, 1⟩,
  ⟨"SMC_AVLATE_LOAD_H", 0x407c, [], [(15, 0, .ro)], 0x0, 0x0, 2⟩,
  ⟨"SMC_CASE", 0x4100, [(16, 0x20), (8, 0x4)], [(31, 0, .ro)], 0x0, 0x0, 0⟩,
  ⟨"TMR_TIME", 0x40000, [], [(31, 0, .ro)], 0x0, 0x0, 1⟩,
  ⟨"TMR_TIME_H", 0x40004, [], [(31, 0, .ro)], 0x0, 0x0, 2⟩,
  ⟨"TMR_STAT", 0x40008, [], [(31, 31, .ro), (30, 29, .ro), (28, 28, .ro), (27, 27, .w1c)], 0x0, 0x0, 0⟩]

/-- Register maps, part 13. -/
def regTable13 : List RegRow := [
  ⟨"TMR_FIRESTAT", 0x4000c, [], [(15, 0, .w1c)], 0x0, 0x0, 0⟩,
  ⟨"TMR_GROUP", 0x40010, [], [(31, 31, .rwi), (23, 16, .rwi), (15, 0, .rwi)], 0x0, 0x0, 0⟩,
  ⟨"TMR_CHCTRL", 0x40100, [(16, 0x20)], [(31, 31, .rwi), (30, 30, .rwi), (29, 28, .rwi), (27, 24, .rwi), (23, 16, .rwi)], 0x0, 0x0, 0⟩,
  ⟨"TMR_CHCOMPARE", 0x40104, [(16, 0x20)], [(31, 0, .rwi)], 0x0, 0x0, 0⟩,
  ⟨"TMR_CHPERIOD", 0x40108, [(16, 0x20)], [(31, 0, .rwi)], 0x0, 0x0, 0⟩,
  ⟨"TMR_CHPHASE", 0x4010c, [(16, 0x20)], [(31, 0, .rwi)], 0x0, 0x0, 0⟩,
  ⟨"TMR_CHSTAT", 0x40110, [(16, 0x20)], [(31, 31, .ro)], 0x0, 0x0, 0⟩,
  ⟨"TMR_CHLAST", 0x40114, [(16, 0x20)], [(31, 0, .ro)], 0x0, 0x0, 0⟩,
  ⟨"TMR_CHFIRECNT", 0x40118, [(16, 0x20)], [(31, 0, .rc)], 0x0, 0x0, 0⟩,
  ⟨"TMR_CHOVRCNT", 0x4011c, [(16, 0x20)], [(31, 0, .rc)], 0x0, 0x0, 0⟩,
  ⟨"TMR_PCCTRL", 0x40400, [], [(31, 31, .rwi), (30, 30, .rwi), (29, 26, .rwi), (2, 2, .ro), (1, 1, .ro), (0, 0, .w1s)], 0x0, 0x0, 0⟩,
  ⟨"TMR_PCSEL", 0x40440, [(8, 0x4)], [(31, 24, .rwi), (15, 0, .rwi)], 0x0, 0x0, 0⟩,
  ⟨"TMR_PC", 0x40480, [(8, 0x8)], [(31, 0, .ro)], 0x0, 0x0, 1⟩,
  ⟨"TMR_PC_H", 0x40484, [(8, 0x8)], [(15, 0, .ro)], 0x0, 0x0, 2⟩,
  ⟨"SMC_EPHSTEP", 0x5000, [(64, 0x20)], [(31, 0, .rwi)], 0x0, 0x0, 0⟩,
  ⟨"SMC_EPHCTRL", 0x5004, [(64, 0x20)], [(31, 31, .rwi), (30, 29, .rwi), (23, 20, .rwi), (11, 0, .rwi)], 0x0, 0x0, 0⟩,
  ⟨"SMC_EPHKEY", 0x5008, [(64, 0x20)], [(31, 0, .rwi)], 0x0, 0x0, 0⟩,
  ⟨"SMC_EPHLAND", 0x500c, [(64, 0x20)], [(31, 16, .rwi), (14, 0, .rwi)], 0x0, 0x0, 0⟩,
  ⟨"SMC_EPHSTAT", 0x5010, [(64, 0x20)], [(31, 31, .ro), (30, 30, .w1c), (15, 0, .ro)], 0x0, 0x0, 0⟩,
  ⟨"SMC_EPHLAST", 0x5014, [(64, 0x20)], [(31, 0, .ro)], 0x0, 0x0, 0⟩,
  ⟨"SMC_DBGSTAT", 0x6000, [], [(31, 31, .ro), (30, 30, .ro), (10, 0, .ro)], 0x0, 0x0, 0⟩,
  ⟨"SMC_DBGHALT", 0x6040, [(32, 0x4)], [(31, 0, .rw)], 0x0, 0x0, 0⟩]

/-- Every register of the spec. -/
def regTable : List RegRow := regTable0 ++ regTable1 ++ regTable2 ++ regTable3 ++ regTable4 ++ regTable5 ++ regTable6 ++ regTable7 ++ regTable8 ++ regTable9 ++ regTable10 ++ regTable11 ++ regTable12 ++ regTable13

/-- The row of a device address. -/
def regRow (a : Nat) : Option RegRow := regTable.find? (fun r => r.covers a)

/-- The reset value of the register at a device address; 0 where no map names one (R12). -/
def regReset (a : Nat) : Word := match regRow a with
  | some r => BitVec.ofNat 32 r.reset
  | none => 0

namespace Reg

/-- SYS_DEVID (R5). -/
abbrev SYS_DEVID : Nat := 0x0
/-- SYS_CAPS (R37). -/
abbrev SYS_CAPS : Nat := 0x4
/-- SYS_ACCERR_STAT (R36). -/
abbrev SYS_ACCERR_STAT : Nat := 0x10
/-- SYS_ACCERR_ADDR_LO (R36). -/
abbrev SYS_ACCERR_ADDR_LO : Nat := 0x14
/-- SYS_ACCERR_ADDR_HI (R36). -/
abbrev SYS_ACCERR_ADDR_HI : Nat := 0x18
/-- SYS_ACCERR_CNT (R36). -/
abbrev SYS_ACCERR_CNT : Nat := 0x1c
/-- SYS_GPCFG (R685). -/
abbrev SYS_GPCFG : Nat := 0x20
/-- SYS_GPIN (R685). -/
abbrev SYS_GPIN : Nat := 0x24
/-- SMC_IMGCMD (R77). -/
abbrev SMC_IMGCMD : Nat := 0x2000
/-- SMC_IMGSTAT (R77). -/
abbrev SMC_IMGSTAT : Nat := 0x2004
/-- SMC_IMGHADDR_LO (R77). -/
abbrev SMC_IMGHADDR_LO : Nat := 0x2008
/-- SMC_IMGHADDR_HI (R77). -/
abbrev SMC_IMGHADDR_HI : Nat := 0x200c
/-- SMC_IMGHLEN (R77). -/
abbrev SMC_IMGHLEN : Nat := 0x2010
/-- SMC_IMGSLOT (R77). -/
abbrev SMC_IMGSLOT (i0 : Nat) : Nat := 0x2014 + i0 * 0x8
/-- SMC_IMGSLOT_VER (R77). -/
abbrev SMC_IMGSLOT_VER (i0 : Nat) : Nat := 0x2018 + i0 * 0x8
/-- SMC_IMGBOOT (R77). -/
abbrev SMC_IMGBOOT : Nat := 0x2024
/-- SMC_IMGDIG (R77). -/
abbrev SMC_IMGDIG (i0 : Nat) : Nat := 0x2040 + i0 * 0x4
/-- NCR_CTRL (R111). -/
abbrev NCR_CTRL (i0 : Nat) : Nat := 0x100300000 + i0 * 0x400000
/-- NCR_STAT (R111). -/
abbrev NCR_STAT (i0 : Nat) : Nat := 0x100300004 + i0 * 0x400000
/-- NCR_STEP (R111). -/
abbrev NCR_STEP (i0 : Nat) : Nat := 0x100300008 + i0 * 0x400000
/-- NCR_KEYBASE (R111). -/
abbrev NCR_KEYBASE (i0 : Nat) : Nat := 0x100300010 + i0 * 0x400000
/-- NCR_KEYCFG (R111). -/
abbrev NCR_KEYCFG (i0 : Nat) : Nat := 0x100300014 + i0 * 0x400000
/-- NCR_AXBASE (R111). -/
abbrev NCR_AXBASE (i0 : Nat) : Nat := 0x100300018 + i0 * 0x400000
/-- NCR_AXLEN (R111). -/
abbrev NCR_AXLEN (i0 : Nat) : Nat := 0x10030001c + i0 * 0x400000
/-- NCR_DPOOL (R111). -/
abbrev NCR_DPOOL (i0 : Nat) : Nat := 0x100300020 + i0 * 0x400000
/-- NCR_SIDE (R111). -/
abbrev NCR_SIDE (i0 : Nat) : Nat := 0x100300024 + i0 * 0x400000
/-- NCR_UCLIMIT (R111). -/
abbrev NCR_UCLIMIT (i0 : Nat) : Nat := 0x100300028 + i0 * 0x400000
/-- NCR_EQSTAT (R111). -/
abbrev NCR_EQSTAT (i0 : Nat) : Nat := 0x100300030 + i0 * 0x400000
/-- NCR_ERRSTAT (R111). -/
abbrev NCR_ERRSTAT (i0 : Nat) : Nat := 0x100300034 + i0 * 0x400000
/-- NCR_UCFAULT (R148). -/
abbrev NCR_UCFAULT (i0 : Nat) : Nat := 0x100300038 + i0 * 0x400000
/-- NCR_UCMAX (R149). -/
abbrev NCR_UCMAX (i0 : Nat) : Nat := 0x10030003c + i0 * 0x400000
/-- NCR_EVCNT (R112). -/
abbrev NCR_EVCNT (i0 : Nat) : Nat := 0x100300040 + i0 * 0x400000
/-- NCR_EVCNT_H (R112). -/
abbrev NCR_EVCNT_H (i0 : Nat) : Nat := 0x100300044 + i0 * 0x400000
/-- NCR_SYNCNT (R112). -/
abbrev NCR_SYNCNT (i0 : Nat) : Nat := 0x100300048 + i0 * 0x400000
/-- NCR_SYNCNT_H (R112). -/
abbrev NCR_SYNCNT_H (i0 : Nat) : Nat := 0x10030004c + i0 * 0x400000
/-- NCR_RUNCNT (R112). -/
abbrev NCR_RUNCNT (i0 : Nat) : Nat := 0x100300050 + i0 * 0x400000
/-- NCR_RUNCNT_H (R112). -/
abbrev NCR_RUNCNT_H (i0 : Nat) : Nat := 0x100300054 + i0 * 0x400000
/-- NCR_DROPCNT (R113). -/
abbrev NCR_DROPCNT (i0 : Nat) : Nat := 0x100300060 + i0 * 0x400000
/-- NCR_LATECNT (R113). -/
abbrev NCR_LATECNT (i0 : Nat) : Nat := 0x100300064 + i0 * 0x400000
/-- NCR_NOMATCHCNT (R113). -/
abbrev NCR_NOMATCHCNT (i0 : Nat) : Nat := 0x100300068 + i0 * 0x400000
/-- NCR_SATCNT (R113). -/
abbrev NCR_SATCNT (i0 : Nat) : Nat := 0x10030006c + i0 * 0x400000
/-- NCR_BUSYCNT (R113). -/
abbrev NCR_BUSYCNT (i0 : Nat) : Nat := 0x100300070 + i0 * 0x400000
/-- NCR_ECCCNT (R113). -/
abbrev NCR_ECCCNT (i0 : Nat) : Nat := 0x100300074 + i0 * 0x400000
/-- NCR_ESCMISSCNT (R204). -/
abbrev NCR_ESCMISSCNT (i0 : Nat) : Nat := 0x100300078 + i0 * 0x400000
/-- NCR_GRIDSTAT (R204). -/
abbrev NCR_GRIDSTAT (i0 : Nat) : Nat := 0x10030007c + i0 * 0x400000
/-- NCR_AXWIN_MATCH (R111). -/
abbrev NCR_AXWIN_MATCH (i0 i1 : Nat) : Nat := 0x100300100 + i0 * 0x400000 + i1 * 0x10
/-- NCR_AXWIN_MASK (R111). -/
abbrev NCR_AXWIN_MASK (i0 i1 : Nat) : Nat := 0x100300104 + i0 * 0x400000 + i1 * 0x10
/-- NCR_AXWIN_MAP (R111). -/
abbrev NCR_AXWIN_MAP (i0 i1 : Nat) : Nat := 0x100300108 + i0 * 0x400000 + i1 * 0x10
/-- NCR_HZCFG (R239). -/
abbrev NCR_HZCFG (i0 : Nat) : Nat := 0x100300200 + i0 * 0x400000
/-- NCR_HZLIST (R239). -/
abbrev NCR_HZLIST (i0 i1 : Nat) : Nat := 0x100300210 + i0 * 0x400000 + i1 * 0x4
/-- NCR_HZRPT (R239). -/
abbrev NCR_HZRPT (i0 i1 : Nat) : Nat := 0x100300230 + i0 * 0x400000 + i1 * 0x4
/-- NCR_HZVAL (R239). -/
abbrev NCR_HZVAL (i0 i1 : Nat) : Nat := 0x100300250 + i0 * 0x400000 + i1 * 0x4
/-- NCR_HZLAG (R239). -/
abbrev NCR_HZLAG (i0 : Nat) : Nat := 0x100300270 + i0 * 0x400000
/-- NCR_HZSTAT (R239). -/
abbrev NCR_HZSTAT (i0 : Nat) : Nat := 0x100300274 + i0 * 0x400000
/-- NCR_HZTOCNT (R239). -/
abbrev NCR_HZTOCNT (i0 : Nat) : Nat := 0x100300278 + i0 * 0x400000
/-- NCR_SEALED (R239). -/
abbrev NCR_SEALED (i0 : Nat) : Nat := 0x10030027c + i0 * 0x400000
/-- VLT_STAT (R180). -/
abbrev VLT_STAT (i0 : Nat) : Nat := 0x201ff0000 + i0 * 0x2000000
/-- VLT_ERRSTAT (R180). -/
abbrev VLT_ERRSTAT (i0 : Nat) : Nat := 0x201ff0004 + i0 * 0x2000000
/-- VLT_UEADDR (R180). -/
abbrev VLT_UEADDR (i0 : Nat) : Nat := 0x201ff0008 + i0 * 0x2000000
/-- VLT_SCRUB (R180). -/
abbrev VLT_SCRUB (i0 : Nat) : Nat := 0x201ff000c + i0 * 0x2000000
/-- VLT_REPAIR (R180). -/
abbrev VLT_REPAIR (i0 : Nat) : Nat := 0x201ff0010 + i0 * 0x2000000
/-- VLT_SCRUBPASS (R180). -/
abbrev VLT_SCRUBPASS (i0 : Nat) : Nat := 0x201ff0014 + i0 * 0x2000000
/-- VLT_CECNT (R181). -/
abbrev VLT_CECNT (i0 : Nat) : Nat := 0x201ff0020 + i0 * 0x2000000
/-- VLT_UECNT (R181). -/
abbrev VLT_UECNT (i0 : Nat) : Nat := 0x201ff0024 + i0 * 0x2000000
/-- VLT_BUSYCNT (R181). -/
abbrev VLT_BUSYCNT (i0 : Nat) : Nat := 0x201ff0028 + i0 * 0x2000000
/-- VLT_RANGECNT (R181). -/
abbrev VLT_RANGECNT (i0 : Nat) : Nat := 0x201ff002c + i0 * 0x2000000
/-- VLT_THRCNT (R181). -/
abbrev VLT_THRCNT (i0 : Nat) : Nat := 0x201ff0030 + i0 * 0x2000000
/-- VLT_FETCHWD (R182). -/
abbrev VLT_FETCHWD (i0 : Nat) : Nat := 0x201ff0040 + i0 * 0x2000000
/-- VLT_FETCHWD_H (R182). -/
abbrev VLT_FETCHWD_H (i0 : Nat) : Nat := 0x201ff0044 + i0 * 0x2000000
/-- VLT_TMPWD (R182). -/
abbrev VLT_TMPWD (i0 : Nat) : Nat := 0x201ff0048 + i0 * 0x2000000
/-- VLT_TMPWD_H (R182). -/
abbrev VLT_TMPWD_H (i0 : Nat) : Nat := 0x201ff004c + i0 * 0x2000000
/-- VLT_CKWD (R182). -/
abbrev VLT_CKWD (i0 : Nat) : Nat := 0x201ff0050 + i0 * 0x2000000
/-- VLT_CKWD_H (R182). -/
abbrev VLT_CKWD_H (i0 : Nat) : Nat := 0x201ff0054 + i0 * 0x2000000
/-- VLT_CKSTAT (R620). -/
abbrev VLT_CKSTAT (i0 : Nat) : Nat := 0x201ff0100 + i0 * 0x2000000
/-- VLT_CKSTEP (R620). -/
abbrev VLT_CKSTEP (i0 : Nat) : Nat := 0x201ff0104 + i0 * 0x2000000
/-- VLT_JRNL (R620). -/
abbrev VLT_JRNL (i0 : Nat) : Nat := 0x201ff0108 + i0 * 0x2000000
/-- VLT_JLEN (R620). -/
abbrev VLT_JLEN (i0 : Nat) : Nat := 0x201ff010c + i0 * 0x2000000
/-- VLT_JUSED (R620). -/
abbrev VLT_JUSED (i0 : Nat) : Nat := 0x201ff0110 + i0 * 0x2000000
/-- VLT_CKCNT (R620). -/
abbrev VLT_CKCNT (i0 : Nat) : Nat := 0x201ff0114 + i0 * 0x2000000
/-- VLT_CKTIME (R620). -/
abbrev VLT_CKTIME (i0 : Nat) : Nat := 0x201ff0118 + i0 * 0x2000000
/-- SMC_RUNCMD (R238). -/
abbrev SMC_RUNCMD : Nat := 0x2100
/-- SMC_RUNSTAT (R238). -/
abbrev SMC_RUNSTAT : Nat := 0x2104
/-- SMC_STEPCFG (R238). -/
abbrev SMC_STEPCFG : Nat := 0x2108
/-- SMC_EPOCH (R238). -/
abbrev SMC_EPOCH : Nat := 0x210c
/-- SMC_DEVHZ (R238). -/
abbrev SMC_DEVHZ : Nat := 0x2110
/-- SMC_DEVHZSRC (R238). -/
abbrev SMC_DEVHZSRC : Nat := 0x2114
/-- SMC_SCHED (R238). -/
abbrev SMC_SCHED : Nat := 0x2118
/-- SMC_LAGMAX (R238). -/
abbrev SMC_LAGMAX : Nat := 0x211c
/-- SMC_MODEGEN (R238). -/
abbrev SMC_MODEGEN : Nat := 0x2120
/-- SMC_COMMITSTEP (R238). -/
abbrev SMC_COMMITSTEP : Nat := 0x2124
/-- SMC_MODEEXP (R238). -/
abbrev SMC_MODEEXP : Nat := 0x2128
/-- SMC_MODEACK (R238). -/
abbrev SMC_MODEACK : Nat := 0x212c
/-- SMC_ABORTCNT (R238). -/
abbrev SMC_ABORTCNT : Nat := 0x2150
/-- SMC_PARTGEN (R238). -/
abbrev SMC_PARTGEN (i0 : Nat) : Nat := 0x2130 + i0 * 0x4
/-- SMC_DRAIN (R318). -/
abbrev SMC_DRAIN : Nat := 0x2160
/-- RTR_ID (R274). -/
abbrev RTR_ID (i0 : Nat) : Nat := 0x10000000 + i0 * 0x10000
/-- RTR_ERRSTAT (R274). -/
abbrev RTR_ERRSTAT (i0 : Nat) : Nat := 0x10000004 + i0 * 0x10000
/-- RTR_RETSTAT (R274). -/
abbrev RTR_RETSTAT (i0 : Nat) : Nat := 0x10000008 + i0 * 0x10000
/-- RTR_INJSTEP (R274). -/
abbrev RTR_INJSTEP (i0 : Nat) : Nat := 0x10000010 + i0 * 0x10000
/-- RTR_INJCNT (R274). -/
abbrev RTR_INJCNT (i0 : Nat) : Nat := 0x10000014 + i0 * 0x10000
/-- RTR_OUTST (R274). -/
abbrev RTR_OUTST (i0 : Nat) : Nat := 0x10000018 + i0 * 0x10000
/-- RTR_CRCCNT (R275). -/
abbrev RTR_CRCCNT (i0 : Nat) : Nat := 0x10000020 + i0 * 0x10000
/-- RTR_HOPCNT (R275). -/
abbrev RTR_HOPCNT (i0 : Nat) : Nat := 0x10000024 + i0 * 0x10000
/-- RTR_KINDCNT (R275). -/
abbrev RTR_KINDCNT (i0 : Nat) : Nat := 0x10000028 + i0 * 0x10000
/-- RTR_NOPORTCNT (R275). -/
abbrev RTR_NOPORTCNT (i0 : Nat) : Nat := 0x1000002c + i0 * 0x10000
/-- RTR_ESCCNT (R275). -/
abbrev RTR_ESCCNT (i0 : Nat) : Nat := 0x10000030 + i0 * 0x10000
/-- RTR_RETWAIT (R275). -/
abbrev RTR_RETWAIT (i0 : Nat) : Nat := 0x10000034 + i0 * 0x10000
/-- RTR_MAP (R277). -/
abbrev RTR_MAP (i0 i1 : Nat) : Nat := 0x10008000 + i0 * 0x10000 + i1 * 0x4
/-- RTR_FLITN (R276). -/
abbrev RTR_FLITN (i0 : Nat) : Nat := 0x10000040 + i0 * 0x10000
/-- RTR_FLITN_H (R276). -/
abbrev RTR_FLITN_H (i0 : Nat) : Nat := 0x10000044 + i0 * 0x10000
/-- RTR_FLITE (R276). -/
abbrev RTR_FLITE (i0 : Nat) : Nat := 0x10000048 + i0 * 0x10000
/-- RTR_FLITE_H (R276). -/
abbrev RTR_FLITE_H (i0 : Nat) : Nat := 0x1000004c + i0 * 0x10000
/-- RTR_FLITS (R276). -/
abbrev RTR_FLITS (i0 : Nat) : Nat := 0x10000050 + i0 * 0x10000
/-- RTR_FLITS_H (R276). -/
abbrev RTR_FLITS_H (i0 : Nat) : Nat := 0x10000054 + i0 * 0x10000
/-- RTR_FLITW (R276). -/
abbrev RTR_FLITW (i0 : Nat) : Nat := 0x10000058 + i0 * 0x10000
/-- RTR_FLITW_H (R276). -/
abbrev RTR_FLITW_H (i0 : Nat) : Nat := 0x1000005c + i0 * 0x10000
/-- RTR_FLITL (R276). -/
abbrev RTR_FLITL (i0 : Nat) : Nat := 0x10000060 + i0 * 0x10000
/-- RTR_FLITL_H (R276). -/
abbrev RTR_FLITL_H (i0 : Nat) : Nat := 0x10000064 + i0 * 0x10000
/-- RTR_FLITX (R276). -/
abbrev RTR_FLITX (i0 : Nat) : Nat := 0x10000068 + i0 * 0x10000
/-- RTR_FLITX_H (R276). -/
abbrev RTR_FLITX_H (i0 : Nat) : Nat := 0x1000006c + i0 * 0x10000
/-- RTR_BANK (R314). -/
abbrev RTR_BANK (i0 : Nat) : Nat := 0x10001000 + i0 * 0x10000
/-- RTR_CMBSTAT (R314). -/
abbrev RTR_CMBSTAT (i0 : Nat) : Nat := 0x10001004 + i0 * 0x10000
/-- RTR_RTERR (R314). -/
abbrev RTR_RTERR (i0 : Nat) : Nat := 0x10001008 + i0 * 0x10000
/-- RTR_DRAINOUT (R314). -/
abbrev RTR_DRAINOUT (i0 : Nat) : Nat := 0x1000100c + i0 * 0x10000
/-- RTR_SUMMRG (R315). -/
abbrev RTR_SUMMRG (i0 : Nat) : Nat := 0x10001020 + i0 * 0x10000
/-- RTR_MINFWD (R315). -/
abbrev RTR_MINFWD (i0 : Nat) : Nat := 0x10001024 + i0 * 0x10000
/-- RTR_FLTMRG (R315). -/
abbrev RTR_FLTMRG (i0 : Nat) : Nat := 0x10001028 + i0 * 0x10000
/-- RTR_DEFCNT (R315). -/
abbrev RTR_DEFCNT (i0 : Nat) : Nat := 0x1000102c + i0 * 0x10000
/-- RTR_CMBMISS (R315). -/
abbrev RTR_CMBMISS (i0 : Nat) : Nat := 0x10001030 + i0 * 0x10000
/-- RTR_INPORTCNT (R315). -/
abbrev RTR_INPORTCNT (i0 : Nat) : Nat := 0x10001034 + i0 * 0x10000
/-- RTR_LOOKUP (R316). -/
abbrev RTR_LOOKUP (i0 : Nat) : Nat := 0x10001040 + i0 * 0x10000
/-- RTR_LOOKUP_H (R316). -/
abbrev RTR_LOOKUP_H (i0 : Nat) : Nat := 0x10001044 + i0 * 0x10000
/-- ARB_RTR_GRANT (R646). -/
abbrev ARB_RTR_GRANT (i0 i1 i2 : Nat) : Nat := 0x10009000 + i0 * 0x10000 + i1 * 0x80 + i2 * 0x10
/-- ARB_RTR_WAIT (R646). -/
abbrev ARB_RTR_WAIT (i0 i1 i2 : Nat) : Nat := 0x10009004 + i0 * 0x10000 + i1 * 0x80 + i2 * 0x10
/-- ARB_RTR_WAIT_H (R646). -/
abbrev ARB_RTR_WAIT_H (i0 i1 i2 : Nat) : Nat := 0x10009008 + i0 * 0x10000 + i1 * 0x80 + i2 * 0x10
/-- ARB_RTR_LONG (R646). -/
abbrev ARB_RTR_LONG (i0 i1 i2 : Nat) : Nat := 0x1000900c + i0 * 0x10000 + i1 * 0x80 + i2 * 0x10
/-- ARB_VLT_GRANT (R646). -/
abbrev ARB_VLT_GRANT (i0 i1 : Nat) : Nat := 0x201ff1000 + i0 * 0x2000000 + i1 * 0x10
/-- ARB_VLT_WAIT (R646). -/
abbrev ARB_VLT_WAIT (i0 i1 : Nat) : Nat := 0x201ff1004 + i0 * 0x2000000 + i1 * 0x10
/-- ARB_VLT_WAIT_H (R646). -/
abbrev ARB_VLT_WAIT_H (i0 i1 : Nat) : Nat := 0x201ff1008 + i0 * 0x2000000 + i1 * 0x10
/-- ARB_VLT_LONG (R646). -/
abbrev ARB_VLT_LONG (i0 i1 : Nat) : Nat := 0x201ff100c + i0 * 0x2000000 + i1 * 0x10
/-- ARB_LDL_GRANT (R646). -/
abbrev ARB_LDL_GRANT (i0 : Nat) : Nat := 0x1011000 + i0 * 0x10
/-- ARB_LDL_WAIT (R646). -/
abbrev ARB_LDL_WAIT (i0 : Nat) : Nat := 0x1011004 + i0 * 0x10
/-- ARB_LDL_WAIT_H (R646). -/
abbrev ARB_LDL_WAIT_H (i0 : Nat) : Nat := 0x1011008 + i0 * 0x10
/-- ARB_LDL_LONG (R646). -/
abbrev ARB_LDL_LONG (i0 : Nat) : Nat := 0x101100c + i0 * 0x10
/-- MSG_STAT (R340). -/
abbrev MSG_STAT (i0 : Nat) : Nat := 0x100310000 + i0 * 0x400000
/-- MSG_RELEASE (R340). -/
abbrev MSG_RELEASE (i0 : Nat) : Nat := 0x100310004 + i0 * 0x400000
/-- MSG_REFCNT (R340). -/
abbrev MSG_REFCNT (i0 : Nat) : Nat := 0x100310008 + i0 * 0x400000
/-- MSG_SDERRCNT (R340). -/
abbrev MSG_SDERRCNT (i0 : Nat) : Nat := 0x10031000c + i0 * 0x400000
/-- MSG_INJCNT (R340). -/
abbrev MSG_INJCNT (i0 : Nat) : Nat := 0x100310040 + i0 * 0x400000
/-- MSG_SELCFG (R340). -/
abbrev MSG_SELCFG (i0 i1 : Nat) : Nat := 0x100310010 + i0 * 0x400000 + i1 * 0x8
/-- MSG_SELPOP (R340). -/
abbrev MSG_SELPOP (i0 i1 : Nat) : Nat := 0x100310014 + i0 * 0x400000 + i1 * 0x8
/-- MSG_QCFG (R340). -/
abbrev MSG_QCFG (i0 i1 : Nat) : Nat := 0x100311000 + i0 * 0x400000 + i1 * 0x10
/-- MSG_QLAND (R340). -/
abbrev MSG_QLAND (i0 i1 : Nat) : Nat := 0x100311004 + i0 * 0x400000 + i1 * 0x10
/-- MSG_QRING (R340). -/
abbrev MSG_QRING (i0 i1 : Nat) : Nat := 0x100311008 + i0 * 0x400000 + i1 * 0x10
/-- MSG_QPTR (R340). -/
abbrev MSG_QPTR (i0 i1 : Nat) : Nat := 0x10031100c + i0 * 0x400000 + i1 * 0x10
/-- MSG_QACC (R340). -/
abbrev MSG_QACC (i0 i1 : Nat) : Nat := 0x100312000 + i0 * 0x400000 + i1 * 0x4
/-- MSG_QHOLD (R340). -/
abbrev MSG_QHOLD (i0 i1 : Nat) : Nat := 0x100312200 + i0 * 0x400000 + i1 * 0x4
/-- MSG_SDKEY (R340). -/
abbrev MSG_SDKEY (i0 i1 : Nat) : Nat := 0x100313000 + i0 * 0x400000 + i1 * 0x20
/-- MSG_SDLAND (R340). -/
abbrev MSG_SDLAND (i0 i1 : Nat) : Nat := 0x100313004 + i0 * 0x400000 + i1 * 0x20
/-- MSG_SDTMO (R340). -/
abbrev MSG_SDTMO (i0 i1 : Nat) : Nat := 0x100313008 + i0 * 0x400000 + i1 * 0x20
/-- MSG_SDSTAT (R340). -/
abbrev MSG_SDSTAT (i0 i1 : Nat) : Nat := 0x10031300c + i0 * 0x400000 + i1 * 0x20
/-- MSG_SDSENT (R340). -/
abbrev MSG_SDSENT (i0 i1 : Nat) : Nat := 0x100313010 + i0 * 0x400000 + i1 * 0x20
/-- MSG_SDSTALL (R340). -/
abbrev MSG_SDSTALL (i0 i1 : Nat) : Nat := 0x100313014 + i0 * 0x400000 + i1 * 0x20
/-- MSG_SDERR (R340). -/
abbrev MSG_SDERR (i0 i1 : Nat) : Nat := 0x100313018 + i0 * 0x400000 + i1 * 0x20
/-- NCR_TAPCTRL (R415). -/
abbrev NCR_TAPCTRL (i0 : Nat) : Nat := 0x100320000 + i0 * 0x400000
/-- NCR_TAPSTAT (R415). -/
abbrev NCR_TAPSTAT (i0 : Nat) : Nat := 0x100320004 + i0 * 0x400000
/-- NCR_TAPLOST (R415). -/
abbrev NCR_TAPLOST (i0 : Nat) : Nat := 0x100320008 + i0 * 0x400000
/-- NCR_TAPWIN (R415). -/
abbrev NCR_TAPWIN (i0 : Nat) : Nat := 0x10032000c + i0 * 0x400000
/-- NCR_TAPCFG0 (R415). -/
abbrev NCR_TAPCFG0 (i0 i1 : Nat) : Nat := 0x100321000 + i0 * 0x400000 + i1 * 0x8
/-- NCR_TAPCFG1 (R415). -/
abbrev NCR_TAPCFG1 (i0 i1 : Nat) : Nat := 0x100321004 + i0 * 0x400000 + i1 * 0x8
/-- NCR_TAPCNT (R415). -/
abbrev NCR_TAPCNT (i0 i1 : Nat) : Nat := 0x100322000 + i0 * 0x400000 + i1 * 0x4
/-- TMP_STAT (R381). -/
abbrev TMP_STAT (i0 : Nat) : Nat := 0x201ff8000 + i0 * 0x2000000
/-- TMP_EPOCHDONE (R381). -/
abbrev TMP_EPOCHDONE (i0 : Nat) : Nat := 0x201ff8004 + i0 * 0x2000000
/-- TMP_LFSR (R381). -/
abbrev TMP_LFSR (i0 : Nat) : Nat := 0x201ff8008 + i0 * 0x2000000
/-- TMP_ERRSTAT (R381). -/
abbrev TMP_ERRSTAT (i0 : Nat) : Nat := 0x201ff800c + i0 * 0x2000000
/-- TMP_REWSTAT (R381). -/
abbrev TMP_REWSTAT (i0 : Nat) : Nat := 0x201ff8018 + i0 * 0x2000000
/-- TMP_REWCUR (R381). -/
abbrev TMP_REWCUR (i0 : Nat) : Nat := 0x201ff8010 + i0 * 0x2000000
/-- TMP_REWNEXT (R381). -/
abbrev TMP_REWNEXT (i0 : Nat) : Nat := 0x201ff8014 + i0 * 0x2000000
/-- TMP_PASSCYC (R381). -/
abbrev TMP_PASSCYC (i0 : Nat) : Nat := 0x201ff801c + i0 * 0x2000000
/-- TMP_PASSMAX (R381). -/
abbrev TMP_PASSMAX (i0 : Nat) : Nat := 0x201ff8020 + i0 * 0x2000000
/-- TMP_PRUNECNT (R382). -/
abbrev TMP_PRUNECNT (i0 : Nat) : Nat := 0x201ff8040 + i0 * 0x2000000
/-- TMP_CREATECNT (R382). -/
abbrev TMP_CREATECNT (i0 : Nat) : Nat := 0x201ff8044 + i0 * 0x2000000
/-- TMP_NORMCNT (R382). -/
abbrev TMP_NORMCNT (i0 : Nat) : Nat := 0x201ff8048 + i0 * 0x2000000
/-- TMP_WSATCNT (R382). -/
abbrev TMP_WSATCNT (i0 : Nat) : Nat := 0x201ff804c + i0 * 0x2000000
/-- TMP_REWLATECNT (R382). -/
abbrev TMP_REWLATECNT (i0 : Nat) : Nat := 0x201ff8050 + i0 * 0x2000000
/-- TMP_PREDISCNT (R382). -/
abbrev TMP_PREDISCNT (i0 : Nat) : Nat := 0x201ff8054 + i0 * 0x2000000
/-- TMP_POISONCNT (R382). -/
abbrev TMP_POISONCNT (i0 : Nat) : Nat := 0x201ff8058 + i0 * 0x2000000
/-- TMP_TOABSCNT (R382). -/
abbrev TMP_TOABSCNT (i0 : Nat) : Nat := 0x201ff805c + i0 * 0x2000000
/-- TMP_SYNUPD (R383). -/
abbrev TMP_SYNUPD (i0 : Nat) : Nat := 0x201ff8080 + i0 * 0x2000000
/-- TMP_SYNUPD_H (R383). -/
abbrev TMP_SYNUPD_H (i0 : Nat) : Nat := 0x201ff8084 + i0 * 0x2000000
/-- TMP_PREREC (R383). -/
abbrev TMP_PREREC (i0 : Nat) : Nat := 0x201ff8088 + i0 * 0x2000000
/-- TMP_PREREC_H (R383). -/
abbrev TMP_PREREC_H (i0 : Nat) : Nat := 0x201ff808c + i0 * 0x2000000
/-- TMP_POSTSPK (R383). -/
abbrev TMP_POSTSPK (i0 : Nat) : Nat := 0x201ff8090 + i0 * 0x2000000
/-- TMP_POSTSPK_H (R383). -/
abbrev TMP_POSTSPK_H (i0 : Nat) : Nat := 0x201ff8094 + i0 * 0x2000000
/-- TMP_CTRL (R384). -/
abbrev TMP_CTRL (i0 : Nat) : Nat := 0x201ff8100 + i0 * 0x2000000
/-- TMP_PREBASE (R384). -/
abbrev TMP_PREBASE (i0 : Nat) : Nat := 0x201ff8104 + i0 * 0x2000000
/-- TMP_PRELO (R384). -/
abbrev TMP_PRELO (i0 : Nat) : Nat := 0x201ff8108 + i0 * 0x2000000
/-- TMP_PRELEN (R384). -/
abbrev TMP_PRELEN (i0 : Nat) : Nat := 0x201ff810c + i0 * 0x2000000
/-- TMP_NORMBASE (R384). -/
abbrev TMP_NORMBASE (i0 : Nat) : Nat := 0x201ff8110 + i0 * 0x2000000
/-- TMP_NORMMASK_LO (R384). -/
abbrev TMP_NORMMASK_LO (i0 : Nat) : Nat := 0x201ff8114 + i0 * 0x2000000
/-- TMP_NORMMASK_HI (R384). -/
abbrev TMP_NORMMASK_HI (i0 : Nat) : Nat := 0x201ff8118 + i0 * 0x2000000
/-- TMP_REWQ (R384). -/
abbrev TMP_REWQ (i0 : Nat) : Nat := 0x201ff811c + i0 * 0x2000000
/-- TMP_CREATEMAX (R384). -/
abbrev TMP_CREATEMAX (i0 : Nat) : Nat := 0x201ff8120 + i0 * 0x2000000
/-- TMP_SEED (R384). -/
abbrev TMP_SEED (i0 : Nat) : Nat := 0x201ff8124 + i0 * 0x2000000
/-- TND_CTRL (R411). -/
abbrev TND_CTRL : Nat := 0x2000000
/-- TND_STAT (R411). -/
abbrev TND_STAT : Nat := 0x2000004
/-- TND_STEP (R411). -/
abbrev TND_STEP : Nat := 0x2000008
/-- TND_SEALED (R411). -/
abbrev TND_SEALED : Nat := 0x200000c
/-- TND_WIN (R411). -/
abbrev TND_WIN : Nat := 0x2000010
/-- TND_DESC (R393). -/
abbrev TND_DESC (i0 i1 : Nat) : Nat := 0x2001000 + i0 * 0x20 + i1 * 0x4
/-- TND_ERRSTAT (R411). -/
abbrev TND_ERRSTAT : Nat := 0x2000014
/-- TND_HZDOWN (R411). -/
abbrev TND_HZDOWN (i0 : Nat) : Nat := 0x2000040 + i0 * 0x4
/-- TND_HZRPT (R411). -/
abbrev TND_HZRPT (i0 : Nat) : Nat := 0x2000060 + i0 * 0x4
/-- TND_PCFG (R412). -/
abbrev TND_PCFG (i0 : Nat) : Nat := 0x2000100 + i0 * 0x40
/-- TND_PBUF (R412). -/
abbrev TND_PBUF (i0 : Nat) : Nat := 0x2000104 + i0 * 0x40
/-- TND_PSTAT (R412). -/
abbrev TND_PSTAT (i0 : Nat) : Nat := 0x2000108 + i0 * 0x40
/-- TND_PPKTCNT (R413). -/
abbrev TND_PPKTCNT (i0 : Nat) : Nat := 0x2000110 + i0 * 0x40
/-- TND_PECCCNT (R413). -/
abbrev TND_PECCCNT (i0 : Nat) : Nat := 0x2000114 + i0 * 0x40
/-- TND_PHDRCNT (R413). -/
abbrev TND_PHDRCNT (i0 : Nat) : Nat := 0x2000118 + i0 * 0x40
/-- TND_PCRCCNT (R413). -/
abbrev TND_PCRCCNT (i0 : Nat) : Nat := 0x200011c + i0 * 0x40
/-- TND_PDROPCNT (R413). -/
abbrev TND_PDROPCNT (i0 : Nat) : Nat := 0x2000120 + i0 * 0x40
/-- TND_PUNSUPCNT (R413). -/
abbrev TND_PUNSUPCNT (i0 : Nat) : Nat := 0x2000124 + i0 * 0x40
/-- TND_ROICNT (R413). -/
abbrev TND_ROICNT : Nat := 0x2000200
/-- TND_OTHERCNT (R413). -/
abbrev TND_OTHERCNT : Nat := 0x2000204
/-- TND_HLATECNT (R413). -/
abbrev TND_HLATECNT : Nat := 0x2000208
/-- TND_RECLOST (R413). -/
abbrev TND_RECLOST : Nat := 0x200020c
/-- TND_PEVCNT (R414). -/
abbrev TND_PEVCNT (i0 : Nat) : Nat := 0x2000128 + i0 * 0x40
/-- TND_PEVCNT_H (R414). -/
abbrev TND_PEVCNT_H (i0 : Nat) : Nat := 0x200012c + i0 * 0x40
/-- TND_HEVCNT (R414). -/
abbrev TND_HEVCNT : Nat := 0x2000220
/-- TND_HEVCNT_H (R414). -/
abbrev TND_HEVCNT_H : Nat := 0x2000224
/-- HIF_LINK (R440). -/
abbrev HIF_LINK : Nat := 0x1000000
/-- HIF_STAT (R440). -/
abbrev HIF_STAT : Nat := 0x1000004
/-- HIF_LOSTCNT (R440). -/
abbrev HIF_LOSTCNT : Nat := 0x1000008
/-- HIF_SMBCFG (R440). -/
abbrev HIF_SMBCFG : Nat := 0x100000c
/-- HIF_SMBPECCNT (R440). -/
abbrev HIF_SMBPECCNT : Nat := 0x1000010
/-- HIF_CPLTO (R440). -/
abbrev HIF_CPLTO : Nat := 0x1000014
/-- LDL_CTRL (R441). -/
abbrev LDL_CTRL : Nat := 0x1010000
/-- LDL_POOL (R441). -/
abbrev LDL_POOL : Nat := 0x1010004
/-- LDL_ERRSTAT (R441). -/
abbrev LDL_ERRSTAT : Nat := 0x1010008
/-- LDL_CHCFG (R442). -/
abbrev LDL_CHCFG (i0 : Nat) : Nat := 0x1020000 + i0 * 0x100
/-- LDL_CHSTAT (R442). -/
abbrev LDL_CHSTAT (i0 : Nat) : Nat := 0x1020004 + i0 * 0x100
/-- LDL_CHDRING_LO (R442). -/
abbrev LDL_CHDRING_LO (i0 : Nat) : Nat := 0x1020008 + i0 * 0x100
/-- LDL_CHDRING_HI (R442). -/
abbrev LDL_CHDRING_HI (i0 : Nat) : Nat := 0x102000c + i0 * 0x100
/-- LDL_CHCRING_LO (R442). -/
abbrev LDL_CHCRING_LO (i0 : Nat) : Nat := 0x1020010 + i0 * 0x100
/-- LDL_CHCRING_HI (R442). -/
abbrev LDL_CHCRING_HI (i0 : Nat) : Nat := 0x1020014 + i0 * 0x100
/-- LDL_CHTAIL (R442). -/
abbrev LDL_CHTAIL (i0 : Nat) : Nat := 0x1020018 + i0 * 0x100
/-- LDL_CHHEAD (R442). -/
abbrev LDL_CHHEAD (i0 : Nat) : Nat := 0x102001c + i0 * 0x100
/-- LDL_CHDESCCNT (R442). -/
abbrev LDL_CHDESCCNT (i0 : Nat) : Nat := 0x1020020 + i0 * 0x100
/-- LDL_CHERRCNT (R442). -/
abbrev LDL_CHERRCNT (i0 : Nat) : Nat := 0x1020024 + i0 * 0x100
/-- LDL_CHBYTES (R442). -/
abbrev LDL_CHBYTES (i0 : Nat) : Nat := 0x1020028 + i0 * 0x100
/-- LDL_CHBYTES_H (R442). -/
abbrev LDL_CHBYTES_H (i0 : Nat) : Nat := 0x102002c + i0 * 0x100
/-- LDL_SDKEY (R443). -/
abbrev LDL_SDKEY (i0 : Nat) : Nat := 0x1030000 + i0 * 0x20
/-- LDL_SDLAND (R443). -/
abbrev LDL_SDLAND (i0 : Nat) : Nat := 0x1030004 + i0 * 0x20
/-- LDL_SDTMO (R443). -/
abbrev LDL_SDTMO (i0 : Nat) : Nat := 0x1030008 + i0 * 0x20
/-- LDL_SDSTAT (R443). -/
abbrev LDL_SDSTAT (i0 : Nat) : Nat := 0x103000c + i0 * 0x20
/-- LDL_SDSENT (R443). -/
abbrev LDL_SDSENT (i0 : Nat) : Nat := 0x1030010 + i0 * 0x20
/-- LDL_SDSTALL (R443). -/
abbrev LDL_SDSTALL (i0 : Nat) : Nat := 0x1030014 + i0 * 0x20
/-- LDL_SDERR (R443). -/
abbrev LDL_SDERR (i0 : Nat) : Nat := 0x1030018 + i0 * 0x20
/-- LDL_HQCFG (R444). -/
abbrev LDL_HQCFG (i0 : Nat) : Nat := 0x1100000 + i0 * 0x40
/-- LDL_HQLOCAL (R444). -/
abbrev LDL_HQLOCAL (i0 : Nat) : Nat := 0x1100004 + i0 * 0x40
/-- LDL_HQRING_LO (R444). -/
abbrev LDL_HQRING_LO (i0 : Nat) : Nat := 0x1100008 + i0 * 0x40
/-- LDL_HQRING_HI (R444). -/
abbrev LDL_HQRING_HI (i0 : Nat) : Nat := 0x110000c + i0 * 0x40
/-- LDL_HQWB_LO (R444). -/
abbrev LDL_HQWB_LO (i0 : Nat) : Nat := 0x1100010 + i0 * 0x40
/-- LDL_HQWB_HI (R444). -/
abbrev LDL_HQWB_HI (i0 : Nat) : Nat := 0x1100014 + i0 * 0x40
/-- LDL_HQHEAD (R444). -/
abbrev LDL_HQHEAD (i0 : Nat) : Nat := 0x1100018 + i0 * 0x40
/-- LDL_HQTAIL (R444). -/
abbrev LDL_HQTAIL (i0 : Nat) : Nat := 0x110001c + i0 * 0x40
/-- LDL_HQLSTAT (R444). -/
abbrev LDL_HQLSTAT (i0 : Nat) : Nat := 0x1100020 + i0 * 0x40
/-- LDL_HQCOAL (R444). -/
abbrev LDL_HQCOAL (i0 : Nat) : Nat := 0x1100024 + i0 * 0x40
/-- LDL_HQPLACED (R444). -/
abbrev LDL_HQPLACED (i0 : Nat) : Nat := 0x1100028 + i0 * 0x40
/-- LDL_HQFULLCNT (R444). -/
abbrev LDL_HQFULLCNT (i0 : Nat) : Nat := 0x110002c + i0 * 0x40
/-- MSIX_ADDR_LO (R421). -/
abbrev MSIX_ADDR_LO (i0 : Nat) : Nat := 0x1800000 + i0 * 0x10
/-- MSIX_ADDR_HI (R421). -/
abbrev MSIX_ADDR_HI (i0 : Nat) : Nat := 0x1800004 + i0 * 0x10
/-- MSIX_DATA (R421). -/
abbrev MSIX_DATA (i0 : Nat) : Nat := 0x1800008 + i0 * 0x10
/-- MSIX_CTRL (R421). -/
abbrev MSIX_CTRL (i0 : Nat) : Nat := 0x180000c + i0 * 0x10
/-- MSIX_PBA (R421). -/
abbrev MSIX_PBA (i0 : Nat) : Nat := 0x1808000 + i0 * 0x4
/-- SPL_SYSCFG (R469). -/
abbrev SPL_SYSCFG : Nat := 0x3000000
/-- SPL_SYSSTAT (R469). -/
abbrev SPL_SYSSTAT : Nat := 0x3000004
/-- SPL_DEVRT (R469). -/
abbrev SPL_DEVRT (i0 : Nat) : Nat := 0x3000008 + i0 * 0x4
/-- SPL_TSYNC (R469). -/
abbrev SPL_TSYNC : Nat := 0x3000010
/-- SPL_LRNCLR (R469). -/
abbrev SPL_LRNCLR : Nat := 0x3000014
/-- SPL_ERRSTAT (R469). -/
abbrev SPL_ERRSTAT : Nat := 0x3000018
/-- SPL_LRNCNT (R469). -/
abbrev SPL_LRNCNT : Nat := 0x300001c
/-- SPL_LRN (R469). -/
abbrev SPL_LRN (i0 : Nat) : Nat := 0x3001000 + i0 * 0x4
/-- SPL_LCTRL (R470). -/
abbrev SPL_LCTRL (i0 : Nat) : Nat := 0x3000100 + i0 * 0x40
/-- SPL_LTMO (R470). -/
abbrev SPL_LTMO (i0 : Nat) : Nat := 0x3000104 + i0 * 0x40
/-- SPL_LSTAT (R470). -/
abbrev SPL_LSTAT (i0 : Nat) : Nat := 0x3000108 + i0 * 0x40
/-- SPL_LPEERSN_LO (R470). -/
abbrev SPL_LPEERSN_LO (i0 : Nat) : Nat := 0x300010c + i0 * 0x40
/-- SPL_LPEERSN_HI (R470). -/
abbrev SPL_LPEERSN_HI (i0 : Nat) : Nat := 0x3000110 + i0 * 0x40
/-- SPL_LCRCCNT (R471). -/
abbrev SPL_LCRCCNT (i0 : Nat) : Nat := 0x3000114 + i0 * 0x40
/-- SPL_LNAKCNT (R471). -/
abbrev SPL_LNAKCNT (i0 : Nat) : Nat := 0x3000118 + i0 * 0x40
/-- SPL_LREPLAYCNT (R471). -/
abbrev SPL_LREPLAYCNT (i0 : Nat) : Nat := 0x300011c + i0 * 0x40
/-- SPL_LRETRAINCNT (R471). -/
abbrev SPL_LRETRAINCNT (i0 : Nat) : Nat := 0x3000120 + i0 * 0x40
/-- SPL_LDOWNCNT (R471). -/
abbrev SPL_LDOWNCNT (i0 : Nat) : Nat := 0x3000124 + i0 * 0x40
/-- SPL_LLOSTCNT (R471). -/
abbrev SPL_LLOSTCNT (i0 : Nat) : Nat := 0x3000128 + i0 * 0x40
/-- SPL_LSTALLCNT (R471). -/
abbrev SPL_LSTALLCNT (i0 : Nat) : Nat := 0x300012c + i0 * 0x40
/-- SPL_LFRAMETX (R472). -/
abbrev SPL_LFRAMETX (i0 : Nat) : Nat := 0x3000130 + i0 * 0x40
/-- SPL_LFRAMETX_H (R472). -/
abbrev SPL_LFRAMETX_H (i0 : Nat) : Nat := 0x3000134 + i0 * 0x40
/-- SPL_LFRAMERX (R472). -/
abbrev SPL_LFRAMERX (i0 : Nat) : Nat := 0x3000138 + i0 * 0x40
/-- SPL_LFRAMERX_H (R472). -/
abbrev SPL_LFRAMERX_H (i0 : Nat) : Nat := 0x300013c + i0 * 0x40
/-- VRN_STAT (R507). -/
abbrev VRN_STAT : Nat := 0x4001000
/-- VRN_IRQCFG (R507). -/
abbrev VRN_IRQCFG : Nat := 0x4001004
/-- VRN_IRQSTAT (R507). -/
abbrev VRN_IRQSTAT : Nat := 0x4001008
/-- VRN_UPDCMD (R507). -/
abbrev VRN_UPDCMD : Nat := 0x4100000
/-- VRN_UPDSTAT (R507). -/
abbrev VRN_UPDSTAT : Nat := 0x4100004
/-- VRN_UPDUTC (R507). -/
abbrev VRN_UPDUTC (i0 : Nat) : Nat := 0x4100008 + i0 * 0x4
/-- SEC_STAT (R521). -/
abbrev SEC_STAT : Nat := 0x3000
/-- SEC_CMD (R521). -/
abbrev SEC_CMD : Nat := 0x3004
/-- SEC_RESULT (R521). -/
abbrev SEC_RESULT : Nat := 0x3008
/-- SEC_IDLE (R521). -/
abbrev SEC_IDLE : Nat := 0x300c
/-- SEC_OTP (R521). -/
abbrev SEC_OTP : Nat := 0x3010
/-- SEC_FAILCNT (R521). -/
abbrev SEC_FAILCNT : Nat := 0x3014
/-- SEC_LOGSEQ (R521). -/
abbrev SEC_LOGSEQ : Nat := 0x3018
/-- SEC_LOGLOST (R521). -/
abbrev SEC_LOGLOST : Nat := 0x301c
/-- SEC_NONCE (R521). -/
abbrev SEC_NONCE (i0 : Nat) : Nat := 0x3020 + i0 * 0x4
/-- SEC_RESP (R521). -/
abbrev SEC_RESP (i0 : Nat) : Nat := 0x3040 + i0 * 0x4
/-- PWR_DEVCMD (R554). -/
abbrev PWR_DEVCMD : Nat := 0x10000
/-- PWR_DEVSTAT (R554). -/
abbrev PWR_DEVSTAT : Nat := 0x10004
/-- PWR_CEIL (R554). -/
abbrev PWR_CEIL : Nat := 0x10008
/-- PWR_LIMSTAT (R554). -/
abbrev PWR_LIMSTAT : Nat := 0x1000c
/-- PWR_THERM (R554). -/
abbrev PWR_THERM : Nat := 0x10020
/-- PWR_WAKECFG (R554). -/
abbrev PWR_WAKECFG : Nat := 0x1002c
/-- PWR_VCORE (R554). -/
abbrev PWR_VCORE : Nat := 0x10060
/-- PWR_PMBCFG (R554). -/
abbrev PWR_PMBCFG : Nat := 0x10064
/-- PWR_LIMPEAK (R554). -/
abbrev PWR_LIMPEAK : Nat := 0x10010
/-- PWR_LIMTIME (R554). -/
abbrev PWR_LIMTIME : Nat := 0x10018
/-- PWR_LIMTIME_H (R554). -/
abbrev PWR_LIMTIME_H : Nat := 0x1001c
/-- PWR_IRQEN (R554). -/
abbrev PWR_IRQEN : Nat := 0x10024
/-- PWR_IRQSTAT (R554). -/
abbrev PWR_IRQSTAT : Nat := 0x10028
/-- PWR_FAILMAP (R554). -/
abbrev PWR_FAILMAP (i0 : Nat) : Nat := 0x10040 + i0 * 0x4
/-- PWR_DSTAT (R555). -/
abbrev PWR_DSTAT (i0 : Nat) : Nat := 0x11000 + i0 * 0x80
/-- PWR_DTARGET (R555). -/
abbrev PWR_DTARGET (i0 : Nat) : Nat := 0x11004 + i0 * 0x80
/-- PWR_DREPLCNT (R555). -/
abbrev PWR_DREPLCNT (i0 : Nat) : Nat := 0x11008 + i0 * 0x80
/-- PWR_DRETRYCNT (R555). -/
abbrev PWR_DRETRYCNT (i0 : Nat) : Nat := 0x1100c + i0 * 0x80
/-- PWR_DRESON (R555). -/
abbrev PWR_DRESON (i0 : Nat) : Nat := 0x11010 + i0 * 0x80
/-- PWR_DRESON_H (R555). -/
abbrev PWR_DRESON_H (i0 : Nat) : Nat := 0x11014 + i0 * 0x80
/-- PWR_DRESIDLE (R555). -/
abbrev PWR_DRESIDLE (i0 : Nat) : Nat := 0x11018 + i0 * 0x80
/-- PWR_DRESIDLE_H (R555). -/
abbrev PWR_DRESIDLE_H (i0 : Nat) : Nat := 0x1101c + i0 * 0x80
/-- PWR_DRESRET (R555). -/
abbrev PWR_DRESRET (i0 : Nat) : Nat := 0x11020 + i0 * 0x80
/-- PWR_DRESRET_H (R555). -/
abbrev PWR_DRESRET_H (i0 : Nat) : Nat := 0x11024 + i0 * 0x80
/-- PWR_DRESOFF (R555). -/
abbrev PWR_DRESOFF (i0 : Nat) : Nat := 0x11028 + i0 * 0x80
/-- PWR_DRESOFF_H (R555). -/
abbrev PWR_DRESOFF_H (i0 : Nat) : Nat := 0x1102c + i0 * 0x80
/-- PWR_DRESPT (R555). -/
abbrev PWR_DRESPT (i0 i1 : Nat) : Nat := 0x11030 + i0 * 0x80 + i1 * 0x8
/-- PWR_DRESPT_H (R555). -/
abbrev PWR_DRESPT_H (i0 i1 : Nat) : Nat := 0x11034 + i0 * 0x80 + i1 * 0x8
/-- CLK_REFSTAT (R556). -/
abbrev CLK_REFSTAT : Nat := 0x20000
/-- CLK_ISL (R556). -/
abbrev CLK_ISL (i0 : Nat) : Nat := 0x20100 + i0 * 0x4
/-- RST_CAUSE (R586). -/
abbrev RST_CAUSE : Nat := 0x30000
/-- RST_CMD (R586). -/
abbrev RST_CMD : Nat := 0x30004
/-- RST_STAT (R586). -/
abbrev RST_STAT : Nat := 0x30008
/-- RST_CFG (R586). -/
abbrev RST_CFG : Nat := 0x3000c
/-- RST_ISO (R586). -/
abbrev RST_ISO : Nat := 0x30020
/-- RST_DIAGSEL (R586). -/
abbrev RST_DIAGSEL : Nat := 0x30024
/-- RST_FWCMD (R586). -/
abbrev RST_FWCMD : Nat := 0x30100
/-- RST_FWSTAT (R586). -/
abbrev RST_FWSTAT : Nat := 0x30104
/-- RST_READYTIME (R586). -/
abbrev RST_READYTIME : Nat := 0x30010
/-- RST_COLDCNT (R586). -/
abbrev RST_COLDCNT : Nat := 0x30014
/-- RST_WARMCNT (R586). -/
abbrev RST_WARMCNT : Nat := 0x30018
/-- RST_DIAGDATA (R586). -/
abbrev RST_DIAGDATA : Nat := 0x30028
/-- RST_ISODROP (R586). -/
abbrev RST_ISODROP (i0 : Nat) : Nat := 0x30040 + i0 * 0x4
/-- RST_MAP (R586). -/
abbrev RST_MAP (i0 : Nat) : Nat := 0x30200 + i0 * 0x4
/-- RST_FWSLOT (R586). -/
abbrev RST_FWSLOT (i0 : Nat) : Nat := 0x30108 + i0 * 0x4
/-- RST_FWVER (R586). -/
abbrev RST_FWVER (i0 : Nat) : Nat := 0x30110 + i0 * 0x4
/-- RST_FWHADDR (R586). -/
abbrev RST_FWHADDR (i0 : Nat) : Nat := 0x30118 + i0 * 0x4
/-- RST_FWHLEN (R586). -/
abbrev RST_FWHLEN : Nat := 0x30120
/-- SMC_RECCFG (R616). -/
abbrev SMC_RECCFG : Nat := 0x4000
/-- SMC_RECSTAT (R616). -/
abbrev SMC_RECSTAT : Nat := 0x4004
/-- SMC_CASESTAT (R616). -/
abbrev SMC_CASESTAT : Nat := 0x4008
/-- SMC_RECCOVER (R616). -/
abbrev SMC_RECCOVER : Nat := 0x400c
/-- SMC_AVCFG (R616). -/
abbrev SMC_AVCFG : Nat := 0x4010
/-- SMC_RECCNT (R617). -/
abbrev SMC_RECCNT : Nat := 0x4020
/-- SMC_QUARCNT (R617). -/
abbrev SMC_QUARCNT : Nat := 0x4024
/-- SMC_SUBCNT (R617). -/
abbrev SMC_SUBCNT : Nat := 0x4028
/-- SMC_NOTABSCNT (R617). -/
abbrev SMC_NOTABSCNT : Nat := 0x402c
/-- SMC_SLOWCNT (R617). -/
abbrev SMC_SLOWCNT : Nat := 0x4030
/-- SMC_DUPCNT (R617). -/
abbrev SMC_DUPCNT : Nat := 0x4034
/-- SMC_FIFODROP (R617). -/
abbrev SMC_FIFODROP : Nat := 0x4038
/-- SMC_INEXACTCNT (R617). -/
abbrev SMC_INEXACTCNT : Nat := 0x403c
/-- SMC_RECLAST (R617). -/
abbrev SMC_RECLAST : Nat := 0x4040
/-- SMC_RECMAX (R617). -/
abbrev SMC_RECMAX : Nat := 0x4044
/-- SMC_AVRUN (R618). -/
abbrev SMC_AVRUN : Nat := 0x4060
/-- SMC_AVRUN_H (R618). -/
abbrev SMC_AVRUN_H : Nat := 0x4064
/-- SMC_AVLATE_REC (R618). -/
abbrev SMC_AVLATE_REC : Nat := 0x4068
/-- SMC_AVLATE_REC_H (R618). -/
abbrev SMC_AVLATE_REC_H : Nat := 0x406c
/-- SMC_AVLATE_FLT (R618). -/
abbrev SMC_AVLATE_FLT : Nat := 0x4070
/-- SMC_AVLATE_FLT_H (R618). -/
abbrev SMC_AVLATE_FLT_H : Nat := 0x4074
/-- SMC_AVLATE_LOAD (R618). -/
abbrev SMC_AVLATE_LOAD : Nat := 0x4078
/-- SMC_AVLATE_LOAD_H (R618). -/
abbrev SMC_AVLATE_LOAD_H : Nat := 0x407c
/-- SMC_CASE (R619). -/
abbrev SMC_CASE (i0 i1 : Nat) : Nat := 0x4100 + i0 * 0x20 + i1 * 0x4
/-- TMR_TIME (R642). -/
abbrev TMR_TIME : Nat := 0x40000
/-- TMR_TIME_H (R642). -/
abbrev TMR_TIME_H : Nat := 0x40004
/-- TMR_STAT (R642). -/
abbrev TMR_STAT : Nat := 0x40008
/-- TMR_FIRESTAT (R642). -/
abbrev TMR_FIRESTAT : Nat := 0x4000c
/-- TMR_GROUP (R642). -/
abbrev TMR_GROUP : Nat := 0x40010
/-- TMR_CHCTRL (R643). -/
abbrev TMR_CHCTRL (i0 : Nat) : Nat := 0x40100 + i0 * 0x20
/-- TMR_CHCOMPARE (R643). -/
abbrev TMR_CHCOMPARE (i0 : Nat) : Nat := 0x40104 + i0 * 0x20
/-- TMR_CHPERIOD (R643). -/
abbrev TMR_CHPERIOD (i0 : Nat) : Nat := 0x40108 + i0 * 0x20
/-- TMR_CHPHASE (R643). -/
abbrev TMR_CHPHASE (i0 : Nat) : Nat := 0x4010c + i0 * 0x20
/-- TMR_CHSTAT (R643). -/
abbrev TMR_CHSTAT (i0 : Nat) : Nat := 0x40110 + i0 * 0x20
/-- TMR_CHLAST (R643). -/
abbrev TMR_CHLAST (i0 : Nat) : Nat := 0x40114 + i0 * 0x20
/-- TMR_CHFIRECNT (R643). -/
abbrev TMR_CHFIRECNT (i0 : Nat) : Nat := 0x40118 + i0 * 0x20
/-- TMR_CHOVRCNT (R643). -/
abbrev TMR_CHOVRCNT (i0 : Nat) : Nat := 0x4011c + i0 * 0x20
/-- TMR_PCCTRL (R644). -/
abbrev TMR_PCCTRL : Nat := 0x40400
/-- TMR_PCSEL (R644). -/
abbrev TMR_PCSEL (i0 : Nat) : Nat := 0x40440 + i0 * 0x4
/-- TMR_PC (R644). -/
abbrev TMR_PC (i0 : Nat) : Nat := 0x40480 + i0 * 0x8
/-- TMR_PC_H (R644). -/
abbrev TMR_PC_H (i0 : Nat) : Nat := 0x40484 + i0 * 0x8
/-- SMC_EPHSTEP (R645). -/
abbrev SMC_EPHSTEP (i0 : Nat) : Nat := 0x5000 + i0 * 0x20
/-- SMC_EPHCTRL (R645). -/
abbrev SMC_EPHCTRL (i0 : Nat) : Nat := 0x5004 + i0 * 0x20
/-- SMC_EPHKEY (R645). -/
abbrev SMC_EPHKEY (i0 : Nat) : Nat := 0x5008 + i0 * 0x20
/-- SMC_EPHLAND (R645). -/
abbrev SMC_EPHLAND (i0 : Nat) : Nat := 0x500c + i0 * 0x20
/-- SMC_EPHSTAT (R645). -/
abbrev SMC_EPHSTAT (i0 : Nat) : Nat := 0x5010 + i0 * 0x20
/-- SMC_EPHLAST (R645). -/
abbrev SMC_EPHLAST (i0 : Nat) : Nat := 0x5014 + i0 * 0x20
/-- SMC_DBGSTAT (R657). -/
abbrev SMC_DBGSTAT : Nat := 0x6000
/-- SMC_DBGHALT (R657). -/
abbrev SMC_DBGHALT (i0 : Nat) : Nat := 0x6040 + i0 * 0x4

end Reg

end Sys2Proof.Machine
end

