-- ==== Sys2Proof/Machine/State.lean ====
section
/-! DEFINITION. The state of the block: everything the spec gives the machine, as plain data, the reasons a command can
stop, and the state right after the release of PORST_N. Registers live in `regs`, byte storage in `mem`, and what the
spec gives a unit beyond its registers in that unit's record. A sparse map lists only what differs from the default. -/

namespace Sys2Proof.Machine

/-- Where the retirement of a copy goes (R264): kind 0 a router record, 1 a step slot of a network interface, 2 a step
slot of the attachment at that router, 3 nowhere (never sent). -/
structure RetPt where
  kind : Nat
  lcn  : Nat
  idx  : Nat
  deriving DecidableEq, Repr

/-- A packet: the header fields of R247, its payload flits, and the sideband: its return point (R264) and, on virtual
channel 5, its escape target (R261). -/
structure Packet where
  cls     : Nat
  gen     : Nat
  esc     : Bool
  hops    : Nat
  srcDev  : Nat
  srcLcn  : Nat
  sysSrc  : Bool
  crc     : Nat
  step    : Nat
  payload : Nat
  key     : Nat
  data    : List Byte
  ret     : RetPt
  escTo   : Option Nat
  deriving DecidableEq, Repr

/-- One branch of a routed packet: its output port, its escape target (R288; `none` for a copy that leaves through this
router's own local or link port), and whether it has been moved to the escape channel (R260). -/
structure Branch where
  out    : Nat
  target : Option Nat
  esc    : Bool
  deriving DecidableEq, Repr

/-- A packet in an input buffer; `branches` are the unsent branches once it has been routed; `recd` is the retirement record
that its copies name; `need` says that even a single copy takes one, as a report sent by a MIN merge does (R298). -/
structure Held where
  pkt      : Packet
  branches : Option (List Branch)
  recd     : Option Nat
  need     : Bool
  deriving DecidableEq, Repr

/-- A retirement record (R265, R294): copies outstanding, the return point it answers, and the records linked to it. -/
structure RetRec where
  inUse  : Bool
  count  : Nat
  ret    : RetPt
  linked : List Nat
  deriving DecidableEq, Repr

/-- A combining entry (R292 to R306, read under R317): `st` 0 free, 1 window open, 2 waiting for output;
`kind` 0 SUM, 1 MIN, 2 gather-tree sum, 3 FAULT. -/
structure Comb where
  st      : Nat
  kind    : Nat
  pkt     : Option Packet
  sum     : Nat
  branches : List Branch
  held    : List (Option Packet)
  sent    : Option (Nat × Nat)
  lastKey : Nat
  wits    : List Nat
  deriving DecidableEq, Repr

/-- State of one router beyond its registers (R257, R258, R265, R294): buffers by port*8+channel (port 7 holds what its
combining entries send), retirement records, combining entries, the input last granted by output*8+channel. -/
structure RouterInt where
  bufs : List (Nat × List Held)
  recs : List (Nat × RetRec)
  comb : List (Nat × Comb)
  rot  : List (Nat × Nat)
  deriving DecidableEq, Repr

/-- A block that enters the mesh through an attachment or a network interface: received packets by virtual channel, the
copies outstanding by the index of their return point (R267), and whether it has drained in the swap under way (R310). -/
structure Port where
  inbox   : List (Nat × List Packet)
  slots   : List (Nat × Nat)
  drained : Bool
  deriving DecidableEq, Repr

/-- No return point in use. -/
def RetPt.init : RetPt := ⟨3, 0, 0⟩
/-- A free record. -/
def RetRec.init : RetRec := ⟨false, 0, .init, []⟩
/-- A free combining entry; a held report that is absent stands at step -1 with an invalid source (R214, R300). -/
def Comb.init : Comb := ⟨0, 0, none, 0, [], [], none, 0, []⟩
/-- An empty router. -/
def RouterInt.init : RouterInt := ⟨[], [], [], []⟩
/-- An idle port. -/
def Port.init : Port := ⟨[], [], false⟩

/-- One lane of the update engine (R114, R115): registers by code 0 to 15, flags, accumulators, and the context words it
was loaded from. -/
structure Lane where
  mask    : Bool
  ctx     : Nat
  paired  : Bool
  regs    : List Int
  k       : List Bool
  q       : Bool
  acc     : List Int
  elapsed : Nat
  raw     : Nat
  rawOdd  : Nat
  deriving DecidableEq, Repr

/-- A group run in progress (R143, R144); `lost`: a window write has hit a context that its write-back will overwrite (R109). -/
structure Run where
  group  : Nat
  model  : Nat
  pc     : Nat
  cycles : Nat
  lanes  : List Lane
  lost   : Bool
  deriving DecidableEq, Repr

/-- The due event whose segments are being streamed (R154, R157, R187): `ready` once its axon entry has returned. -/
structure Stream where
  graded  : Bool
  payload : Int
  axon    : Nat
  ready   : Bool
  segs    : List Nat
  j       : Nat
  esc     : Nat
  prev    : Nat
  short   : Bool
  deriving DecidableEq, Repr

/-- State of one neuron core beyond its registers and memories (R90 to R106): event-queue head, the words that stood in the
queue at admission, the pool's heads, tails and free chunks by slot, the event being streamed, the members marked active,
the group runs still to do, the run in progress, the stamp sweep, the scrub pointer, and what stops it; the messages' side
(R330 to R332): the next forward sequence number, forwarded copies in flight by sequence number and entry (512 * queue +
pointer), entries whose copy waits to be sent, entries released by their consumer beyond REL by queue, the queue that each
selector last popped, the selectors that stand ready; count records held and in flight, those refused as FULL (256 * window +
first tap), the windows closed since START, and the SENDs injected in the present step; replay; horizon sources; the counted wait
for admission in µs (R223). -/
structure CoreInt where
  eqHead    : Nat
  eqPresent : Nat
  poolHead  : List (Nat × Nat)
  poolTail  : List (Nat × Nat)
  poolRd    : Nat
  poolFree  : List Nat
  overflowed : Bool
  cur       : Option Stream
  active    : List Nat
  plan      : List (Nat × Nat)
  run       : Option Run
  sweep     : Nat
  scrub     : Nat
  stopped   : Bool
  timedOut  : Bool
  fwdSeq    : Nat
  fwds      : List (Nat × Nat)
  fwdWait   : List (Nat × Nat)
  relDone   : List (Nat × Nat)
  popped    : List (Nat × Nat)
  selUp     : List Nat
  taps      : List (Nat × Nat × List Byte)
  tapLost   : Nat
  tapSeq    : Nat
  replay    : Option (Nat × Nat × Nat)
  tapOn     : List (Nat × Nat × Nat)
  tapOut    : List (Nat × Nat)
  tapFull   : List Nat
  tapHigh   : Nat
  sends     : Nat
  hzSrc     : List (Nat × Nat)
  devHz     : Nat
  devSrc    : Nat
  hzWait    : Nat
  deriving DecidableEq, Repr

/-- A core with nothing under way. -/
def CoreInt.init : CoreInt where
  eqHead := 0
  eqPresent := 0
  poolHead := []
  poolTail := []
  poolRd := 0
  poolFree := []
  overflowed := false
  cur := none
  active := []
  plan := []
  run := none
  sweep := 0
  scrub := 0
  stopped := false
  timedOut := false
  fwdSeq := 0
  fwds := []
  fwdWait := []
  relDone := []
  popped := []
  selUp := []
  taps := []
  tapLost := 0
  tapSeq := 0
  replay := none
  tapOn := []
  tapOut := []
  tapFull := []
  tapHigh := 0
  sends := 0
  hzSrc := []
  devHz := 0xFFFFFFFF
  devSrc := 0
  hzWait := 0

/-- A change that a mode commit carries (R224). -/
inductive ChangeKind where
  | start | hold | resume | stop
  | step (n : Nat)
  | learn (on : Bool)
  | lock (on : Bool)
  | stepLen (us : Nat)
  | bankSwap
  | profile (p : Nat)
  deriving DecidableEq, Repr

/-- A change set with its commit step and generation (R226). -/
structure Change where
  kinds : List ChangeKind
  c     : Nat
  gen   : Nat
  deriving DecidableEq, Repr

/-- A participant of mode commits (R226): what it holds prepared, what it will apply at step c, whether it has answered the
PREPARE under way, the generation it has applied, and what the changes it has applied left in force: the held step, lockstep
mode and learning. -/
structure Part where
  prepared  : Option Change
  committed : Option Change
  acked     : Bool
  gen       : Nat
  hold      : Option Nat
  lock      : Bool
  learn     : Bool
  deriving DecidableEq, Repr

/-- The SMC's side of run control and mode commits (R224 to R235): the change under commit, whether its PREPARE, COMMIT or
ABORT has been broadcast (the broadcasts in force: 0 PREPARE, 1 COMMIT, 2 ABORT), the second attempt, the run's anchor, the hold in force, and what else the run carries, the
generation whose effects on the device itself have been made, and the participants of the commit under way. -/
structure RunCtl where
  change    : Option Change
  phase     : Nat
  again     : Bool
  cmd       : Nat
  minDist   : Nat
  tstart    : Nat
  oldLen    : Nat
  anchorC   : Nat
  hold      : Option Nat
  stopping  : Bool
  members   : List (Nat × Nat)
  nextHold  : Option Nat
  swapC     : Nat
  cast      : List (Nat × Change)
  applied   : Nat
  expect    : Nat
  swapGen   : Nat
  deriving DecidableEq, Repr

/-- A participant with nothing prepared. -/
def Part.init : Part := ⟨none, none, false, 0, none, false, false⟩
/-- No run. -/
def RunCtl.init : RunCtl := ⟨none, 0, false, 0, 0, 0, 100, 0, none, false, [], none, 0, [], 0, 0, 0⟩

/-- An Almanac entry (R46). -/
structure AlmEntry where
  type   : Nat
  scope  : Nat
  enc    : Nat
  first  : Nat
  count  : Nat
  stride : Nat
  dest   : Nat
  off    : Nat
  len    : Nat
  exp    : Nat
  crc    : Nat
  zero   : Bool
  deriving DecidableEq, Repr

/-- An image command in progress (R57, R64, R75): whether it installs, the source (0 slot A, 1 slot B, 2 host), its storage
and length, whether it is a delta, a fallback or the SMC's own, what it waits for (0 the stop of the active image, 1
clearing, 2 streaming, 3 the checks after streaming, 4 programming), the next section, the contents of the MODE and SETTINGS
sections met, the destination ranges of INGRESS records, the slot written, and the command word with its source, and
whether the host has gone, so that the load fails once what it has sent has arrived (R73), and SMC_IMGSTAT.STATE as a full load
found it. -/
structure ImgJob where
  install  : Bool
  source   : Nat
  base     : Nat
  size     : Nat
  delta    : Bool
  fallback : Bool
  own      : Bool
  phase    : Nat
  next     : Nat
  mode     : List Byte
  settings : List Byte
  ranges   : List (Nat × Nat)
  slot     : Nat
  word     : Nat
  src      : Nat
  gone     : Bool
  was      : Nat
  deriving DecidableEq, Repr

/-- What the active image declares (R48, R279, R533, R688 to R692) beyond the registers it writes: models that pair and cores
in use (bit masks), the report keys and members of horizon groups, and the power plan, with the plan that a delta image has
staged; the widths of the population tag and of the neuron index in keys; the command in progress, the one that loaded the
present image, and the sections of that image that its recovery copy takes (R598), as they were streamed. -/
structure ImgInt where
  paired    : Nat
  inUse     : Nat
  horizKeys : List (Nat × Nat)
  horiz     : List Byte
  plan      : List Byte
  planNext  : List Byte
  tagBits   : Nat
  indexBits : Nat
  job       : Option ImgJob
  loaded    : Option ImgJob
  kept      : List (AlmEntry × List Byte)
  deriving DecidableEq, Repr

/-- No image; without a KEYS section the tag has 5 bits and the index 13 (R279). -/
def ImgInt.init : ImgInt := ⟨0, 0, [], [], [], [], 5, 13, none, none, []⟩

/-- A weight-keep save (R375 to R377): whether an occasion waits and whether it is a periodic one, whether a set is being built
and into which half, its sequence number, the partitions it holds, those still to be written, those whose next pass it waits for, where the next chunk goes, the directory so far and its digest. -/
structure KeepInt where
  due   : Bool
  every : Bool
  busy  : Bool
  half  : Nat
  seq   : Nat
  parts : List Nat
  left  : List Nat
  wait  : List Nat
  next  : Nat
  dir   : List (Nat × Nat × Nat)
  deriving DecidableEq, Repr

/-- No save. -/
def KeepInt.init : KeepInt := ⟨false, false, false, 0, 0, [], [], [], 4096, []⟩

/-- State of one Temper unit beyond its registers (R346, R355 to R369): pre records posted and not yet applied as
(core-in-partition, entry number, step, amount), the reward latched, the open epoch k_o, the pass under way (its last step,
the entry and synapse it stands at, creations so far, whether it has met an invalid rule set, the maxima and factors by
history record, whether it learns, has run a pass 2, has created or pruned, when it began), the checkpoint under way and the START it was made for, and one more than
the epoch for which learning has been decided. -/
structure TemperInt where
  pre     : List (Nat × Nat × Nat × Nat)
  reward  : Option Int
  epoch   : Nat
  eLast   : Nat
  n       : Nat
  j       : Nat
  created : Nat
  mnew    : List (Nat × Nat)
  ks      : List (Nat × Int)
  learns  : Bool
  second  : Bool
  changed : Bool
  began   : Nat
  ckBusy  : Bool
  ckStep  : Nat
  ckGen   : Nat
  ckBegan : Nat
  openEp  : Nat
  ahead   : Option (Nat × List Byte × Bool)
  deriving DecidableEq, Repr

/-- A Temper unit with nothing under way. -/
def TemperInt.init : TemperInt := ⟨[], none, 0, 0, 0, 0, 0, [], [], false, false, false, 0, false, 0, 0, 0, 0, none⟩

/-- A vault beyond its registers (R177, R179): the next word the scrubber reads, corrected errors by row (bank * 512 + row),
rows being copied to a spare, the repair map in force (R566) as the rows replaced, by bank the first replaced first, and the
columns replaced (bank * 256 + bit position), and banks whose exhaustion has been reported. -/
structure VaultInt where
  scrub  : Nat
  ce     : List (Nat × Nat)
  rows   : List Nat
  spares : List Nat
  cols   : List Nat
  gone   : List Nat
  deriving DecidableEq, Repr

/-- A vault with nothing under way and no row replaced. -/
def VaultInt.init : VaultInt := ⟨0, [], [], [], [], []⟩



/-- One power domain beyond its registers (R542 to R547): the transition in progress (0 none, 1 wake, 2 to RETAIN, 3 to OFF,
4 voltage ramp of a raise, 5 clock switch of a raise, 6 clock switch of a lowering, 7 voltage ramp of a lowering, 8 waiting
to start a wake again), the state a wake began from, the timeouts met in this wake, and whether an emergency overrides it. -/
structure DomInt where
  act   : Nat
  start : Nat
  tries : Nat
  emerg : Bool
  deriving DecidableEq, Repr

/-- An idle power domain. -/
def DomInt.init : DomInt := ⟨0, 3, 0, false⟩

/-- Power control beyond its registers: the draws of the last 1 ms (R537), the device state being entered whether a wake
source has arrived meanwhile (R551, R553), PWRFAIL_N, INITPROF of the plan, and the regulator faults the SMC has logged (R532). -/
structure PwrInt where
  draws    : List Nat
  goal     : Option Nat
  wakeNext : Bool
  pwrfail  : Bool
  initProf : Nat
  regFault : List Nat
  deriving DecidableEq, Repr

/-- Power control after reset. -/
def PwrInt.init : PwrInt := ⟨[], none, false, false, 0, []⟩

/-- Resets and the start beyond their registers (R557 to R585): the levels of PORST_N, SYSRST_N, the supply monitor's hold and
PCIE_PERST_N (true: asserted), RSTOUT_N and ERR_N as the device drives them, whether RSTOUT_N has been low for 10 ms, the order of
release (0 waiting for the crystal, 1 fuse load, 2 waiting to wake the SMC, 3 waiting for the SMC domain, 4 SMC core running),
whether every vault is tested in full, vaults whose domain had failed before the reset, the core waves done, the time at which
the reset ended, whether the firmware runs (its watchdog with it) and has confirmed its boot, and of a run-time map change
(R572) the core-row domain with the position of its new spare, the band rows held, and the cores still to be copied; and the instruction
register of the TAP (R681). -/
structure RstInt where
  porst   : Bool
  sysrst  : Bool
  aon     : Bool
  perst   : Bool
  rstout  : Bool
  errN    : Bool
  outDone : Bool
  rel     : Nat
  full    : Bool
  vltFail : List Nat
  wave    : Nat
  began   : Nat
  fwRuns  : Bool
  confirm : Bool
  swap    : Option (Nat × Nat)
  hold    : List Nat
  copies  : List Nat
  tapIr   : Nat
  deriving DecidableEq, Repr

/-- Reset state right after the release of PORST_N; PCIE_PERST_N is still asserted (assumption log 2). -/
def RstInt.init : RstInt := ⟨false, false, false, true, true, false, false, 0, true, [], 0, 0, false, false, none, [], [], 1⟩

/-- A security-log entry (R517, R518, R519). -/
structure SecEntry where
  kind    : Nat
  role    : Nat
  src     : Nat
  slot    : Nat
  result  : Nat
  subject : Nat
  data    : List Byte
  deriving DecidableEq, Repr

/-- The SEC block beyond its registers (R510 to R516): the fused serial number, the key hash of each slot (installer 0 to 3,
maker 4 and 5), the pending nonce's role, slot and time, the run of failed VERIFY commands, the time the session opened,
the key command in progress with its slot and hash, and the
log entries that wait with their times while the SMC is halted (R655). -/
structure SecInt where
  serial  : Nat
  hashes  : List (Nat × Nat)
  nonce   : Option (Nat × Nat × Nat)
  fails   : Nat
  opened  : Nat
  prog    : Option (Nat × Nat)
  revoke  : Option Nat
  waits   : List (Nat × SecEntry)
  deriving DecidableEq, Repr

/-- The SEC block with nothing under way. -/
def SecInt.init : SecInt := ⟨0, [], none, 0, 0, none, none, []⟩

/-- One host queue beyond its registers (R430, R433): the slot of its oldest local record, counted from BASE, and the
records that entered since the last signal. -/
structure HqInt where
  first : Nat
  since : Nat
  deriving DecidableEq, Repr

/-- An empty host queue. -/
def HqInt.init : HqInt := ⟨0, 0⟩

/-- The SMC as a sender of messages (R379, R633): its next sequence number, the alarms whose message waits, oldest first, as
(alarm, S), and its messages in flight by sequence number, with the alarm each reports, or 64. -/
structure SmcInt where
  seq    : Nat
  alarms : List (Nat × Nat)
  flying : List (Nat × Nat)
  deriving DecidableEq, Repr

/-- Nothing sent. -/
def SmcInt.init : SmcInt := ⟨0, [], []⟩


/-- A fault case beyond its registers (R599 to R613): the sealed step at the start of its hang check, the suspect whose case it
waits for (R601), its opening time, the step e of the checkpoint, the step f whose work the fault interrupted, the core whose
run aborted again with the step of that, the contexts still suspected, the guilty one, whether a spare must take the place of
`core`, its flags (INEXACT, DEVIATED, JFULL, CKFAIL), the clamps counted and the late time charged before. -/
structure CaseInt where
  sealed0  : Nat
  chain    : Option Nat
  opened   : Nat
  e        : Nat
  f        : Nat
  core     : Nat
  again    : Option Nat
  suspects : List Nat
  guilty   : Option Nat
  subst    : Bool
  flags    : Nat
  clamps   : Nat
  late0    : Nat
  deriving DecidableEq, Repr

/-- No case. -/
def CaseInt.init : CaseInt := ⟨0, none, 0, 0, 0, 0, none, [], none, false, 0, 0, 0⟩

/-- Fault handling beyond its registers: the intake FIFO, the failures that the SMC itself has found (partition, core, and
whether a spare can take the core's place), the next case number, the cases by slot, the times recoveries began (R607), one more
than the last step that a recovering partition replays (R603), by core the journal records already passed over in replay,
whether a partition has rejoined with the lag not back (R614), the MRAM totals of the availability counters
(R618), and the sections that the recovery copy holds so far (R598). -/
structure RecInt where
  fifo     : List Packet
  own      : List (Nat × Nat × Bool)
  next     : Nat
  cases    : List (Nat × CaseInt)
  begun    : List (Nat × Nat)
  replay   : List (Nat × Nat)
  fed      : List (Nat × Nat)
  catching : Bool
  totals   : List Nat
  copied   : Nat
  deriving DecidableEq, Repr

/-- No fault handling under way. -/
def RecInt.init : RecInt := ⟨[], [], 0, [], [], [], [], false, [0, 0, 0, 0], 0⟩


/-- An event of a stream (R395, R398): its key, payload and kind, the port it came from, and whether it stood in a row queue,
or its packet in an input buffer, when the Tundish was admitted to its step (R209). -/
structure TndEvent where
  key     : Nat
  payload : Nat
  graded  : Bool
  port    : Nat
  old     : Bool
  deriving DecidableEq, Repr

/-- A packet in an input buffer (R390): kind 0 long packet, whose bytes stand in the buffer from `pos` on, 1 frame start, 2 frame
end, 3 a long packet that was lost (R390). -/
structure TndItem where
  kind : Nat
  vc   : Nat
  dt   : Nat
  pos  : Nat
  len  : Nat
  old  : Bool
  deriving DecidableEq, Repr

/-- State of the Tundish beyond its registers and SRAM (R390 to R410): input buffers by port, the elements already decoded of
each one's first packet, how far each port has written round its buffer, the line number of each stream and whether it has received its first frame, row queues, horizons
and their sources by DOWN entry, the device group's horizon, whether a step is open for injection, whether the open window
has run a step or lost input, its counts, and the WINDOW records held. -/
structure TndInt where
  bufs   : List (Nat × List TndItem)
  pos    : List (Nat × Nat)
  wrote  : List (Nat × Nat)
  line   : List (Nat × Nat)
  seen   : List (Nat × Bool)
  rows   : List (Nat × List TndEvent)
  hz     : List (Nat × Nat)
  hzSrc  : List (Nat × Nat)
  devHz  : Nat
  devSrc : Nat
  isOpen : Bool
  ran    : Bool
  broken : Bool
  counts : List (Nat × Nat)
  held   : List (List Byte)
  lost   : Nat
  deriving DecidableEq, Repr

/-- The Tundish with nothing under way. -/
def TndInt.init : TndInt := ⟨[], [], [], [], [], [], [], [], 0xFFFFFFFF, 0, false, false, false, [], [], 0⟩

/-- A descriptor in progress (R425): its index, fields, and the bytes (READQ and EVENTS: records) done; whether an access of it was recorded. -/
structure ChJob where
  p     : Nat
  op    : Nat
  flags : Nat
  len   : Nat
  haddr : Nat
  daddr : Nat
  tag   : Nat
  done  : Nat
  acc   : Bool
  deriving DecidableEq, Repr

/-- A completion entry still to be written (R427); `wait` names the Ladle send descriptor and sequence number of a MSG whose
reply is pending. -/
structure ChEnt where
  p      : Nat
  tag    : Nat
  count  : Nat
  status : Nat
  detail : Nat
  irq    : Bool
  wait   : Option (Nat × Nat)
  deriving DecidableEq, Repr

/-- A Ladle channel beyond its registers (R424 to R428): the descriptor in progress, the entries to be written in descriptor
order, and host-event records read and not yet handed to the Tundish (R403). -/
structure ChInt where
  cur  : Option ChJob
  ents : List ChEnt
  evs  : List (List Byte)
  deriving DecidableEq, Repr

/-- A channel with nothing under way. -/
def ChInt.init : ChInt := ⟨none, [], []⟩

/-- The Ladle and the SMBus port beyond their registers (R424 to R438): channels, the channel granted last; the SMBus read
pointer, whether an SMBus access was recorded and a PEC failed since the last status byte; whether host-lost state began with
the link up (R434). -/
structure LdlInt where
  chans  : List (Nat × ChInt)
  last   : Nat
  ptr    : Nat
  smbAcc : Bool
  smbPec : Bool
  soft   : Bool
  deriving DecidableEq, Repr

/-- The Ladle with nothing under way. -/
def LdlInt.init : LdlInt := ⟨[], 31, 0, false, false, false⟩


/-- Timers beyond their registers (R621 to R633): the sources that drive their pin high (channel n, or 16 + alarm), what the
slew has still to add to the timebase, and nanoseconds since the last change by slewing. -/
structure TmrInt where
  high : List Nat
  slew : Int
  gap  : Nat
  deriving DecidableEq, Repr

/-- Timers with nothing under way. -/
def TmrInt.init : TmrInt := ⟨[], 0, 0⟩

/-- One Sprue link beyond its registers (R446 to R454): the next SEQ to send, the sequenced frames that no ACK covers with
how many of them (the last ones) wait to be sent again, the next SEQ expected, replays and retrains in a row that advanced no
ACK, whether a retrain is under way, credits used at the peer and flits freed here and not yet returned by virtual channel,
the next ordinal sent and accepted, the return table, return tags that wait, packets partly received and partly sent by
virtual channel, management records that wait, the time of the last NAK,
whether the ingress has stamped the new generation in the swap under way (R310), and the frames put on the line, newest last. -/
structure LinkInt where
  seq     : Nat
  unacked : List (List Byte)
  resend  : Nat
  expect  : Nat
  spins   : Nat
  turns   : Nat
  retrain : Bool
  used    : List (Nat × Nat)
  freed   : List (Nat × Nat)
  ordOut  : Nat
  ordIn   : Nat
  table   : List (Nat × RetPt)
  tags    : List Nat
  coming  : List (Nat × List Byte)
  going   : List (Nat × List Byte)
  mgmt    : List (List Byte)
  nakAt   : Option Nat
  fresh   : Bool
  sent    : List (List Byte)
  deriving DecidableEq, Repr

/-- A link before its first training. -/
def LinkInt.init : LinkInt := ⟨0, [], 0, 0, 0, 0, false, [], [], 0, 0, [], [], [], [], [], none, false, []⟩

/-- A device known in discovery (R456): its serial number, preference, and its links with each peer's serial and link. -/
structure Member where
  serial : Nat
  prefv  : Nat
  prefid : Nat
  peers  : List (Nat × Nat × Nat)
  deriving DecidableEq, Repr

/-- The system of devices (R455 to R467): the links, the members known, when the set last changed, the assignment table
adopted with the serial of its sender, when each learning-table entry was learned, the totals that devices have answered in the
system commit under way (device, acknowledgements, NAKs), the devices that report LOADED with their participants, and, at another device than 0, whether its total is still owed. -/
structure SprInt where
  links   : List (Nat × LinkInt)
  members : List Member
  changed : Nat
  table   : List (Nat × Nat)
  owner   : Option Nat
  learned : List (Nat × Nat)
  totals  : List (Nat × Nat × Nat)
  loaded  : List (Nat × Nat)
  owes    : Bool
  deriving DecidableEq, Repr

/-- A device that knows no other. -/
def SprInt.init : SprInt := ⟨[], [], 0, [], none, [], [], [], false⟩

/-- One Vernier encoder (R481): its count, the timebase at the last counted edge, and its errors. -/
structure VEnc where
  count : Nat
  at_   : Nat
  errs  : Nat
  deriving DecidableEq, Repr

/-- An encoder at 0. -/
def VEnc.init : VEnc := ⟨0, 0, 0⟩

/-- The summary of a profile (R482): counting and edge points, the smallest and largest y of counting points that are not edge
points, the largest z, the timebase and counts of ENCSEL and ENCCHK latched at its frame start, and its frame number. -/
structure VSum where
  pts   : Nat
  edges : Nat
  ymin  : Option Int
  ymax  : Option Int
  zmax  : Option Int
  time  : Nat
  sel   : Nat
  chk   : Nat
  frame : Nat
  deriving DecidableEq, Repr

/-- The object in progress (R484, R485): counts of its first and last occupied profile and of the profile before, ENCCHK at
its first and last occupied profile, extremes of its points, which of INPUT, SPEED and EDGE have applied, whether SPEED would
apply if another occupied profile came, and whether the seal was open. -/
structure VObj where
  first : Nat
  last  : Nat
  prev  : Nat
  chk   : Nat
  chkTo : Nat
  ymin  : Option Int
  ymax  : Option Int
  zmax  : Option Int
  input : Bool
  speed : Bool
  edge  : Bool
  tail  : Bool
  open_ : Bool
  deriving DecidableEq, Repr

/-- The Vernier partition beyond its window registers and memories (R473 to R505): whether it is powered and out of reset,
its time in ns, the cause of its next RESTART record, encoders, what the last frame start latched, the lines of the frame in
progress and whether one was lost, the summary under way, the object in progress, WRSEQ, OBJCNT and REJCNT, records that wait
to be published, the times of the last lockstep mismatches, VRN_BUSY, frames begun and frames dropped. -/
structure VrnInt where
  live  : Bool
  ns    : Nat
  cause : Nat
  encs  : List (Nat × VEnc)
  start : Option (Nat × Nat × Nat)
  lines : List (List Byte)
  lost  : Bool
  sum   : Option VSum
  obj   : Option VObj
  seq   : Nat
  objs  : Nat
  rejs  : Nat
  out   : List (List Byte)
  slips : List Nat
  busy  : Bool
  frame : Nat
  drops : Nat
  deriving DecidableEq, Repr

/-- The partition without supply. -/
def VrnInt.init : VrnInt := ⟨false, 0, 1, [], none, [], false, none, none, 0, 0, 0, [], [], false, 0, 0⟩

/-- The whole state. -/
structure State where
  /-- Commands that wait, first in, first out. -/
  pending : List Instr
  /-- How many free values have been drawn (the model's own field). -/
  draws : Nat
  /-- The timebase in ns (R621), 64 bits. -/
  time : Nat
  /-- Registers by device address, where they differ from their reset value. -/
  regs : List (Nat × Word)
  /-- The latch of each wide counter and source (R14): key 4 * low address + source. -/
  latches : List (Nat × Nat)
  /-- Byte storage by device address: contexts, stores, queues, scratchpads, vaults, SRAM, MRAM, tables. -/
  mem : List (Nat × Byte)
  /-- Stored words with wrong bits, by word address: 1 correctable, 2 or more not (R82, R175). -/
  upsets : List (Nat × Nat)
  /-- Poisoned 128-bit vault words by device address (R176). -/
  poison : List (Nat × Bool)
  /-- The answer of the last read command. -/
  rdata : List Byte
  /-- Packets waiting to enter input port p of node n, at key 8n+p: what an upstream output, the outgoing buffer of a network interface or an attachment has sent. -/
  wires : List (Nat × List Packet)
  /-- Free flits downstream of output o of node n on channel v, at key (8n+o)*8+v; 17 where unlisted (R257). -/
  credits : List (Nat × Nat)
  /-- Flits freed in input p of node n on channel v whose credit is still on its way, at key (8n+p)*8+v. -/
  owed : List (Nat × Nat)
  /-- Retirement tokens on the return lanes (R266). -/
  tokens : List RetPt
  /-- Routers: a logical router at its LCN, a pass-through router at 1024 + PCN. -/
  routers : List (Nat × RouterInt)
  /-- Network interfaces at their LCN, attachments at 1024 + a: Tundish rows 0 to 31, Ladle 32 to 35, SMC 36, Sprue link n 40 + n. -/
  ports : List (Nat × Port)
  /-- Neuron cores by LCN. -/
  cores : List (Nat × CoreInt)
  /-- Participants of mode commits: core n, router 1024 + n, Temper unit 2048 + p, Tundish 2064, Ladle 2065 (R226). -/
  parts : List (Nat × Part)
  /-- Run control and mode commits at the SMC. -/
  runc : RunCtl
  /-- The image loader and what the active image declares. -/
  img : ImgInt
  /-- Temper units by partition. -/
  tempers : List (Nat × TemperInt)
  /-- Vaults by partition. -/
  vaults : List (Nat × VaultInt)
  /-- Power domains (R522). -/
  doms : List (Nat × DomInt)
  /-- Power control. -/
  pwr : PwrInt
  /-- Resets and the start. -/
  rst : RstInt
  /-- The SEC block. -/
  sec : SecInt
  /-- PCIe configuration space, where it differs from its reset value (R416, R417). -/
  cfg : List (Nat × Word)
  /-- Host memory, as the Ladle reads and writes it. -/
  host : List (Nat × Byte)
  /-- The boot flash does not take what is programmed into it (R75): a fault of an external part, which no command changes. -/
  flashBad : Bool
  /-- MSI-X messages sent, by vector, oldest first. -/
  msgs : List Nat
  /-- Host queues. -/
  hqs : List (Nat × HqInt)
  /-- Fault handling at the SMC. -/
  recv : RecInt
  /-- The Tundish. -/
  tnd : TndInt
  /-- The weight-keep save. -/
  keep : KeepInt
  /-- The SMC as a sender of messages. -/
  smc : SmcInt
  /-- The Ladle and the SMBus port. -/
  ldl : LdlInt
  /-- Timers. -/
  tmr : TmrInt
  /-- Sprue links and the system of devices. -/
  spr : SprInt
  /-- The Vernier partition. -/
  vrn : VrnInt
  deriving DecidableEq, Repr

/-- Why a command stops the machine. No command of this model does: every row of the table has an effect, or waits. -/
inductive Fault where
  /-- Raised by no command; a machine that can never be built (safe). -/
  | never
  deriving DecidableEq, Repr

/-- Why a command is refused. -/
inductive Refusal where
  /-- Raised by a command whose meaning has not been written (safe). -/
  | notModelled (mnemonic : String)
  deriving DecidableEq, Repr

/-- The state right after the release of PORST_N: every register at its reset value, nothing listed in any memory, nothing
under way (R557, R559; values that the spec does not give are named in assumption log 2). -/
def State.reset : State where
  pending := []
  draws := 0
  time := 0
  regs := []
  latches := []
  mem := []
  upsets := []
  poison := []
  rdata := []
  wires := []
  credits := []
  owed := []
  tokens := []
  routers := []
  ports := []
  cores := []
  parts := []
  runc := RunCtl.init
  img := ImgInt.init
  tempers := []
  vaults := []
  doms := []
  pwr := PwrInt.init
  rst := RstInt.init
  sec := SecInt.init
  cfg := []
  host := []
  flashBad := false
  msgs := []
  hqs := []
  recv := RecInt.init
  tnd := TndInt.init
  keep := KeepInt.init
  smc := SmcInt.init
  ldl := LdlInt.init
  tmr := TmrInt.init
  spr := SprInt.init
  vrn := VrnInt.init

end Sys2Proof.Machine
end

