-- ==== Sys2Proof/Machine/Ops.lean ====
section
/-! DEFINITION. The named operations over registers, byte storage, units, packets and counters that every command uses. -/

namespace Sys2Proof.Machine

/-- What a command answers. -/
abbrev Out := Host.Outcome State Fault Refusal

namespace State

/-- The word of the register at a device address. -/
def rd (s : State) (a : Nat) : Word := mapGet (regReset a) s.regs a

/-- The state with a register's word replaced. -/
def wr (s : State) (a : Nat) (v : Word) : State := { s with regs := mapSet (regReset a) s.regs a v }

/-- Field `[hi:lo]` of a register. -/
def rf (s : State) (a hi lo : Nat) : Nat := getF (s.rd a) hi lo

/-- The state with a register field replaced. -/
def wf (s : State) (a hi lo v : Nat) : State := s.wr a (setF (s.rd a) hi lo v)

/-- Bit `i` of a register. -/
def bit (s : State) (a i : Nat) : Bool := s.rf a i i == 1

/-- The state with bit `i` of a register set. -/
def setBit (s : State) (a i : Nat) : State := s.wf a i i 1

/-- The state with a 32-bit counter increased; it saturates at 0xFFFF_FFFF. -/
def bump (s : State) (a n : Nat) : State := s.wr a (BitVec.ofNat 32 (satN 32 ((s.rd a).toNat + n)))

/-- A 48-bit counter: bits [47:32] lie four bytes above bits [31:0]. -/
def rd48 (s : State) (a : Nat) : Nat := (s.rd a).toNat + 2 ^ 32 * s.rf (a + 4) 15 0

/-- The state with a 48-bit counter increased; it wraps. -/
def bump48 (s : State) (a n : Nat) : State :=
  let v := (s.rd48 a + n) % 2 ^ 48
  (s.wr a (BitVec.ofNat 32 v)).wf (a + 4) 15 0 (v / 2 ^ 32)

/-- One byte of storage. -/
def byte (s : State) (a : Nat) : Byte := mapGet 0 s.mem a

/-- `n` bytes of storage from `a` up. -/
def bytes (s : State) (a : Nat) : Nat → List Byte
  | 0 => []
  | n + 1 => s.byte a :: bytes s (a + 1) n

/-- `n` bytes of storage read as a little-endian number. -/
def num (s : State) (a n : Nat) : Nat := leNat (s.bytes a n)

/-- The memory with bytes written from `a` up. -/
def memPut (m : List (Nat × Byte)) (a : Nat) : List Byte → List (Nat × Byte)
  | [] => m
  | b :: t => memPut (mapSet 0 m a b) (a + 1) t

/-- The word of storage that holds a byte, under the ECC word of its memory: 16 bytes in a vault (R175), else 4 (R82). -/
def eccWord (a : Nat) : Nat := if 0x200000000 ≤ a then a / 16 * 16 else a / 4 * 4

/-- The state with bytes stored from `a` up. A word that is written is no longer wrong and no longer poisoned (R176), be it written
in part only: its other bytes then hold what storage holds of them (DESIGN CHOICE, assumption log 45). -/
def store (s : State) (a : Nat) (bs : List Byte) : State :=
  { s with mem := memPut s.mem a bs,
           upsets := mapClear s.upsets (eccWord a) (a + bs.length),
           poison := mapClear s.poison (eccWord a) (a + bs.length) }

/-- The state with `n` little-endian bytes of a number stored. -/
def putNum (s : State) (a n v : Nat) : State := s.store a (leBytes n v)

/-- The state with the answer of a read. -/
def answer (s : State) (bs : List Byte) : State := { s with rdata := bs }

/-- The state after drawing a free value. -/
def draw (s : State) : State := { s with draws := s.draws + 1 }

/-- A core's internal state. -/
def core (s : State) (c : Nat) : CoreInt := mapGet .init s.cores c
/-- The state with a core's internal state replaced. -/
def setCore (s : State) (c : Nat) (x : CoreInt) : State := { s with cores := mapSet .init s.cores c x }
/-- A router's internal state. -/
def router (s : State) (n : Nat) : RouterInt := mapGet .init s.routers n
/-- The state with a router's internal state replaced. -/
def setRouter (s : State) (n : Nat) (x : RouterInt) : State := { s with routers := mapSet .init s.routers n x }
/-- A network interface or attachment. -/
def port (s : State) (n : Nat) : Port := mapGet .init s.ports n
/-- The state with a network interface or attachment replaced. -/
def setPort (s : State) (n : Nat) (x : Port) : State := { s with ports := mapSet .init s.ports n x }
/-- A Temper unit. -/
def temper (s : State) (p : Nat) : TemperInt := mapGet .init s.tempers p
/-- The state with a Temper unit replaced. -/
def setTemper (s : State) (p : Nat) (x : TemperInt) : State := { s with tempers := mapSet .init s.tempers p x }
/-- A participant of mode commits. -/
def part (s : State) (n : Nat) : Part := mapGet .init s.parts n
/-- The state with a participant replaced. -/
def setPart (s : State) (n : Nat) (x : Part) : State := { s with parts := mapSet .init s.parts n x }
/-- A Sprue link. -/
def link (s : State) (k : Nat) : LinkInt := mapGet .init s.spr.links k
/-- The state with a Sprue link replaced. -/
def setLink (s : State) (k : Nat) (x : LinkInt) : State := { s with spr := { s.spr with links := mapSet .init s.spr.links k x } }

end State

/-- Base of the core window of an LCN (R78). -/
def coreWin (c : Nat) : Nat := 0x100000000 + c * 0x400000
/-- Base of the router window of an LCN (R29). -/
def rtrWin (c : Nat) : Nat := 0x10000000 + c * 0x10000
/-- Base of the vault window of a partition (R150). -/
def vltWin (p : Nat) : Nat := 0x200000000 + p * 0x2000000
/-- Storage of the upper 64 KiB of core 63's block of a checkpoint (R592), which the register block hides (R151): it has no
device address, so it lies above the 40-bit space. -/
def hiddenReserve (p : Nat) : Nat := 0x20800000000 + 0x10000 * p
/-- The SMC's 2 MiB of SRAM (R27), which only the SMC reaches: it has no device address. What its firmware keeps there and the
spec names (the Ephemeris table of R634, the progress of loads, commits and recoveries) stands in registers and records of State;
the bytes are lost with the SMC domain. -/
def smcSram : Nat := 0x20900000000

/-- Partition of a core (R7). -/
def partOf (c : Nat) : Nat := c / 32 / 8 * 4 + c % 32 / 8
/-- Number of a core within its partition (R7). -/
def cipOf (c : Nat) : Nat := c / 32 % 8 * 8 + c % 8
/-- The core of a partition and a number within it (R278). -/
def lcnOf (p k : Nat) : Nat := 32 * (8 * (p / 4) + k / 8) + 8 * (p % 4) + k % 8
/-- The core that a key's home fields name (R278). -/
def homeLcn (key : Nat) : Nat := lcnOf (bits key 27 24) (bits key 23 18)
/-- Home fields of a device and core (R278). -/
def homeKey (dev lcn : Nat) : Nat := dev * 2 ^ 28 + partOf lcn * 2 ^ 24 + cipOf lcn * 2 ^ 18

/-- Safe state holds: the compute fabric stops (R21). -/
def State.fabricStops (s : State) : Bool := s.bit Reg.PWR_DEVSTAT 29

/-- This device's number (R42). -/
def State.dev (s : State) : Nat := s.rf Reg.SPL_SYSSTAT 23 20

/-- The header bytes that the CRC covers: CRC, HOPS and ESC taken as 0 (R255). -/
def Packet.crcBytes (p : Packet) : List Byte :=
  leBytes 4 p.key ++ leBytes 4 p.payload ++ leBytes 2 p.step ++ leBytes 2 0 ++
  leBytes 4 (p.cls * 2 ^ 29 + p.gen * 2 ^ 28 + p.srcDev * 2 ^ 16 + p.srcLcn * 2 ^ 6 + (if p.sysSrc then 2 ^ 5 else 0)) ++ p.data

/-- The packet with its CRC computed (R255). -/
def Packet.sign (p : Packet) : Packet := { p with crc := crc16 p.crcBytes }

/-- The packet's CRC is right, and its length is one a packet may have (R251, R256). -/
def Packet.good (p : Packet) : Bool :=
  (p.cls < 4 || p.cls = 7 || p.step % 32 ≤ 16) && p.crc == crc16 p.crcBytes

/-- Virtual channel of a class (R248). -/
def vcOf (cls : Nat) : Nat :=
  match cls with
  | 0 => 2 | 1 => 2 | 2 => 1 | 3 => 0 | 4 => 3 | 5 => 4 | 6 => 3 | _ => 0

/-- Length of a packet in flits (R248, R251). -/
def Packet.flits (p : Packet) : Nat := 1 + (p.data.length + 15) / 16

/-- The packet takes part in sealing (R209, R210). -/
def Packet.isData (p : Packet) : Bool := p.cls ≤ 2

/-- Index of the return point of a packet of step `t` and generation `g` (R264, R267): the step slot, above it what the
counts tell apart: 0 to 3 packets that take part in sealing, 4 to 7 horizon reports, 8 to 11 other packets, and the
generation (R310). -/
def retIdx (cls key t g : Nat) : Nat :=
  16 * g + (if cls ≤ 2 then t % 4 else if (cls = 3 || cls = 7) && key / 2 ^ 28 = 1 then 4 + t % 4 else 8 + t % 4)

/-- Router that carries Sprue link `n` (R445). -/
def linkLcn (n : Nat) : Nat := [7, 24, 255, 799, 999, 1016, 224, 768].getD n 0

/-- The Sprue link of a router (R445). -/
def lcnLink (l : Nat) : Option Nat := firstIdx (· == l) [7, 24, 255, 799, 999, 1016, 224, 768]

/-- The LCN whose router serves a network interface or attachment (R245): Tundish row r, Ladle, SMC, Sprue link. -/
def portLcn (n : Nat) : Nat :=
  if n < 1024 then n else if n < 1056 then (n - 1024) * 32 else if n < 1060 then 14 + (n - 1056)
  else if n = 1060 then 18 else linkLcn (n - 1064)

/-- A logical core is in use (R687). -/
def State.inUse (s : State) (c : Nat) : Bool := bitAt s.img.inUse c

/-- Core-row domain of a core (R522). -/
def rowDom (c : Nat) : Nat := 8 * partOf c + c / 32 % 8

/-- Position of the spare in a band row (R570): the easternmost while no map is in force. -/
def State.sparePos (s : State) (d : Nat) : Nat := if s.bit (Reg.RST_MAP d) 31 then s.rf (Reg.RST_MAP d) 16 13 else 8

/-- Position of a core in its band row (R244, R570). -/
def State.corePos (s : State) (c : Nat) : Nat := if s.sparePos (rowDom c) ≤ c % 8 then c % 8 + 1 else c % 8

/-- Physical column of a core. -/
def State.coreCol (s : State) (c : Nat) : Nat := 9 * (c % 32 / 8) + s.corePos c

/-- Physical core number of a core (R7). -/
def State.corePcn (s : State) (c : Nat) : Nat := 36 * (c / 32) + s.coreCol c

/-- The router at a physical row and column: a logical router at its LCN, a pass-through router at 1024 + PCN (R242). -/
def State.nodeAt (s : State) (row col : Nat) : Nat :=
  let d := 8 * (row / 8 * 4 + col / 9) + row % 8
  let sp := s.sparePos d
  if col % 9 = sp then 1024 + 36 * row + col else 32 * row + 8 * (col / 9) + (if col % 9 < sp then col % 9 else col % 9 - 1)

/-- The wire that a port injects into: the local input (4), the Sprue link input (5) or the outward attachment input (6) of its
router; the Tundish enters through the router at physical column 0 (R246). -/
def State.injWire (s : State) (n : Nat) : Nat :=
  if n < 1024 then 8 * n + 4
  else if n < 1056 then
    let q := s.nodeAt (n - 1024) 0
    if q < 1024 then 8 * q + 6 else 8 * q + 3
  else if n ≤ 1060 then 8 * portLcn n + 6 else 8 * portLcn n + 5

/-- The generation an injector stamps on a packet of step `t` (R307). -/
def State.genFor (s : State) (lcn t : Nat) : Nat :=
  let act := s.rf (Reg.RTR_BANK lcn) 0 0
  if s.bit (Reg.RTR_BANK lcn) 1 && !stepGe t s.runc.swapC then 1 - act else act

/-- The state with a packet waiting to enter the router that serves port `n`. The injector sets HOPS, ESC, SRCDEV, GEN, the
source fields and the return point (R254, R264) and computes the CRC (R255). A message has none; the model keeps there the step
in which a core issued it (R339). -/
def State.inject (s : State) (n cls key payload step16 t : Nat) (data : List Byte) : State :=
  let l := portLcn n
  let g := s.genFor l t
  let p : Packet :=
    { cls := cls, gen := g, esc := false, hops := 0, srcDev := s.dev,
      srcLcn := if n < 1024 then n else if n < 1056 then 0 else if n < 1060 then 2 else 1,
      sysSrc := !(n < 1024 : Bool), crc := 0, step := step16 % 2 ^ 16, payload := payload, key := key, data := data,
      ret := if cls = 4 then ⟨3, 0, t⟩ else if 4 ≤ cls && cls ≤ 6 then .init else if 1064 ≤ n then ⟨4, n - 1064, retIdx cls key t g⟩ else ⟨if n < 1024 then 1 else 2, l, retIdx cls key t g⟩, escTo := none }
  let k := s.injWire n
  { s with wires := mapSet [] s.wires k (mapGet [] s.wires k ++ [p.sign]) }

/-- Flits that wait in a wire. -/
def State.wireFlits (s : State) (k : Nat) : Nat := ((mapGet [] s.wires k).map Packet.flits).sum

/-- The current step of a core. -/
def State.stepOf (s : State) (c : Nat) : Nat := (s.rd (Reg.NCR_STEP c)).toNat

/-- A FAULT report from the network interface of core `w` (R302, R304): kind, suspect class and suspect unit. -/
def State.faultReport (s : State) (w fkind sclass sunit : Nat) : State :=
  s.inject w 3 (4 * 2 ^ 28 + fkind * 2 ^ 24 + s.dev * 2 ^ 20 + sclass * 2 ^ 17 + sunit * 2 ^ 7) 1 (s.stepOf w) (s.stepOf w) []

/-- A FAULT report from a system block at port `n` (R254, R302). -/
def State.sysFault (s : State) (n t fkind sclass sunit : Nat) : State :=
  s.inject n 7 (4 * 2 ^ 28 + fkind * 2 ^ 24 + s.dev * 2 ^ 20 + sclass * 2 ^ 17 + sunit * 2 ^ 7) 1 t t []

/-- A retirement token sent to a return point (R266). Kind 3 names nothing. -/
def State.retire (s : State) (r : RetPt) : State := if r.kind = 3 then s else { s with tokens := s.tokens ++ [r] }

/-- Phase of a core (NCR_STAT.PHASE): 0 ACCUMULATE, 1 UPDATE, 2 DONE, 4 HALT, 5 STOPPED. -/
def State.phase (s : State) (c : Nat) : Nat := s.rf (Reg.NCR_STAT c) 31 29
/-- The state with a core's phase set. -/
def State.setPhase (s : State) (c ph : Nat) : State := s.wf (Reg.NCR_STAT c) 31 29 ph

/-- Credits owed upstream of input `p` of node `n` on channel `v` (R257). -/
def State.owe (s : State) (n p v flits : Nat) : State :=
  let k := (8 * n + p) * 8 + v
  { s with owed := mapSet 0 s.owed k (mapGet 0 s.owed k + flits) }

/-- The first packet that the router has delivered to port `n` on channel `v`. -/
def State.inboxHead (s : State) (n v : Nat) : Option Packet := (mapGet [] (s.port n).inbox v).head?

/-- Node number under which credits of port `n` are owed. -/
def portNode (n : Nat) : Nat := 4096 + n

/-- The state with the first packet of channel `v` of port `n` taken, its flits freed. -/
def State.takeInbox (s : State) (n v : Nat) : State :=
  match mapGet [] (s.port n).inbox v with
  | [] => s
  | p :: t => (s.setPort n { s.port n with inbox := mapSet [] (s.port n).inbox v t }).owe (portNode n) 0 v p.flits

/-- A copy is discarded because its CRC fails at the router of core `l` (R256): counted, reported, retired. -/
def State.crcFail (s : State) (l : Nat) (p : Packet) : State :=
  ((((s.bump (Reg.RTR_CRCCNT l) 1).setBit (Reg.RTR_ERRSTAT l) 1).retire p.ret).faultReport l 7 1 l)

/-- Bank-port accesses granted to a requester of a vault (R638, R639): fetch ports 0 to 15, checkpoint 16, Temper unit 17,
window 18, scrubber 19. -/
def State.bankGrant (s : State) (p req n : Nat) : State := s.wr (Reg.ARB_VLT_GRANT p req) (s.rd (Reg.ARB_VLT_GRANT p req) + BitVec.ofNat 32 n)

/-- Words that a fetch port reads for a core (R164). -/
def State.fetched (s : State) (c words : Nat) : State :=
  (s.bump48 (Reg.VLT_FETCHWD (partOf c)) words).bankGrant (partOf c) (cipOf c / 4) words

/-- Words that a Temper unit reads or writes. -/
def State.learnWords (s : State) (p words : Nat) : State := (s.bump48 (Reg.VLT_TMPWD p) words).bankGrant p 17 words

/-- A core stops with a fault: bit `b` of NCR_ERRSTAT is set and a report of the kind is sent (R82, R103, R147). -/
def State.coreStop (s : State) (c b fkind : Nat) : State :=
  let s := (s.setBit (Reg.NCR_ERRSTAT c) b).faultReport c fkind 0 c
  s.setCore c { s.core c with stopped := true }

/-- The words among `n` bytes of a core's memory from `a` up that carry wrong bits. -/
def State.wrongWords (s : State) (a n : Nat) : List (Nat × Nat) :=
  s.upsets.filter (fun e => a / 4 * 4 ≤ e.1 && e.1 < a + n)

/-- The single-bit errors among `n` bytes of a core's memory from `a` up are corrected, written back and counted (R82). -/
def State.eccCorrect (s : State) (c a n : Nat) : State :=
  let single := (s.wrongWords a n).filter (fun e => e.2 = 1)
  { s with upsets := s.upsets.filter (fun e => !(a / 4 * 4 ≤ e.1 && e.1 < a + n && e.2 = 1)) }.bump (Reg.NCR_ECCCNT c) single.length

/-- A double-bit error lies among `n` bytes of a core's memory from `a` up (R82). -/
def State.eccBad (s : State) (a n : Nat) : Bool := (s.wrongWords a n).any (fun e => 2 ≤ e.2)

/-- A core reads `n` bytes of its memory (R82): single-bit errors are corrected; the answer says whether a double-bit error was
met, which stops the core. -/
def State.eccRead (s : State) (c a n : Nat) : State × Bool :=
  if s.eccBad a n then ((s.eccCorrect c a n).coreStop c 6 3, true) else (s.eccCorrect c a n, false)

/-- A unit reads ranges of a core's memories (R82, R362): the answer says whether it could; a double-bit error stops the core. -/
def State.eccReads (s : State) (c : Nat) (rs : List (Nat × Nat)) : State × Bool :=
  if rs.all (fun r => (s.wrongWords r.1 r.2).isEmpty) then (s, true)
  else
    let s' := rs.foldl (fun s r => s.eccCorrect c r.1 r.2) s
    if rs.any (fun r => s.eccBad r.1 r.2) then (s'.coreStop c 6 3, false) else (s', true)

/-- An instruction or accumulation beat of core `c` with effect `f` that reads the ranges `rs` (address, bytes) of the core's
memories (R82): single-bit errors are corrected before it, and a double-bit error stops the core at its end. What a word with a
double-bit error reads as is what storage holds (assumption log 45). -/
def State.reading (s : State) (c : Nat) (rs : List (Nat × Nat)) (f : State → State) : State :=
  if rs.all (fun r => (s.wrongWords r.1 r.2).isEmpty) then f s
  else
    let s' := f (rs.foldl (fun s r => s.eccCorrect c r.1 r.2) s)
    if rs.any (fun r => s.eccBad r.1 r.2) then s'.coreStop c 6 3 else s'

/-- A fault report of a vault is injected at the network interface of its partition's core 0 (assumption log 12). -/
def State.vaultFault (s : State) (p fkind : Nat) : State := s.faultReport (lcnOf p 0) fkind 2 p

/-- An uncorrectable vault word at window offset `off` is read (R176): the first is captured, all are counted and reported. -/
def State.vaultUE (s : State) (p off : Nat) : State :=
  let s := if s.bit (Reg.VLT_ERRSTAT p) 1 then s else s.wf (Reg.VLT_UEADDR p) 24 4 (off / 16)
  ((s.setBit (Reg.VLT_ERRSTAT p) 1).bump (Reg.VLT_UECNT p) 1).vaultFault p 4

/-- Where window offset `off` of vault `p` is stored: the reserve's top 64 KiB lies under the register block (R151). -/
def vaultAt (p off : Nat) : Nat := if 0x1FF0000 ≤ off then hiddenReserve p + (off - 0x1FF0000) else vltWin p + off

/-- Window offset, in the vault's own numbering, of a stored word. -/
def vaultOff (p a : Nat) : Nat := if hiddenReserve p ≤ a then 0x1FF0000 + (a - hiddenReserve p) else a - vltWin p

/-- Vault words from address `lo` up to `hi` that cannot be corrected, or are marked poisoned (R176), addresses rising. -/
def State.badWords (s : State) (lo hi : Nat) : List Nat :=
  ((s.upsets.filter (fun e => 2 ≤ e.2 && lo ≤ e.1 && e.1 < hi)).foldl (fun m e => mapSet false m e.1 true)
    (s.poison.filter (fun e => e.2 && lo ≤ e.1 && e.1 < hi))).map (·.1)

/-- Words of 16 bytes that `n` bytes from `off` up touch. -/
def vaultSpan (off n : Nat) : Nat := if n = 0 then 0 else (off + n + 15) / 16 - off / 16

/-- Words that the checkpoint hardware of a vault reads or writes (R182). -/
def State.ckWords (s : State) (p words : Nat) : State := (s.bump48 (Reg.VLT_CKWD p) words).bankGrant p 16 words

/-- A journal record of the partition (R595, R596, R597): the 128-bit word is written at the next place; the record that
fills the journal sets JFULL and sends one report; a full journal takes nothing. -/
def State.journal (s : State) (p word : Nat) : State :=
  let len := s.rf (Reg.VLT_JLEN p) 20 0
  let used := s.rf (Reg.VLT_JUSED p) 20 0
  if len = 0 || s.bit (Reg.VLT_CKSTAT p) 29 then s
  else
    let s := (s.ckWords p 1).putNum (vltWin p + 16 * (s.rf (Reg.VLT_JRNL p) 20 0 + used)) 16 word
    let s := s.wf (Reg.VLT_JUSED p) 20 0 (used + 1)
    if used + 1 = len then (s.setBit (Reg.VLT_CKSTAT p) 29).vaultFault p 0xD else s

/-- The run's learning switch and the partition's own conditions hold for the open epoch (R357, TMP_STAT.LEARN). -/
def State.learning (s : State) (p : Nat) : Bool := s.bit (Reg.TMP_STAT p) 28

end Sys2Proof.Machine
end

