-- ==== Sys2Proof/Machine/Access.lean ====
section
/-! DEFINITION. Who may reach what: address map, units that cannot answer, access errors, sessions, the security log, and
register reads and writes by access code (R9 to R14, R29 to R36, R508 to R520). Also MSI-X messages (R421, R423). -/

namespace Sys2Proof.Machine

/-- A power domain's internal state. -/
def State.dom (s : State) (d : Nat) : DomInt := mapGet .init s.doms d
/-- The state with a power domain's internal state replaced. -/
def State.setDom (s : State) (d : Nat) (x : DomInt) : State := { s with doms := mapSet .init s.doms d x }

/-- Code of a source (SYS_ACCERR_STAT.SOURCE). -/
def srcCode : Src → Nat
  | .pcie => 0 | .smbus => 1 | .smc => 2 | .jtag => 3

/-- Address ranges that hold something (R29). -/
def mapped (a : Nat) : Bool :=
  a < 0x5000000 || (0x10000000 ≤ a && a < 0x14000000) || (0x100000000 ≤ a && a < 0x220000000) ||
    (0x300000000 ≤ a && a < 0x304000000)

/-- LCN of an address in a core window. -/
def winLcn (a : Nat) : Nat := (a - 0x100000000) / 0x400000
/-- Partition of an address in a vault window. -/
def winPart (a : Nat) : Nat := (a - 0x200000000) / 0x2000000

/-- Storage that takes accesses of any length and alignment (R32): contexts, stores, queue and scratchpad of a core; synaptic
storage and checkpoint reserve of a vault; the Tundish SRAM; the MRAM. -/
def storageAt (a : Nat) : Bool :=
  (0x100000000 ≤ a && a < 0x200000000 && a % 0x400000 < 0x30000) || (0x200000000 ≤ a && a < 0x220000000 && a % 0x2000000 < 0x1FF0000) ||
    (0x2800000 ≤ a && a < 0x3000000) || (0x300000000 ≤ a && a < 0x304000000)

/-- A part of the range from `a` up of `n` bytes lies in windows of `size` bytes between `lo` and `hi`, from `off` of each up. -/
def touches (a n lo hi size off : Nat) : Bool :=
  let b := max a lo
  let e := min (a + n) hi
  b < e && (off ≤ b % size || b / size * size + off < e)

/-- A part of a range holds registers. -/
def touchesReg (a n : Nat) : Bool :=
  touches a n 0 0x2800000 0x2800000 0 || touches a n 0x3000000 0x5000000 0x1000000 0 || touches a n 0x10000000 0x14000000 0x4000000 0 ||
    touches a n 0x100000000 0x200000000 0x400000 0x30000 || touches a n 0x200000000 0x220000000 0x2000000 0x1FF0000

/-- Power domain of the unit at an address (R522). -/
def domainOf (a : Nat) : Nat :=
  if a < 0x2000 then 160 else if a < 0x6000 then 161 else if a < 0x1000000 then 160
  else if a < 0x2000000 then 162 else if a < 0x3000000 then 163
  else if a < 0x3000100 then 160 else if a < 0x3000300 then 167 + (a - 0x3000100) / 0x40
  else if a < 0x5000000 then 160
  else if a < 0x14000000 then 128 + partOf ((a - 0x10000000) / 0x10000)
  else if a < 0x200000000 then rowDom (winLcn a)
  else if a < 0x220000000 then 144 + winPart a else 175

/-- State code of a domain (PWR_DnSTAT.STATE); the always-on block reports ON, the Vernier block by VRN_STAT (R555). -/
def State.domState (s : State) (d : Nat) : Nat :=
  if d = 160 then 0 else if d = 176 then (if s.rf Reg.VRN_STAT 31 29 = 0 then 3 else 0) else s.rf (Reg.PWR_DSTAT d) 31 29

/-- A domain is ON or IDLE. -/
def State.domOn (s : State) (d : Nat) : Bool := s.domState d ≤ 1

/-- The core is LOST (R571). -/
def State.lost (s : State) (c : Nat) : Bool := s.bit (Reg.RST_MAP (rowDom c)) 31 && s.bit (Reg.RST_MAP (rowDom c)) (17 + s.corePos c)

/-- The partition is under recovery (R603). -/
def State.recovering (s : State) (p : Nat) : Bool := s.bit Reg.SMC_RECSTAT (16 + p)
/-- The partition is held isolated (R612). -/
def State.heldPart (s : State) (p : Nat) : Bool := s.bit Reg.SMC_RECSTAT p

/-- The unit at an address is able to answer (R34, R574). -/
def State.answers (s : State) (a : Nat) : Bool :=
  s.domOn (domainOf a) &&
    !(0x100000000 ≤ a && a < 0x200000000 && (s.recovering (partOf (winLcn a)) || s.lost (winLcn a))) &&
    !(0x200000000 ≤ a && a < 0x220000000 && s.recovering (winPart a))

/-- A recorded access (R35, R36): the first is captured, all are counted. -/
def State.accErr (s : State) (src : Src) (write : Bool) (kind a : Nat) : State :=
  let s := s.bump Reg.SYS_ACCERR_CNT 1
  if s.bit Reg.SYS_ACCERR_STAT 31 then s
  else ((s.wr Reg.SYS_ACCERR_STAT (BitVec.ofNat 32 (2 ^ 31 + srcCode src * 2 ^ 29 + (if write then 2 ^ 28 else 0) + kind * 2 ^ 26))).wr
    Reg.SYS_ACCERR_ADDR_LO (BitVec.ofNat 32 a)).wr Reg.SYS_ACCERR_ADDR_HI (BitVec.ofNat 32 (a / 2 ^ 32 % 256))

/-- The session that a source carries (R509): 0 none, 1 installer, 2 maker. -/
def State.session (s : State) (src : Src) : Nat := if src = .pcie then s.rf Reg.SEC_STAT 31 30 else 0

/-- The write is in an installer session. -/
def State.installer (s : State) (src : Src) : Bool := s.session src == 1

/-- A maker session, with SEAL_N low (R11). -/
def State.makerOk (s : State) (src : Src) : Bool := s.session src == 2 && s.bit Reg.SEC_STAT 26

/-- Device address of a security-log entry (R517). -/
def secAddr (seq : Nat) : Nat := 0x300C00000 + 64 * (seq % 4096)

/-- The 64 bytes of an entry, its CRC last (R518). -/
def SecEntry.bytes (e : SecEntry) (seq time count : Nat) : List Byte :=
  let b := leBytes 4 seq ++ leBytes 8 time ++ leBytes 2 e.kind ++ leBytes 1 e.role ++ leBytes 1 e.src ++ leBytes 1 e.slot ++
    leBytes 1 e.result ++ leBytes 2 count ++ leBytes 8 e.subject ++ fitBytes 32 e.data
  b ++ leBytes 4 (crc32 b)

/-- The SMC core is halted (R655). -/
def State.smcHalted (s : State) : Bool := s.bit Reg.SMC_DBGSTAT 30

/-- An entry of time `time` coalesces with the newest one (R520). -/
def State.coalesces (s : State) (e : SecEntry) (time : Nat) : Bool :=
  let a := secAddr (s.rd Reg.SEC_LOGSEQ).toNat
  (e.kind == 5 || e.kind == 7) && (s.rd Reg.SEC_LOGSEQ).toNat != 0 && s.num (a + 12) 2 == e.kind &&
    s.num (a + 15) 1 == e.src && s.num (a + 20) 8 == e.subject && time - s.num (a + 4) 8 ≤ 1000000000

/-- The state with an entry of time `time` in the security log; without MRAM nothing is written (R545). -/
def State.secPut (s : State) (e : SecEntry) (time : Nat) : State :=
  let seq := (s.rd Reg.SEC_LOGSEQ).toNat
  if s.domState 175 = 4 then s
  else if s.coalesces e time then
    let a := secAddr seq
    let data := if e.kind = 7 then s.bytes (a + 28) 4 ++ e.data.drop 4 else e.data
    s.store a ({ e with data := data, role := s.num (a + 14) 1, slot := s.num (a + 16) 1, result := s.num (a + 17) 1 }.bytes seq
      (s.num (a + 4) 8) (satN 16 (s.num (a + 18) 2 + 1)))
  else
    let s := (s.store (secAddr (seq + 1)) (e.bytes (seq + 1) time 1)).wr Reg.SEC_LOGSEQ (BitVec.ofNat 32 (seq + 1))
    if 4096 ≤ seq then s.bump Reg.SEC_LOGLOST 1 else s

/-- An event of the security log: while the SMC is halted its entry waits (R655). -/
def State.secLog (s : State) (e : SecEntry) : State :=
  if s.smcHalted then { s with sec := { s.sec with waits := s.sec.waits ++ [(s.time, e)] } } else s.secPut e s.time

/-- Entries that waited are written. -/
def State.secFlush (s : State) : State :=
  s.sec.waits.foldl (fun s (e : Nat × SecEntry) => s.secPut e.2 e.1) { s with sec := { s.sec with waits := [] } }

/-- Key slot of a source's session; 0xFF for none. -/
def State.sessSlot (s : State) (src : Src) : Nat := if s.session src = 0 then 0xFF else s.rf Reg.SEC_STAT 29 27

/-- An entry of a kind issued by a source. -/
def State.logAs (s : State) (src : Src) (kind result subject : Nat) (data : List Byte) : State :=
  s.secLog ⟨kind, s.session src, srcCode src, s.sessSlot src, result, subject, data⟩

/-- A command refused with DENIED, SOURCE or STATE (R519 kind 6). -/
def State.logRefusal (s : State) (src : Src) (result addr word : Nat) : State :=
  s.logAs src 6 result (addr + word * 2 ^ 32) []

/-- Device address of the settings block of the system (R580). -/
def sysSettings : Nat := 0x300210000

/-- Idle limit of a session (SEC_IDLE.SECONDS, 10 to 3,600). -/
def State.idleLimit (s : State) : Nat := max 10 (min 3600 (s.rf Reg.SEC_IDLE 15 0))

/-- The idle count of the session starts again (R515). -/
def State.touchSession (s : State) : State :=
  if s.rf Reg.SEC_STAT 31 30 = 0 then s else s.wf Reg.SEC_STAT 15 0 s.idleLimit

/-- Value of one field after a write (R10, R11): the field's bits in the word written are `v`. -/
def State.fieldAfter (s : State) (src : Src) (ac : Access) (old v : Nat) : Nat :=
  match ac with
  | .rw => v
  | .wo => v
  | .ro => old
  | .rc => old
  | .w1c => old - (old &&& v)
  | .w1s => old ||| v
  | .rwi => if s.installer src then v else old
  | .rwm => if s.makerOk src then v else old

/-- The word after a write, field by field. -/
def State.wordAfter (s : State) (src : Src) (old data : Nat) : List (Nat × Nat × Access) → Nat
  | [] => old
  | (hi, lo, ac) :: t =>
    wordAfter s src (putBits old hi lo (s.fieldAfter src ac (bits old hi lo) (bits data hi lo))) data t

/-- The register has a field that needs a session, of the given code. -/
def RegRow.needs (r : RegRow) (ac : Access) : Bool := r.fields.any (fun f => f.2.2 == ac)

/-- A register write by access codes (R10 to R12): refused and accepted writes to RWI and RWM fields are logged. -/
def State.regWrite (s : State) (src : Src) (a data : Nat) : State :=
  match regRow a with
  | none => s
  | some r =>
    let old := (s.rd a).toNat
    let s' := s.wr a (BitVec.ofNat 32 (s.wordAfter src old data r.fields))
    if r.needs .rwi || r.needs .rwm then
      if (r.needs .rwi && s.installer src) || (r.needs .rwm && s.makerOk src) then
        (s'.logAs src 7 0 a (leBytes 4 old ++ leBytes 4 (s'.rd a).toNat)).touchSession
      else s'.logAs src 5 0 a (leBytes 4 data)
    else s'

/-- Fields of a word that reads show: WO fields read 0. -/
def visible (w : Nat) : List (Nat × Nat × Access) → Nat
  | [] => w
  | (hi, lo, ac) :: t => visible (if ac = .wo then putBits w hi lo 0 else w) t

/-- RC fields cleared. -/
def rcCleared (w : Nat) : List (Nat × Nat × Access) → Nat
  | [] => w
  | (hi, lo, ac) :: t => rcCleared (if ac = .rc then putBits w hi lo 0 else w) t

/-- Who may write a write-protected region (R35, R277, R281, R343, R620, R657): none where the region is not protected. -/
def protectedFor (a : Nat) : Option (List Src) :=
  let r := a % 0x10000
  let v := a % 0x2000000
  if 0x10000000 ≤ a && a < 0x14000000 && 0x8000 ≤ r && r < 0x8800 then some [.smc]
  else if 0x10000000 ≤ a && a < 0x14000000 && r / 0x4000 % 2 = 1 then some [.smc]
  else if 0x200000000 ≤ a && a < 0x220000000 && (v = 0x1FF0108 || v = 0x1FF010C) then some [.smc]
  else if 0x200000000 ≤ a && a < 0x220000000 && 0x1FFC000 ≤ v && v < 0x1FFD000 then some []
  else if 0x6040 ≤ a && a < 0x60C0 then some [.jtag]
  else none

/-- Why an access completes without touching its unit: the kind recorded in SYS_ACCERR_STAT, or none. The spec does not say which
kind is recorded for an access of several; the model's choice (assumption log 41) is the order below, a write to MRAM or to a
protected region before a unit that cannot answer. -/
def State.accKind (s : State) (src : Src) (write : Bool) (a : Nat) : Option Nat :=
  if !mapped a then some 0
  else if write && 0x300000000 ≤ a && src != .smc then some 2
  else if write && !((protectedFor a).getD [src]).contains src then some 3
  else if !s.answers a then some 1
  else none

/-- A command written to the register at `a` runs where the write reaches its unit (R34, R35). -/
def State.cmdAt (s : State) (src : Src) (a : Nat) (go : State → State) : State :=
  match s.accKind src true a with
  | some k => s.accErr src true k a
  | none => go s

/-- An MSI-X message (R421, R423): sent while the host is there and MSI-X is enabled; a masked vector keeps its pending
bit. -/
def State.msix (s : State) (v : Nat) : State :=
  let ctl := mapGet 0 s.cfg 0xB0
  if !s.bit Reg.HIF_LINK 31 || s.bit Reg.HIF_STAT 0 || getF ctl 31 31 = 0 then s
  else if getF ctl 30 30 = 1 || s.bit (Reg.MSIX_CTRL v) 0 then s.setBit (Reg.MSIX_PBA (v / 32)) (v % 32)
  else { s with msgs := s.msgs ++ [v] }

/-- ERR_N is asserted: every assertion sends vector 0 (R421). -/
def State.assertErr (s : State) : State :=
  if s.rst.errN then s else { s with rst := { s.rst with errN := true } }.msix 0

end Sys2Proof.Machine
end

