-- ==== Sys2Proof/Machine/Network.lean ====
section
/-! DEFINITION. The event network (R240 to R318): links and buffers, routing, merging, the escape channel, retirement, and
the two trees. Outputs and inputs are 0 north, 1 east, 2 south, 3 west, 4 local, 5 Sprue link; input 6 is the outward
attachment and input 7 what the router's own combining entries send. -/

namespace Sys2Proof.Machine

/-- Where an output leads. -/
inductive Dest where
  | router (n p : Nat)
  | port (n : Nat)
  | nothing
  deriving DecidableEq, Repr

/-- The other end of output `o` of a router (R240 to R246, R445). -/
def State.linkTo (s : State) (n o : Nat) : Dest :=
  let side := fun row col => if o = 1 then (if col < 35 then .router (s.nodeAt row (col + 1)) 3 else .nothing)
    else if o = 3 then (if 0 < col then .router (s.nodeAt row (col - 1)) 1 else .port (1024 + row)) else Dest.nothing
  if 1024 ≤ n then side ((n - 1024) / 36) ((n - 1024) % 36)
  else match o with
    | 0 => if 32 ≤ n then .router (n - 32) 2 else if 14 ≤ n && n ≤ 17 then .port (1042 + n) else if n = 18 then .port 1060 else .nothing
    | 1 => if n % 32 = 31 then .nothing else side (n / 32) (s.coreCol n)
    | 2 => if n < 992 then .router (n + 32) 0 else .nothing
    | 4 => .port n
    | 5 => match lcnLink n with | some k => .port (1064 + k) | none => .nothing
    | _ => side (n / 32) (s.coreCol n)

/-- The router output that feeds input `p` of a node, or the inbox of a port; none for what a block injects. -/
def State.feeds (s : State) (n p : Nat) : Option (Nat × Nat) :=
  if 4096 ≤ n then
    let q := n - 4096
    if q < 1024 then some (q, 4) else if q < 1056 then some (s.nodeAt (q - 1024) 0, 3)
    else if q ≤ 1060 then some (portLcn q, 0) else some (portLcn q, 5)
  else
    let row := if n < 1024 then n / 32 else (n - 1024) / 36
    let col := if n < 1024 then s.coreCol n else (n - 1024) % 36
    match p with
    | 0 => if 32 ≤ n && n < 1024 then some (n - 32, 2) else none
    | 1 => if col < 35 then some (s.nodeAt row (col + 1), 3) else none
    | 2 => if n < 992 then some (n + 32, 0) else none
    | 3 => if 0 < col then some (s.nodeAt row (col - 1), 1) else none
    | _ => none

/-- Key of the credits of an output on a channel. -/
def credKey (n o v : Nat) : Nat := (8 * n + o) * 8 + v

/-- Free flits downstream (R257). -/
def State.credit (s : State) (n o v : Nat) : Nat := mapGet 17 s.credits (credKey n o v)

/-- Core-row domain of the band row of a router. -/
def nodeDom (n : Nat) : Nat :=
  if n < 1024 then rowDom n else 8 * ((n - 1024) / 36 / 8 * 4 + (n - 1024) % 36 / 9) + (n - 1024) / 36 % 8

/-- The router grants no credit on an input (R572): its band row is held, and the input is a mesh or attachment input. -/
def State.noCredit (s : State) (n p : Nat) : Bool := n < 2176 && (p < 4 || p = 6) && s.rst.hold.contains (nodeDom n)

/-- CREDIT_RETURN (R257, R572): credits owed for an input reach the output upstream, whose buffer holds 17 flits. -/
def execCreditReturn (n p v : Nat) (s : State) : Out :=
  .next <| if s.noCredit n p then s else
    let k := (8 * n + p) * 8 + v
    let d := mapGet 0 s.owed k
    let s' := { s with owed := mapSet 0 s.owed k 0 }
    match s.feeds n p with
    | none => s'
    | some (m, o) => { s' with credits := mapSet 17 s'.credits (credKey m o v) (min 17 (s'.credit m o v + d)) }

/-- Packets in a buffer. -/
def State.buf (s : State) (n p v : Nat) : List Held := mapGet [] (s.router n).bufs (8 * p + v)

/-- The state with a buffer replaced. -/
def State.setBuf (s : State) (n p v : Nat) (l : List Held) : State :=
  s.setRouter n { s.router n with bufs := mapSet [] (s.router n).bufs (8 * p + v) l }

/-- Flits in a buffer. -/
def State.bufFlits (s : State) (n p v : Nat) : Nat := ((s.buf n p v).map (fun h => h.pkt.flits)).sum

/-- The head packet of a buffer. -/
def State.bufHead (s : State) (n p v : Nat) : Option Held := (s.buf n p v).head?

/-- The state with the head packet of a buffer replaced. -/
def State.setHead (s : State) (n p v : Nat) (h : Held) : State := s.setBuf n p v (h :: (s.buf n p v).tail)

/-- The state with the head packet of a buffer gone, its flits freed. -/
def State.popHead (s : State) (n p v : Nat) : State :=
  match s.buf n p v with
  | [] => s
  | h :: t => (s.setBuf n p v t).owe n p v h.pkt.flits

/-- The attachment at a router (R245, R264). -/
def attPort (l : Nat) : Nat := if 14 ≤ l && l ≤ 17 then 1042 + l else if l = 18 then 1060 else 1024 + l / 32

/-- The counts that RTR_OUTST and RTR_DRAINOUT show of a network interface (R267, R310). -/
def State.showPort (s : State) (n : Nat) : State :=
  if 1024 ≤ n then s else
    let sl := (s.port n).slots
    let out := (sl.filter (fun e => e.1 % 16 = s.stepOf n % 4)).map (·.2)
    let old := (sl.filter (fun e => e.1 / 16 = 1 - s.rf (Reg.RTR_BANK n) 0 0 && e.1 % 16 < 8)).map (·.2)
    (s.wf (Reg.RTR_OUTST n) 19 0 out.sum).wf (Reg.RTR_DRAINOUT n) 19 0 old.sum

/-- A message that a core issued in the step of RTR_INJSTEP (R339, R340): a SEND or a COUNT record, not a forwarded copy or a
selector's signal. -/
def State.isIssued (s : State) (c : Nat) (p : Packet) : Bool :=
  p.cls == 4 && (bits p.key 4 2 == 0 || bits p.key 4 2 == 6) && p.ret.idx == (s.rd (Reg.RTR_INJSTEP c)).toNat

/-- A packet has left port `n` toward the router (R267, R575): it is counted by its return point. -/
def State.injected (s : State) (n : Nat) (p : Packet) : State :=
  let s := if n < 1024 && p.cls ≤ 2 then s.wr (Reg.RTR_INJCNT n) (s.rd (Reg.RTR_INJCNT n) + 1)
           else if n < 1024 && s.isIssued n p then
             (s.wr (Reg.MSG_INJCNT n) (s.rd (Reg.MSG_INJCNT n) + 1)).setCore n
               { s.core n with sends := (s.core n).sends + (if bits p.key 4 2 = 0 then 1 else 0) }
           else s
  if p.ret.kind = 3 || (1064 ≤ n && p.ret.kind ≠ 4) then s
  else (s.setPort n { s.port n with slots := mapSet 0 (s.port n).slots p.ret.idx (mapGet 0 (s.port n).slots p.ret.idx + 1) }).showPort n

/-- The port behind an input, where the input takes what a block injects. -/
def injector (n p : Nat) : Option Nat :=
  if n < 1024 then (if p = 4 then some n else if p = 6 then some (attPort n) else if p = 5 then (lcnLink n).map (1064 + ·) else none)
  else if p = 3 && (n - 1024) % 36 = 0 then some (1024 + (n - 1024) / 36) else none

/-- Flits of a packet that leaves the ingress of link `k` are freed (R448, R450): on channel 5 where it crossed the link there,
as its record says. -/
def State.linkFreed (s : State) (k : Nat) (pk : Packet) : State :=
  let r := (mapGet .init (s.router (linkLcn k)).recs pk.ret.idx).ret
  let v := if pk.ret.kind = 0 && r.kind = 5 && 8 ≤ r.lcn then 5 else vcOf pk.cls
  let x := s.link k
  if pk.ret.kind = 4 then s else s.setLink k { x with freed := mapSet 0 x.freed v (mapGet 0 x.freed v + pk.flits) }

/-- Virtual channel on which a packet arrives. -/
def Packet.channel (p : Packet) : Nat := if p.escTo.isSome then 5 else vcOf p.cls

/-- The first packet of a wire whose channel has room, with the rest (R257, R337): the packets of one channel keep their order,
and no channel waits behind another. `seen` are the channels that wait. -/
def State.nextArrival (s : State) (n p : Nat) (seen : List Nat) : List Packet → Option (Packet × List Packet)
  | [] => none
  | q :: t =>
    if !seen.contains q.channel && decide (s.bufFlits n p q.channel + q.flits ≤ 17) then some (q, t)
    else (nextArrival s n p (q.channel :: seen) t).map (fun r => (r.1, q :: r.2))

/-- ROUTER_PACKET_ARRIVE (R257): the next packet of a wire enters the input buffer of its channel. `err` says that a bit was
wrong on the way. -/
def execRouterPacketArrive (n p : Nat) (err : Bool) (s : State) : Out :=
  .next <|
    if s.fabricStops then s
    else match s.nextArrival n p [] (mapGet [] s.wires (8 * n + p)) with
    | none => s
    | some (q, t) =>
      let pk := if err then { q with crc := q.crc ^^^ 1 } else q
      let s' := { s with wires := mapSet [] s.wires (8 * n + p) t }
      let s' := s'.setBuf n p pk.channel (s'.buf n p pk.channel ++ [⟨pk, none, none, false⟩])
      match injector n p with
      | some q => if 1064 ≤ q then (s'.linkFreed (q - 1064) pk).injected q pk else s'.injected q pk
      | none => s'

/-- The record of a router. -/
def State.recd (s : State) (l i : Nat) : RetRec := mapGet .init (s.router l).recs i

/-- Records in use, as RTR_RETSTAT shows them. -/
def State.showRecs (s : State) (l : Nat) : State :=
  let n := (s.router l).recs.length
  let s := s.wf (Reg.RTR_RETSTAT l) 9 0 n
  if s.rf (Reg.RTR_RETSTAT l) 25 16 < n then s.wf (Reg.RTR_RETSTAT l) 25 16 n else s

/-- The state with a record replaced; `RetRec.init` frees it. -/
def State.setRecd (s : State) (l i : Nat) (r : RetRec) : State :=
  (s.setRouter l { s.router l with recs := mapSet .init (s.router l).recs i r }).showRecs l

/-- A free record from 0 to 447 (R294). -/
def State.freeRecd (s : State) (l : Nat) : Option Nat := (List.range 448).find? (fun i => !(s.recd l i).inUse)

/-- A combining entry. -/
def State.comb (s : State) (l e : Nat) : Comb := mapGet .init (s.router l).comb e

/-- Dynamic combining entries open, as RTR_CMBSTAT shows them (R306). -/
def State.showComb (s : State) (l : Nat) : State :=
  let n := ((s.router l).comb.filter (fun e => e.2.st != 0)).length
  let s := s.wf (Reg.RTR_CMBSTAT l) 22 16 n
  if s.rf (Reg.RTR_CMBSTAT l) 30 24 < n then s.wf (Reg.RTR_CMBSTAT l) 30 24 n else s

/-- The state with a combining entry replaced. -/
def State.setComb (s : State) (l e : Nat) (c : Comb) : State :=
  (s.setRouter l { s.router l with comb := mapSet .init (s.router l).comb e c }).showComb l

/-- Word `k` of entry `i` of a bank (R281). -/
def State.entWord (s : State) (l g i k : Nat) : Nat := s.num (rtrWin l + 0x4000 + 0x8000 * g + 16 * i + 4 * k) 4

/-- A VALID MIN entry of bank `g` (R282). -/
def State.minEntry (s : State) (l g i : Nat) : Bool :=
  let w := s.entWord l g i 2
  bitAt w 31 && !bitAt w 30 && bits w 29 28 == 2

/-- A combining entry is pinned (R306). -/
def State.pinned (s : State) (l e : Nat) : Bool :=
  (List.range 1024).any (fun i =>
    (s.minEntry l 0 i && bits (s.entWord l 0 i 3) 25 20 == e) || (s.minEntry l 1 i && bits (s.entWord l 1 i 3) 25 20 == e))

/-- A free dynamic combining entry (R292, R306). -/
def State.freeComb (s : State) (l : Nat) : Option Nat :=
  (List.range 64).find? (fun e => (s.comb l e).st == 0 && !(s.recd l (448 + e)).inUse && !s.pinned l e)

/-- A copy has retired at record `i` of router `l` (R265, R294): at the last, the record and those linked to it are released,
each sending its own token, and a combining entry's record frees its entry. -/
def State.release (s : State) (l i : Nat) : State :=
  let r := s.recd l i
  if 1 < r.count then s.setRecd l i { r with count := r.count - 1 }
  else
    let s := (s.setRecd l i .init).retire r.ret
    let s := r.linked.foldl (fun s j => (s.setRecd l j .init).retire (s.recd l j).ret) s
    if 448 ≤ i then s.setComb l (i - 448) .init else s

/-- A copy injected by port `n` has retired (R267). -/
def State.portRetire (s : State) (n i : Nat) : State :=
  (s.setPort n { s.port n with slots := mapSet 0 (s.port n).slots i (mapGet 0 (s.port n).slots i - 1) }).showPort n

/-- A return point as the 21 bits that travel in the sideband (R264). The index of a step slot carries in the model what the counts
of R310 tell apart (retIdx), and a Sprue link port is told from the attachment at its router (assumption log 48). -/
def RetPt.word (r : RetPt) : Nat :=
  match r.kind with
  | 0 => r.lcn * 2 ^ 9 + r.idx
  | 1 => 2 ^ 19 + r.lcn * 2 ^ 9 + r.idx % 4
  | 2 => 2 * 2 ^ 19 + r.lcn * 2 ^ 9 + r.idx % 4
  | 4 => 2 * 2 ^ 19 + linkLcn r.lcn * 2 ^ 9 + r.idx % 4
  | _ => 3 * 2 ^ 19

/-- RETIREMENT_TOKEN (R266): token `n` reaches its return point. -/
def execRetirementToken (n : Nat) (s : State) : Out :=
  .next <|
    match s.tokens[n]? with
    | none => s
    | some r =>
      let s := { s with tokens := dropIdx s.tokens n }
      match r.kind with
      | 0 => s.release r.lcn r.idx
      | 1 => s.portRetire r.lcn r.idx
      | 2 => s.portRetire (attPort r.lcn) r.idx
      | 4 => s.portRetire (1064 + r.lcn) r.idx
      | 5 => s.setLink (r.lcn % 8) { s.link (r.lcn % 8) with tags := (s.link (r.lcn % 8)).tags ++ [r.idx % 4096] }
      | _ => s

/-- The direction of dimension order from router `l` to router `t` (R261). -/
def dorOut (l t : Nat) : Nat :=
  if l % 32 < t % 32 then 1 else if t % 32 < l % 32 then 3 else if l / 32 < t / 32 then 2 else if t / 32 < l / 32 then 0 else 4

/-- The adjacent logical router in a direction; itself where there is none. -/
def stepTo (l o : Nat) : Nat :=
  match o with
  | 0 => if 32 ≤ l then l - 32 else l
  | 1 => if l % 32 < 31 then l + 1 else l
  | 2 => if l < 992 then l + 32 else l
  | 3 => if 0 < l % 32 then l - 1 else l
  | _ => l

/-- A branch toward the adjacent logical router. -/
def Branch.step (l o : Nat) : Branch := ⟨o, some (stepTo l o), false⟩
/-- A branch through this router's own local, link or attachment port. -/
def Branch.own (o : Nat) : Branch := ⟨o, none, false⟩

/-- The link that SPL_DEVRT names for a device (R286). -/
def State.devLink (s : State) (d : Nat) : Option Nat :=
  let b := 4 * (d % 8)
  if s.bit (Reg.SPL_DEVRT (d / 8)) (b + 3) then some (s.rf (Reg.SPL_DEVRT (d / 8)) (b + 2) b) else none

/-- Entry of the reply-port learning table for a key's device and partition (R462); a system block stands as partition 0. -/
def lrnIndex (key : Nat) : Nat := 16 * bits key 31 28 + (if bitAt key 17 then 0 else bits key 27 24)

/-- The link by which a packet leaves toward another device (R463): for a message the learned port while it is up. -/
def State.outLink (s : State) (p : Packet) : Option Nat :=
  let e := Reg.SPL_LRN (lrnIndex p.key)
  let x := s.rf e 29 27
  let st := s.rf (Reg.SPL_LSTAT x) 31 29
  if (p.cls = 4 || p.cls = 5) && s.rf e 31 30 != 0 && (st = 2 || st = 3) then some x else s.devLink (bits p.key 31 28)

/-- The default route of a packet at router `l` (R286, R324): none discards it under R246. -/
def State.defaultRoute (s : State) (l : Nat) (p : Packet) : Option (List Branch) :=
  if p.cls = 3 || p.cls = 7 then some [.own 4]
  else if bits p.key 31 28 ≠ s.dev then
    match s.outLink p with
    | none => none
    | some k => if linkLcn k = l then some [.own 5] else some [⟨dorOut l (linkLcn k), some (linkLcn k), false⟩]
  else
    let h := homeLcn p.key
    if h ≠ l then some [⟨dorOut l h, some h, false⟩]
    else if (p.cls = 4 || p.cls = 5) && bitAt p.key 17 then (if 14 ≤ l && l ≤ 18 then some [.own 0] else none)
    else some [.own 4]

/-- Position of a router on the line of a line-cast entry (R290): `d`, where it lies on the line. -/
def lineAt (l key w3 : Nat) : Option Int :=
  let h := homeLcn key
  let d : Int := if bitAt w3 31 then (l / 32 : Int) - (h / 32 : Int) else (l % 32 : Int) - (h % 32 : Int)
  let on := if bitAt w3 31 then l % 32 == h % 32 else l / 32 == h / 32
  if on && decide (-(bits w3 29 25 : Int) ≤ d) && decide (d ≤ (bits w3 24 20 : Int)) then some d else none

/-- The entry is skipped in lookup though VALID (R284). -/
def entBad (w2 w3 : Nat) : Bool :=
  if bitAt w2 30 then bits w2 29 0 != 0 || bits w3 19 0 != 0
  else bits w2 27 22 == 0 || bits w2 29 28 == 3 || bits w2 21 20 != 0

/-- KEY and MASK of a VALID entry match a key (R285). -/
def State.entHits (s : State) (l g key i : Nat) : Bool :=
  let w := s.entWord l g i
  bitAt (w 2) 31 && key &&& w 1 == w 0 &&& w 1

/-- The lookup of R285: the entry selected is the lowest that matches and is not skipped; a line-cast entry matches only a key
with home fields of this device, at a router on its line. -/
def State.tableFind (s : State) (l g cls key : Nat) : Option Nat :=
  (List.range 1024).find? (fun i =>
    let w := s.entWord l g i
    s.entHits l g key i && !entBad (w 2) (w 3) &&
      !(bitAt (w 2) 30 && (cls == 3 || cls == 7 || bits key 31 28 != s.dev || (lineAt l key (w 3)).isNone)))

/-- A lookup skips a matching entry (R284); all 1,024 are compared at once. -/
def State.tableSkips (s : State) (l g key : Nat) : Bool :=
  (List.range 1024).any (fun i => s.entHits l g key i && entBad (s.entWord l g i 2) (s.entWord l g i 3))

/-- Branches of a tree-cast entry (R287, R288). -/
def treeBranches (l w2 w3 : Nat) : List Branch :=
  let anch := fun o a => if a = l then Branch.step l o else ⟨o, some a, false⟩
  (if bitAt w2 27 then [anch 0 (bits w2 19 10)] else []) ++ (if bitAt w2 26 then [anch 1 (bits w2 9 0)] else []) ++
  (if bitAt w2 25 then [anch 2 (bits w3 19 10)] else []) ++ (if bitAt w2 24 then [anch 3 (bits w3 9 0)] else []) ++
  (if bitAt w2 23 then [.own 4] else []) ++ (if bitAt w2 22 then [.own 5] else [])

/-- Branches of a line-cast entry at distance `d` (R290). -/
def lineBranches (l w3 : Nat) (d : Int) : List Branch :=
  let col := bitAt w3 31
  (if 0 ≤ d && decide (d < (bits w3 24 20 : Int)) then [Branch.step l (if col then 2 else 1)] else []) ++
  (if decide (-(bits w3 29 25 : Int) < d) && d ≤ 0 then [Branch.step l (if col then 0 else 3)] else []) ++
  (if d ≠ 0 || bitAt w3 30 then [.own 4] else [])

/-- The broadcast tree (R253) from an input: only toward neighbours that exist. -/
def castBranches (l p : Nat) : List Branch :=
  let east := if p ≠ 1 && l % 32 < 31 then [Branch.step l 1] else []
  let west := if p ≠ 3 && 0 < l % 32 then [Branch.step l 3] else []
  let south := if l < 992 then [Branch.step l 2] else []
  if l < 32 then east ++ west ++ south else south

/-- The gather tree (R253). -/
def gatherBranch (l : Nat) : Branch :=
  if 32 ≤ l then .step l 0 else if l < 18 then .step l 1 else if 18 < l then .step l 3 else .own 0

/-- A CONFIG packet's targets hold an LCN (R252). -/
def configTarget (key l : Nat) : Bool :=
  (List.range (bits key 21 12 + 1)).any (fun i => bits key 31 22 + i * bits key 11 2 == l)

/-- The source of a packet as a witness halfword (R304). -/
def Packet.witness (p : Packet) : Nat :=
  2 ^ 15 + (if p.cls = 7 then 2 ^ 14 else 0) + p.srcDev * 2 ^ 10 + p.srcLcn

/-- Rank of a report's source in a tie (R213): device, then LCN, the Tundish above every core. -/
def Packet.rank (p : Packet) : Nat := p.srcDev * 2048 + (if p.cls = 7 then 1024 else p.srcLcn)

/-- Report `a` is kept before report `b` (R213, R300): an absent report stands at step -1 and loses every tie. -/
def reportFirst (a b : Option Packet) : Option Packet :=
  let st := fun (x : Option Packet) => match x with | some p => p.payload | none => 0xFFFFFFFF
  if st a = st b then
    match a, b with
    | none, y => y
    | x, none => x
    | some p, some q => if p.rank ≤ q.rank then some p else some q
  else if stepGt (st b) (st a) then a else b

/-- Input number of IN for an arriving packet: an outward attachment is the west or north port it stands for (R245). -/
def inBit (l p : Nat) : Nat := if p = 6 then (if l % 32 = 0 then 3 else 0) else p

/-- Inputs that a MIN entry of bank `g` with combining entry `e` names (R297, R300). -/
def State.minInputs (s : State) (l g e : Nat) : List Nat :=
  (List.range 6).filter (fun j => (List.range 1024).any (fun i =>
    s.minEntry l g i && bits (s.entWord l g i 3) 25 20 == e && bitAt (s.entWord l g i 3) (31 - j)))

/-- MIN merge (R297, R298): the report is absorbed; when the minimum changes, the arriving packet is replaced by the selected
report, which leaves once it has a record for the arriving one's return point (R265), and otherwise it retires. -/
def State.minMerge (s : State) (l p v : Nat) (h : Held) (w2 w3 : Nat) : State :=
  let e := bits w3 25 20
  let c := s.comb l e
  let held := if c.held.isEmpty then List.replicate 6 none else c.held
  let i := inBit l p
  let old := held.getD i none
  let oldStep := match old with | some q => q.payload | none => 0xFFFFFFFF
  if !h.pkt.good then (s.popHead l p v).crcFail l h.pkt
  else if !stepGe h.pkt.payload oldStep then ((s.setComb l e { c with held := held, lastKey := h.pkt.key }).popHead l p v).retire h.pkt.ret
  else
    let held := setIdx held i (some h.pkt)
    let best : Option Packet := match s.minInputs l h.pkt.gen e with
      | [] => none
      | j :: t => t.foldl (fun b k => reportFirst b (held.getD k none)) (held.getD j none)
    let tag : Option (Nat × Nat) := best.map (fun q => (q.payload, q.witness))
    let c' := { c with held := held, lastKey := h.pkt.key, kind := 1, sent := tag }
    if tag = c.sent then ((s.setComb l e c').popHead l p v).retire h.pkt.ret
    else match best with
      | none => ((s.setComb l e c').popHead l p v).retire h.pkt.ret
      | some q =>
        let m : Packet := { q with gen := h.pkt.gen, hops := h.pkt.hops, esc := false, ret := h.pkt.ret, escTo := none }
        ((s.setComb l e c').bump (Reg.RTR_MINFWD l) 1).setHead l p v ⟨m.sign, some (treeBranches l w2 w3), none, true⟩

/-- An open combining entry of a kind that a packet joins (R291, R301, R305). -/
def State.openComb (s : State) (l kind : Nat) (p : Packet) : Option Nat :=
  ((s.router l).comb.find? (fun e => e.2.st == 1 && e.2.kind == kind &&
    match e.2.pkt with
    | none => false
    | some q => q.key == p.key && (kind == 3 || q.step == p.step) && (kind != 0 || q.gen == p.gen))).map (·.1)

/-- Up to 8 distinct witnesses in order of arrival (R305). -/
def addWits (ws : List Nat) (new : List Nat) : List Nat :=
  new.foldl (fun ws w => if bitAt w 15 && !ws.contains w && ws.length < 8 then ws ++ [w] else ws) ws

/-- Witnesses of a FAULT report (R304). -/
def faultWits (p : Packet) : List Nat := [p.witness, bits p.payload 31 16]

/-- A SUM merge under R292 to R294 (kind 0), R301 (kind 2) or R305 (kind 3): the packet joins an open entry, or opens one;
without a free entry it is routed unmerged. -/
def State.sumMerge (s : State) (l p v kind : Nat) (h : Held) (bs : List Branch) : State :=
  let pk := h.pkt
  let add := if kind = 3 then bits pk.payload 15 0 else pk.payload
  if !pk.good then (s.popHead l p v).crcFail l pk
  else match s.openComb l kind pk with
    | some e =>
      let c := s.comb l e
      match c.pkt, s.freeRecd l, kind with
      | some q, fr, _ =>
        if kind = 0 && fr.isNone then s.setHead l p v { h with branches := some bs }
        else
          let sum := if kind = 3 then satN 16 (c.sum + add) else (c.sum + add) % 2 ^ 32
          let q := { q with hops := max q.hops pk.hops, esc := q.esc || pk.esc,
                            step := if kind = 3 && decide (tagDiff pk.step q.step < 0) then pk.step else q.step }
          let s := s.setComb l e { c with sum := sum, pkt := some q, wits := if kind = 3 then addWits c.wits (faultWits pk) else [] }
          let s := s.bump (if kind = 3 then Reg.RTR_FLTMRG l else Reg.RTR_SUMMRG l) 1
          if kind = 0 then
            let r := fr.getD 0
            let k := s.recd l (448 + e)
            ((s.setRecd l r ⟨true, 1, pk.ret, []⟩).setRecd l (448 + e) { k with linked := k.linked ++ [r] }).popHead l p v
          else (s.popHead l p v).retire pk.ret
      | none, _, _ => s
    | none =>
      match s.freeComb l with
      | none => (s.bump (Reg.RTR_CMBMISS l) 1).setHead l p v { h with branches := some bs }
      | some e =>
        let c : Comb := { Comb.init with st := 1, kind := kind, pkt := some pk, sum := add, branches := bs, lastKey := pk.key,
                                         wits := if kind = 3 then addWits [] (faultWits pk) else [] }
        let ret := if kind = 0 then pk.ret else RetPt.init
        let s := ((s.setComb l e c).setRecd l (448 + e) ⟨true, 0, ret, []⟩).popHead l p v
        if kind = 0 then s else s.retire pk.ret

/-- A packet is discarded for want of a port (R246). -/
def State.noPort (s : State) (l : Nat) (r : RetPt) : State :=
  ((s.bump (Reg.RTR_NOPORTCNT l) 1).setBit (Reg.RTR_ERRSTAT l) 4).retire r

/-- A packet follows its default route; a table-routed one is counted (R286). -/
def State.byDefault (s : State) (l p v : Nat) (h : Held) : State :=
  match s.defaultRoute l h.pkt with
  | some bs =>
    (if h.pkt.cls ≤ 3 || h.pkt.cls = 7 then s.bump (Reg.RTR_DEFCNT l) 1 else s).setHead l p v { h with branches := some bs }
  | none => (s.popHead l p v).noPort l h.pkt.ret

/-- A table-routed packet (R285 to R299). -/
def State.byTable (s : State) (l p v : Nat) (h : Held) : State :=
  let pk := h.pkt
  let sel := s.tableFind l pk.gen pk.cls pk.key
  let skips := s.tableSkips l pk.gen pk.key
  let s := s.bump48 (Reg.RTR_LOOKUP l) 1
  let s := if skips then s.setBit (Reg.RTR_RTERR l) 0 else s
  match sel with
  | none => s.byDefault l p v h
  | some i =>
    let w2 := s.entWord l pk.gen i 2
    let w3 := s.entWord l pk.gen i 3
    if bitAt w2 30 then
      let bs := lineBranches l w3 ((lineAt l pk.key w3).getD 0)
      if bs.isEmpty then (s.popHead l p v).retire pk.ret else s.setHead l p v { h with branches := some bs }
    else
      let bs := treeBranches l w2 w3
      if bits w2 29 28 = 1 && pk.cls = 2 then s.sumMerge l p v 0 h bs
      else if bits w2 29 28 = 2 && (pk.cls = 3 || pk.cls = 7) then
        if inBit l p < 6 && bitAt w3 (31 - inBit l p) then s.minMerge l p v h w2 w3
        else ((s.bump (Reg.RTR_INPORTCNT l) 1).setBit (Reg.RTR_RTERR l) 1).setHead l p v { h with branches := some bs }
      else s.setHead l p v { h with branches := some bs }

/-- A packet at the head of a normal channel is routed by its class and kind (R280). -/
def State.routeHead (s : State) (l p v : Nat) (h : Held) : State :=
  let pk := h.pkt
  let cast := fun own => s.setHead l p v { h with branches := some (castBranches l p ++ own) }
  match pk.cls with
  | 4 => s.byDefault l p v h
  | 5 => s.byDefault l p v h
  | 6 =>
    let bs := castBranches l p ++ (if configTarget pk.key l then [Branch.own 4] else [])
    if bs.isEmpty then s.popHead l p v else s.setHead l p v { h with branches := some bs }
  | 0 => s.byTable l p v h
  | 1 => s.byTable l p v h
  | 2 => s.byTable l p v h
  | _ =>
    match bits pk.key 31 28 with
    | 1 => s.byTable l p v h
    | 2 => cast [Branch.own 4]
    | 3 => s.sumMerge l p v 2 h [gatherBranch l]
    | 4 => s.sumMerge l p v 3 h [gatherBranch l]
    | 5 => s.sumMerge l p v 2 h [gatherBranch l]
    | _ => (((s.popHead l p v).bump (Reg.RTR_KINDCNT l) 1).setBit (Reg.RTR_ERRSTAT l) 3).retire pk.ret

/-- An escaped packet at its target returns to its normal channel (R261) once that buffer has room, and the credit upstream for
it: what the sender may still put into the buffer is as much less (R257). -/
def State.unescape (s : State) (l p : Nat) (h : Held) : State :=
  let w := vcOf h.pkt.cls
  let go := fun (s : State) => (s.popHead l p 5).setBuf l p w (s.buf l p w ++ [⟨{ h.pkt with escTo := none }, none, none, false⟩])
  if 17 < s.bufFlits l p w + h.pkt.flits then s
  else match s.feeds l p with
    | none => go s
    | some (m, o) =>
      if s.credit m o w < h.pkt.flits then s
      else go { s with credits := mapSet 17 s.credits (credKey m o w) (s.credit m o w - h.pkt.flits) }

/-- ROUTER_ROUTE (R280, R261): the head packet of an input buffer is routed; at its escape target a packet returns to its
normal channel. -/
def execRouterRoute (l p v : Nat) (s : State) : Out :=
  .next <|
    if s.fabricStops then s
    else match s.bufHead l p v with
    | none => s
    | some h =>
      if h.branches.isSome then s
      else if v = 5 then
        let t := h.pkt.escTo.getD l
        if t ≠ l then s.setHead l p v { h with branches := some [⟨dorOut l t, some t, true⟩] } else s.unescape l p h
      else s.routeHead l p v h

/-- ESCAPE_TIMEOUT (R260, R288): every branch still unsent moves to the escape channel. -/
def execEscapeTimeout (l p v : Nat) (s : State) : Out :=
  .next <|
    match s.bufHead l p v with
    | none => s
    | some h =>
      match h.branches with
      | none => s
      | some bs =>
        if 2 < v || bs.all (fun b => b.esc) then s
        else
          let move := fun (b : Branch) => if b.esc then b else match b.target with
            | none => { b with esc := true }
            | some t => ⟨dorOut l t, some t, true⟩
          let n := (bs.filter (fun b => !b.esc)).length
          ((s.bump (Reg.RTR_ESCCNT l) n).setBit (Reg.RTR_ERRSTAT l) 0).setHead l p v { h with branches := some (bs.map move) }

/-- Channel on which a branch leaves. -/
def Branch.vc (b : Branch) (v : Nat) : Nat := if b.esc then 5 else v

/-- A copy of a held packet can only leave with a record of its own, and it has none yet (R265, R298). -/
def Held.needsRecd (h : Held) : Bool :=
  h.recd.isNone && (h.need || decide (2 ≤ (h.branches.getD []).length)) && h.pkt.ret.kind != 3

/-- The branch of a held packet that output `o` could send on channel `w` (R257, R258, R265). -/
def State.candidate (s : State) (n p v o w : Nat) : Option (Held × Branch) :=
  match s.bufHead n p v with
  | none => none
  | some h =>
    match h.branches with
    | none => none
    | some bs =>
      match bs.find? (fun b => b.out == o && b.vc v == w) with
      | none => none
      | some b =>
        let room := s.linkTo n o = .nothing || h.pkt.flits ≤ s.credit n o w
        if room && (!h.needsRecd || (s.freeRecd n).isSome) then some (h, b) else none

/-- Power domain of what injects through a port (R522). -/
def portDom (q : Nat) : Nat := if q < 1024 then rowDom q else if q < 1056 then 163 else if q < 1060 then 162 else if q = 1060 then 161 else 167 + (q - 1064)

/-- The unit upstream of an input is not masked (R258, R637): its power domain is ON or IDLE. What stands in a router's buffers is
not behind a core's isolation wrapper any more (assumption log 47). -/
def State.inputOn (s : State) (n p : Nat) : Bool :=
  match s.feeds n p with
  | some (m, _) => s.domOn (128 + nodeDom m / 8)
  | none => match injector n p with | some q => s.domOn (portDom q) | none => true

/-- The input and buffer that output `o` grants on channel `w`, in rotation after the input last granted (R258); with `aged`, only
head packets that it lists, as 8 * input + channel. -/
def State.grant (s : State) (n o w : Nat) (aged : Option (List Nat)) : Option (Nat × Nat) :=
  let last := mapGet 7 (s.router n).rot (8 * o + w)
  ((List.range 8).map (fun k => (last + 1 + k) % 8)).findSome? (fun p =>
    (List.range 6).findSome? (fun v =>
      if (aged.getD [8 * p + v]).contains (8 * p + v) && s.inputOn n p && (s.candidate n p v o w).isSome then some (p, v) else none))

/-- A flit counter of an output (R276). -/
def State.countFlits (s : State) (n o k : Nat) : State := if o ≤ 5 then s.bump48 (Reg.RTR_FLITN n + 8 * o) k else s

/-- A copy is put on its way to the other end of output `o` on channel `w`. -/
def State.deliver (s : State) (n o w : Nat) (p : Packet) : State :=
  let s' := { s with credits := mapSet 17 s.credits (credKey n o w) (s.credit n o w - p.flits) }
  match s.linkTo n o with
  | .router m q => { s' with wires := mapSet [] s'.wires (8 * m + q) (mapGet [] s'.wires (8 * m + q) ++ [p]) }
  | .port m => s'.setPort m { s'.port m with inbox := mapSet [] (s'.port m).inbox w (mapGet [] (s'.port m).inbox w ++ [p]) }
  | .nothing => s

/-- Output `o` has granted input `p` on channel `w` (R258), counted in the grants of R276. -/
def State.granted (s : State) (l o p w : Nat) : State :=
  let s := s.setRouter l { s.router l with rot := mapSet 7 (s.router l).rot (8 * o + w) p }
  if p ≤ 6 && o ≤ 5 then s.wr (Reg.ARB_RTR_GRANT l o p) (s.rd (Reg.ARB_RTR_GRANT l o p) + 1) else s

/-- The record that the copies of a held packet name; the first of several branches, or of a MIN send, takes one (R265, R298). -/
def State.forkRecd (s : State) (l : Nat) (h : Held) : State × Option Nat :=
  if h.needsRecd then
    match s.freeRecd l with
    | some i => (s.setRecd l i ⟨true, (h.branches.getD []).length, h.pkt.ret, []⟩, some i)
    | none => (s, none)
  else (s, h.recd)

/-- The branches of a head packet that have not left yet; with none, the packet leaves its buffer. -/
def State.keepRest (s : State) (l p v : Nat) (h : Held) (r : Option Nat) (rest : List Branch) : State :=
  if rest.isEmpty then s.popHead l p v else s.setHead l p v { h with branches := some rest, recd := r }

/-- A copy leaves through output `b.out` on channel `w` with return point `ret` (R246, R259, R263). -/
def State.launch (s : State) (l w : Nat) (pk : Packet) (b : Branch) (ret : RetPt) : State :=
  if s.linkTo l b.out = .nothing then s.noPort l ret
  else if pk.hops = 127 then
    (((s.bump (Reg.RTR_HOPCNT l) 1).setBit (Reg.RTR_ERRSTAT l) 2).retire ret).faultReport l 8 1 l
  else
    let c : Packet := { pk with ret := ret, hops := pk.hops + 1, esc := pk.esc || b.esc, escTo := if b.esc then b.target else none }
    (s.countFlits l b.out pk.flits).deliver l b.out w c

/-- A branch of the head packet of buffer (p, v) of a logical router leaves through its output. -/
def State.sendBranch (s : State) (l p v w : Nat) (h : Held) (b : Branch) : State :=
  let x := s.forkRecd l h
  let ret := match x.2 with | some i => RetPt.mk 0 l i | none => h.pkt.ret
  (((x.1.keepRest l p v h x.2 ((h.branches.getD []).erase b)).granted l b.out p w)).launch l w h.pkt b ret

/-- The channels in the order of R258, each with whether only packets that have waited their limit at this output count. -/
def channelOrder : List (Nat × Bool) :=
  [(0, false), (5, true), (1, true), (2, true), (3, true), (4, true), (1, false), (2, false), (3, false), (4, false), (5, false)]

/-- A departure at output `o` waits for a free record (R265). -/
def State.recWaits (s : State) (l o : Nat) : Bool :=
  (s.freeRecd l).isNone && (List.range 8).any (fun p => (List.range 6).any (fun v =>
    match s.bufHead l p v with
    | some h => (h.branches.getD []).any (fun b => b.out == o) && h.needsRecd
    | none => false))

/-- ROUTER_PACKET_SEND (R258, R263, R265): one decision of an output; a wait for a record counts in it. `aged` lists the head
packets, as 8 * input + channel, that have waited their limit at this output: 32 cycles on channel 5, 128 on 1 to 4. -/
def execRouterPacketSend (l o : Nat) (aged : List Nat) (s : State) : Out :=
  .next <|
    if s.fabricStops then s
    else
      let s := if s.recWaits l o then s.bump (Reg.RTR_RETWAIT l) 1 else s
      match channelOrder.findSome? (fun x => (s.grant l o x.1 (if x.2 then some aged else none)).map (fun g => (x.1, g))) with
      | none => s
      | some (w, p, v) =>
        match s.candidate l p v o w with
        | some (h, b) => s.sendBranch l p v w h b
        | none => s

/-- PASS_THROUGH_FORWARD (R242): west to east and east to west on the same channel. -/
def execPassThroughForward (pcn p v : Nat) (s : State) : Out :=
  .next <|
    let n := 1024 + pcn
    let o := if p = 3 then 1 else 3
    match s.bufHead n p v with
    | none => s
    | some h =>
      if s.fabricStops || s.linkTo n o = .nothing || s.credit n o v < h.pkt.flits then s
      else ((s.popHead n p v).countFlits n o h.pkt.flits).deliver n o v { h.pkt with hops := min 127 (h.pkt.hops + 1) }

/-- What a combining entry sends joins the outputs as a further input. -/
def State.combOut (s : State) (l v : Nat) (hs : List Held) : State := s.setBuf l 7 v (s.buf l 7 v ++ hs)

/-- COMBINE_WINDOW_CLOSE (R292, R293, R294, R301). -/
def execCombineWindowClose (l e : Nat) (s : State) : Out :=
  .next <|
    let c := s.comb l e
    match c.pkt with
    | some q =>
      if c.st = 1 && (c.kind = 0 || c.kind = 2) then
        let m : Packet := { q with payload := c.sum, ret := ⟨0, l, 448 + e⟩, escTo := none }
        let k := s.recd l (448 + e)
        let s := (s.setComb l e { c with st := 2 }).setRecd l (448 + e) { k with count := c.branches.length }
        s.combOut l (vcOf q.cls) [⟨m.sign, some c.branches, some (448 + e), false⟩]
      else s
    | none => s

/-- The packets of a coalesced FAULT (R305): one for each pair of witnesses, the first with the total count. -/
def faultPairs (q : Packet) (count : Nat) (first : Bool) : List Nat → List Packet
  | [] => []
  | [w] => [mk w 0]
  | w :: x :: t => mk w x :: faultPairs q count false t
where
  /-- One packet with first witness `w` and second witness `x`. -/
  mk (w x : Nat) : Packet :=
    Packet.sign { q with cls := if bitAt w 14 then 7 else 3, sysSrc := bitAt w 14, srcDev := bits w 13 10, srcLcn := bits w 9 0,
                         payload := x * 2 ^ 16 + (if first then count else 0) }

/-- FAULT_COALESCE_CLOSE (R305). -/
def execFaultCoalesceClose (l e : Nat) (s : State) : Out :=
  .next <|
    let c := s.comb l e
    match c.pkt with
    | some q =>
      if c.st = 1 && c.kind = 3 then
        let ps := faultPairs { q with ret := ⟨0, l, 448 + e⟩, escTo := none } c.sum true c.wits
        let k := s.recd l (448 + e)
        let s := (s.setComb l e { c with st := 2 }).setRecd l (448 + e) { k with count := ps.length }
        s.combOut l 0 (ps.map (fun p => ⟨p, some c.branches, some (448 + e), false⟩))
      else s
    | none => s

/-- The isolation wrapper of a core's network interface is closed (R571, R573). -/
def State.wrapped (s : State) (c : Nat) : Bool := s.bit Reg.RST_ISO (16 + partOf c) || s.lost c

/-- A closed wrapper discards the head of an inbox and retires it (R574); events and sums are counted. -/
def State.wrapDrop (s : State) (c v : Nat) (p : Packet) : State :=
  let s := (s.takeInbox c v).retire p.ret
  if p.cls ≤ 2 then s.bump (Reg.RST_ISODROP (partOf c)) 1 else s

/-- The packet that control logic at port `n` takes next, of kind `kind` (R262): it takes CTRL and CTRL_SYS packets as they
arrive, on channel 0 or, escaped, on channel 5. -/
def State.ctrlHead (s : State) (n kind : Nat) : Option (Nat × Packet) :=
  [0, 5].findSome? (fun v => ((s.inboxHead n v).filter (fun p => (p.cls == 3 || p.cls == 7) && bits p.key 31 28 == kind)).map (fun p => (v, p)))

/-- The head of inbox `v` of a port, where it is of a class. -/
def State.headOf (s : State) (n v cls : Nat) : Option Packet := (s.inboxHead n v).filter (fun p => p.cls == cls)

/-- A DRAIN packet is due from a port (R310): its copies of the old generation have retired, and it has begun step c. -/
def State.drainReady (s : State) (n : Nat) : Bool :=
  let l := portLcn n
  let act := s.rf (Reg.RTR_BANK l) 0 0
  let began := if n < 1024 then s.phase n != 5 && stepGe (s.stepOf n) s.runc.swapC
               else if 1064 ≤ n then (s.link (n - 1064)).fresh
               else stepGe (s.rd Reg.TND_STEP).toNat s.runc.swapC
  let ports := if n = 1024 then (List.range 32).map (1024 + ·) else if n = 1056 then (List.range 4).map (1056 + ·) else [n]
  let old := ports.any (fun m => (s.port m).slots.any (fun e => e.1 / 16 == 1 - act && e.1 % 16 < 8)) ||
    (1064 ≤ n && (s.router l).recs.any (fun e => e.2.ret.kind == 5 && e.2.ret.idx / 4096 == 2 + (1 - act)))
  s.bit (Reg.RTR_BANK l) 1 && !(s.port n).drained && (1024 ≤ n || s.inUse n) &&
    ((began && !old) || (n < 1024 && s.wrapped n && s.bit Reg.RST_ISO (partOf n)))

/-- INJECTOR_DRAINED (R310, R312): a core, the Tundish (1024), the Ladle (1056) or a Sprue link port (1064 + n) sends DRAIN. -/
def execInjectorDrained (n : Nat) (s : State) : Out :=
  .next <|
    if !s.drainReady n then s
    else
      let gen := s.rf (Reg.RTR_BANK (portLcn n)) 31 16
      let s := s.setPort n { s.port n with drained := true }
      s.inject n (if n < 1024 then 3 else 7) (5 * 2 ^ 28 + gen) 1 (s.runc.swapC % 2 ^ 16) s.runc.swapC []

/-- The drain of a swap is done (R311): one CONFIG broadcast writes RTR_BANK with DRAINING 0 in every logical router. -/
def State.drainDone (s : State) : State :=
  let w := s.runc.swapGen * 2 ^ 16 + s.rf (Reg.RTR_BANK 18) 0 0
  (s.wf Reg.SMC_IMGSTAT 23 23 0).inject 1060 6 (1023 * 2 ^ 12 + 4 + 2) (Reg.RTR_BANK 0 - rtrWin 0) 1 0 (leBytes 4 w)

/-- Partitions under recovery still replay steps before c (R312). -/
def State.drainWaits (s : State) : Bool :=
  (List.range 16).any (fun p => s.recovering p && (((List.range 64).map (lcnOf p)).filter s.inUse).any (fun c =>
    !stepGe (((s.rd (Reg.NCR_SEALED c)).toNat + 1) % 2 ^ 32) s.runc.swapC))

/-- The drain is done once every injector has drained and no replay may still send with the old generation (R311, R312). -/
def State.drainTry (s : State) : State :=
  if s.bit Reg.SMC_IMGSTAT 23 && s.rf Reg.SMC_DRAIN 15 0 = s.rf Reg.SMC_DRAIN 31 16 && !s.drainWaits then s.drainDone else s

/-- DRAIN_RECEIVE (R311). -/
def execDrainReceive (s : State) : Out :=
  .next <|
    match s.ctrlHead 1060 5 with
    | none => s
    | some (v, p) =>
      let s := s.takeInbox 1060 v
      if !p.good then s.crcFail 18 p
      else if bits p.key 15 0 ≠ s.runc.swapGen then s.retire p.ret
      else ((s.retire p.ret).wf Reg.SMC_DRAIN 15 0 (s.rf Reg.SMC_DRAIN 15 0 + bits p.payload 15 0)).drainTry

end Sys2Proof.Machine
end

