-- ==== Sys2Proof/Machine/Neuron.lean ====
section
/-! DEFINITION. The neuron core between the network interface and the update engine (R78 to R113, R183 to R191): event
queue, delayed-event pool, axon entries, synapse beats, the update map, and group runs up to their first instruction. -/

namespace Sys2Proof.Machine


/-- Device address of a context. -/
def ctxAddr (c i : Nat) : Nat := coreWin c + 16 * i
/-- Device address of the microcode store. -/
def ucodeAddr (c : Nat) : Nat := coreWin c + 0x20000
/-- Device address of the table store. -/
def tableAddr (c : Nat) : Nat := coreWin c + 0x22000
/-- Device address of the event queue. -/
def eqAddr (c : Nat) : Nat := coreWin c + 0x24000
/-- Device address of the message scratchpad. -/
def padAddr (c : Nat) : Nat := coreWin c + 0x28000

/-- A context as a 128-bit number (R83). -/
def State.ctx (s : State) (c i : Nat) : Nat := s.num (ctxAddr c i) 16

/-- Context `i` heads a paired neuron (R84). -/
def State.isPair (s : State) (c i : Nat) : Bool := i % 2 = 0 && bitAt (s.ctx c i) 113

/-- Context `i` is the partner of a paired neuron. -/
def State.isPartner (s : State) (c i : Nat) : Bool := i % 2 = 1 && s.isPair c (i - 1)

/-- The context whose header governs context `i` (R84). -/
def State.govern (s : State) (c i : Nat) : Nat := if s.isPartner c i then i - 1 else i

/-- Context `i` is a member (R101): not a partner, and not an odd context of a model that pairs (R84). -/
def State.isMember (s : State) (c i : Nat) : Bool :=
  if i % 2 = 0 then true else !s.isPartner c i && !bitAt s.img.paired (16 * c + bits (s.ctx c i) 127 124)

/-- A member needs an update (R101, and R103 in serial mode). -/
def State.needsUpdate (s : State) (c i : Nat) : Bool :=
  let x := s.ctx c i
  let serial := s.bit (Reg.NCR_CTRL c) 1
  let idx := s.rf (Reg.NCR_CTRL c) 18 6
  s.isMember c i && !bitAt x 114 && ((s.core c).active.contains i || !bitAt x 115) &&
    (!serial || (s.govern c idx == i && (idx % 2 == 0 || s.isPartner c idx)))

/-- The members of group `g` that need an update under model `m` (R102). -/
def State.runMembers (s : State) (c g m : Nat) : List Nat :=
  (List.range 4).map (4 * g + ·) |>.filter (fun i => s.needsUpdate c i && bits (s.ctx c i) 127 124 == m)

/-- The group runs of the update phase, groups ascending, models ascending (R101, R102). -/
def State.updatePlan (s : State) (c : Nat) : List (Nat × Nat) :=
  (List.range 2048).flatMap (fun g =>
    let need := (List.range 4).map (4 * g + ·) |>.filter (fun i => s.needsUpdate c i)
    if need.isEmpty then [] else
      (List.range 16).filter (fun m => need.any (fun i => bits (s.ctx c i) 127 124 == m)) |>.map (fun m => (g, m)))

/-- What is addressed to context `i` is discarded (R85). -/
def State.disabled (s : State) (c i : Nat) : Bool := bitAt (s.ctx c (s.govern c i)) 114

/-- One addition into an input accumulator (R98, R99, R100): context `i`, the A1 position when `hi`; the sum saturates to 24
bits, a clamp is counted, the member is marked active; a disabled context discards it (R85). -/
def State.accumulate (s : State) (c i : Nat) (hi : Bool) (v : Int) : State :=
  let g := s.govern c i
  if s.disabled c i then s else
    let x := s.ctx c i
    let (h, l) := if hi then (79, 56) else (55, 32)
    let sum := toSigned 24 (bits x h l) + v
    let new := satS 24 sum
    let s := s.putNum (ctxAddr c i) 16 (putBits x h l (toPattern 24 new))
    let s := if new = sum then s else (s.bump (Reg.NCR_SATCNT c) 1).setBit (Reg.NCR_ERRSTAT c) 0
    let k := s.core c
    if k.active.contains g then s else s.setCore c { k with active := g :: k.active }

/-- Address of pool chunk `i` (R94); chunk addresses stay in the 32 KiB scratchpad (assumption log 9). -/
def State.chunkAddr (s : State) (c i : Nat) : Nat := padAddr c + (s.rf (Reg.NCR_DPOOL c) 8 0 + i) % 512 * 64

/-- The pool rebuilt empty from NCR_DPOOL (R94). -/
def State.poolRebuild (s : State) (c : Nat) : State :=
  s.setCore c { s.core c with poolHead := [], poolTail := [], poolRd := 0, poolFree := List.range (s.rf (Reg.NCR_DPOOL c) 25 16) }

/-- Words that an entry takes in queue and pool (R90). -/
def entryWords (head : Nat) : Nat := if bits head 31 30 = 0 then 1 else 2

/-- Entry words used in a chunk. -/
def State.chunkUsed (s : State) (c i : Nat) : Nat := bits (s.num (s.chunkAddr c i) 4) 3 0

/-- Entries parked in `fuel` chunks of a slot's chain from a chunk on, counting from word `w`. -/
def State.countChain (s : State) (c : Nat) : Nat → Nat → Nat → Nat → Nat
  | 0, _, _, _ => 0
  | fuel + 1, i, w, used =>
    if i = 0xFFFF then 0 else
    if w < used then 1 + countChain s c fuel i (w + entryWords (s.num (s.chunkAddr c i + 4 + 4 * w) 4)) used
    else
      let nx := bits (s.num (s.chunkAddr c i) 4) 31 16
      countChain s c fuel nx 0 (if nx = 0xFFFF then 0 else s.chunkUsed c nx)

/-- Entries parked in the pool. -/
def State.parked (s : State) (c : Nat) : Nat :=
  (((s.core c).poolHead).map (fun e =>
    s.countChain c 16384 e.2 (if e.1 = s.stepOf c % 128 then (s.core c).poolRd else 0) (s.chunkUsed c e.2))).sum

/-- An entry that finds no free chunk (R95): discarded, counted, reported once in each step. -/
def State.poolOverflow (s : State) (c : Nat) : State :=
  let s := (s.bump (Reg.NCR_DROPCNT c) 1).setBit (Reg.NCR_ERRSTAT c) 2
  if (s.core c).overflowed then s else (s.setCore c { s.core c with overflowed := true }).faultReport c 6 0 c

/-- An entry is parked under a slot of the pool (R94). -/
def State.park (s : State) (c slot : Nat) (words : List Nat) : State :=
  let k := s.core c
  let tail := mapGet 0xFFFF k.poolTail slot
  let used := s.chunkUsed c tail
  let n := words.length
  if tail ≠ 0xFFFF && used + n ≤ 15 then
    let a := s.chunkAddr c tail
    (s.putNum a 4 (putBits (s.num a 4) 3 0 (used + n))).store (a + 4 + 4 * used) (words.flatMap (leBytes 4))
  else match k.poolFree with
    | [] => s.poolOverflow c
    | f :: rest =>
      let s := if tail = 0xFFFF then s else
        s.putNum (s.chunkAddr c tail) 4 (putBits (s.num (s.chunkAddr c tail) 4) 31 16 f)
      let a := s.chunkAddr c f
      let s := (s.putNum a 4 (0xFFFF * 2 ^ 16 + n)).store (a + 4) (words.flatMap (leBytes 4))
      s.setCore c { k with poolFree := rest, poolTail := mapSet 0xFFFF k.poolTail slot f,
                           poolHead := if tail = 0xFFFF then mapSet 0xFFFF k.poolHead slot f else k.poolHead }

/-- The words of the next entry of a pool slot. -/
def State.poolNext (s : State) (c slot : Nat) : List Nat :=
  let k := s.core c
  let a := s.chunkAddr c (mapGet 0xFFFF k.poolHead slot) + 4 + 4 * k.poolRd
  let h := s.num a 4
  h :: (if entryWords h = 1 then [] else [s.num (a + 4) 4])

/-- The state with the next entry of a pool slot taken; a drained chunk returns to the free list (R94). -/
def State.poolTake (s : State) (c slot : Nat) : State :=
  let k := s.core c
  let h := mapGet 0xFFFF k.poolHead slot
  let rd := k.poolRd + (s.poolNext c slot).length
  if rd < s.chunkUsed c h then s.setCore c { k with poolRd := rd }
  else
    let nx := bits (s.num (s.chunkAddr c h) 4) 31 16
    s.setCore c { k with poolRd := 0, poolFree := k.poolFree ++ [h], poolHead := mapSet 0xFFFF k.poolHead slot nx,
                         poolTail := if nx = 0xFFFF then mapSet 0xFFFF k.poolTail slot 0xFFFF else k.poolTail }

/-- The words of the entry at the head of the event queue. -/
def State.eqNext (s : State) (c : Nat) : List Nat :=
  let h := (s.core c).eqHead
  let w := s.num (eqAddr c + 4 * (h % 4096)) 4
  w :: (if entryWords w = 1 then [] else [s.num (eqAddr c + 4 * ((h + 1) % 4096)) 4])

/-- The state with the entry at the head of the event queue taken. -/
def State.eqTake (s : State) (c : Nat) : State :=
  let n := (s.eqNext c).length
  let k := s.core c
  (s.setCore c { k with eqHead := (k.eqHead + n) % 4096, eqPresent := k.eqPresent - n }).wf (Reg.NCR_EQSTAT c) 12 0
    (s.rf (Reg.NCR_EQSTAT c) 12 0 - n)

/-- A late or out-of-window entry (R93): counted and reported. -/
def State.lateEntry (s : State) (c : Nat) : State :=
  ((s.bump (Reg.NCR_LATECNT c) 1).setBit (Reg.NCR_ERRSTAT c) 3).faultReport c 5 0 c

/-- A range error of the synaptic storage (R158). -/
def State.rangeError (s : State) (p : Nat) : State := (s.setBit (Reg.VLT_ERRSTAT p) 2).bump (Reg.VLT_RANGECNT p) 1

/-- Synaptic-storage offset of an axon entry of the core (R93). -/
def State.axonOff (s : State) (c axon : Nat) : Nat := 8 * (s.rf (Reg.NCR_AXBASE c) 21 0 + axon)

/-- The axon entry word. -/
def State.axonWord (s : State) (c axon : Nat) : Nat := s.num (vltWin (partOf c) + s.axonOff c axon) 8

/-- A read meets an uncorrectable or poisoned word of the vault (R176): `n` bytes from window offset `off`. -/
def State.poisoned (s : State) (p off n : Nat) : Bool :=
  n ≠ 0 && !(s.badWords (vaultAt p (off / 16 * 16)) (vaultAt p off + n)).isEmpty

/-- A vault's internal state. -/
def State.vault (s : State) (p : Nat) : VaultInt := mapGet .init s.vaults p
/-- The state with a vault's internal state replaced. -/
def State.setVault (s : State) (p : Nat) (x : VaultInt) : State := { s with vaults := mapSet .init s.vaults p x }

/-- The row of a window offset, as bank * 512 + row (R163, R178). -/
def vaultRow (off : Nat) : Nat := off / 16 % 64 * 512 + off / 65536

/-- A row begins to be copied to a spare row (R179); a bank without one left reports it once. -/
def State.rowStart (s : State) (p row : Nat) : State :=
  let x := s.vault p
  let bank := row / 512
  let taken := ((x.spares ++ x.rows).filter (fun r => r / 512 == bank)).length
  if x.rows.contains row then s
  else if taken < 24 then s.setVault p { x with rows := x.rows ++ [row], ce := mapSet 0 x.ce row 0 }
  else if x.gone.contains bank then s
  else ((s.setVault p { x with gone := bank :: x.gone }).setBit (Reg.VLT_ERRSTAT p) 3).vaultFault p 9

/-- A corrected error of a word is counted, and against its row (R175, R179). -/
def State.correctWord (s : State) (p a : Nat) : State :=
  let row := vaultRow (vaultOff p a)
  let n := mapGet 0 (s.vault p).ce row + 1
  let s := ({ s with upsets := mapDel s.upsets a }.bump (Reg.VLT_CECNT p) 1).setBit (Reg.VLT_ERRSTAT p) 0
  let s := s.setVault p { s.vault p with ce := mapSet 0 (s.vault p).ce row n }
  if max 1 (s.rf (Reg.VLT_SCRUB p) 7 0) ≤ n then s.rowStart p row else s

/-- A read of `n` bytes from window offset `off` corrects and writes back the correctable words it meets (R175). -/
def State.vaultCorrect (s : State) (p off n : Nat) : State :=
  (s.upsets.filter (fun e => e.2 = 1 && vaultAt p (off / 16 * 16) ≤ e.1 && e.1 < vaultAt p off + n)).foldl
    (fun s e => s.correctWord p e.1) s

/-- An uncorrectable word is read (R176): reported; one not marked before is marked poisoned, and its row replaced (R179: once
for each word that becomes poisoned, since it is copied still poisoned; assumption log 45). -/
def State.vaultBad (s : State) (p a : Nat) : State :=
  let s := s.vaultUE p (vaultOff p a)
  if mapGet false s.poison a then s
  else { s with poison := mapSet false s.poison a true, upsets := mapDel s.upsets a }.rowStart p (vaultRow (vaultOff p a))

/-- A read of `n` bytes from window offset `off` (R175, R176): correctable words are corrected, every other one is reported. -/
def State.vaultRead (s : State) (p off n : Nat) : State :=
  if n = 0 then s
  else (s.badWords (vaultAt p (off / 16 * 16)) (vaultAt p off + n)).foldl (fun s a => s.vaultBad p a) (s.vaultCorrect p off n)

/-- A core stops because its fetch met a poisoned word (R176). -/
def State.fetchStop (s : State) (c : Nat) : State := s.setCore c { s.core c with stopped := true }

/-- The emit step that a tag names (R92). -/
def emitStep (t tag : Nat) : Nat := ((t : Int) + toSigned 16 (tag + 2 ^ 16 - t % 2 ^ 16)).toNat % 2 ^ 32

/-- The due step of an entry (R92): a SUM at E + 1, an event after its axon entry's delay. -/
def State.dueStep (s : State) (c head : Nat) : Nat :=
  let e := emitStep (s.stepOf c + 2 ^ 32) (bits head 29 14)
  if bits head 31 30 = 2 then (e + 1) % 2 ^ 32
  else (e + 1 + bits (s.axonWord c (bits head 13 0)) 61 56) % 2 ^ 32

/-- The pre record of a due event of the pre range (R346). -/
def State.postPre (s : State) (c u axon m : Nat) : State :=
  let p := partOf c
  let n := s.rf (Reg.NCR_AXBASE c) 21 0 + axon
  let lo := s.rf (Reg.TMP_PRELO p) 21 0
  if s.learning p && lo ≤ n && n < lo + s.rf (Reg.TMP_PRELEN p) 21 0 then
    let x := s.temper p
    s.setTemper p { x with pre := x.pre ++ [(cipOf c, n, u, m)] }
  else s

/-- A due entry is processed: a SUM is added (R99), an event begins its list (R93). -/
def State.processDue (s : State) (c : Nat) (words : List Nat) : State :=
  let h := words.headD 0
  let d := words.getD 1 0
  let idx := bits h 13 0
  if bits h 31 30 = 2 then s.accumulate c (bits h 12 0) (bitAt h 13) (toSigned 32 d)
  else
    let pl : Int := if bits h 31 30 = 1 then toSigned 16 d else 0
    let s := s.postPre c (s.stepOf c) idx (if bits h 31 30 = 1 then pl.natAbs else 256)
    s.setCore c { s.core c with cur := some ⟨bits h 31 30 == 1, pl, idx, false, [], 0, 0, 0, false⟩ }

/-- The accumulator may take an entry: the core runs, no list is being streamed, and its port of 8 pre records has room
(R346). -/
def State.accReady (s : State) (c : Nat) : Bool :=
  !(s.core c).stopped && (s.core c).cur.isNone &&
    ((s.temper (partOf c)).pre.filter (fun e => e.1 = cipOf c)).length < 8

/-- The slot of the current step holds parked entries that are due now (R106). -/
def State.slotDue (s : State) (c : Nat) : Bool :=
  s.phase c == 0 && mapGet 0xFFFF (s.core c).poolHead (s.stepOf c % 128) != 0xFFFF

/-- Words of a core's memories that the addition of a contribution to context `i` reads: the context and its header's. -/
def ctxReads (c i : Nat) : List (Nat × Nat) := [(ctxAddr c i, 16), (ctxAddr c (i / 2 * 2), 16)]

/-- Words of a core's memories that processing a due entry reads. -/
def dueReads (c h : Nat) : List (Nat × Nat) := if bits h 31 30 = 2 then ctxReads c (bits h 12 0) else []

/-- Words of a core's memories that taking the next entry of a due slot reads. -/
def State.poolReads (s : State) (c slot : Nat) : List (Nat × Nat) :=
  let a := s.chunkAddr c (mapGet 0xFFFF (s.core c).poolHead slot)
  let words := s.poolNext c slot
  [(a, 4), (a + 4 + 4 * (s.core c).poolRd, 4 * words.length)] ++ dueReads c (words.headD 0)

/-- Words of a core's memories that taking the head of the event queue reads: the entry, what a due SUM adds into, and the
chunk in which an entry is parked. -/
def State.eqReads (s : State) (c : Nat) : List (Nat × Nat) :=
  let words := s.eqNext c
  let h := words.headD 0
  let u := s.dueStep c h
  let tail := mapGet 0xFFFF (s.core c).poolTail (u % 128)
  (List.range words.length).map (fun i => (eqAddr c + 4 * (((s.core c).eqHead + i) % 4096), 4)) ++
    (if u = s.stepOf c then dueReads c h else if tail = 0xFFFF then [] else [(s.chunkAddr c tail, 4)])

/-- A queue entry by its due step (R93). -/
def State.queueEntry (s : State) (c : Nat) : State :=
  let words := s.eqNext c
  let h := words.headD 0
  let present := 0 < (s.core c).eqPresent
  let t := s.stepOf c
  let p := partOf c
  let off := s.axonOff c (bits h 13 0)
  let isSum := bits h 31 30 = 2
  let s' := s.eqTake c
  if s.phase c = 5 then (s'.bump (Reg.NCR_LATECNT c) 1).setBit (Reg.NCR_ERRSTAT c) 3
  else if !isSum && 0x1800000 ≤ off then s'.rangeError p
  else if !isSum && s.poisoned p off 8 then ((s'.fetched c 1).vaultRead p off 8).fetchStop c
  else
    let u := s.dueStep c h
    if u = t && present && s.phase c = 0 then s'.processDue c words
    else
      let s' := if isSum then s' else (s'.fetched c 1).vaultRead p off 8
      if stepGt u t && stepSub u t ≤ 127 then s'.park c (u % 128) words else s'.lateEntry c

/-- ACCUMULATE_ENTRY (R93, R106, R693). -/
def execAccumulateEntry (c : Nat) (s : State) : Out :=
  .next <|
    if !s.accReady c then s
    else if s.slotDue c then
      let slot := s.stepOf c % 128
      s.reading c (s.poolReads c slot) (fun s => (s.poolTake c slot).processDue c (s.poolNext c slot))
    else if s.rf (Reg.NCR_EQSTAT c) 12 0 = 0 then s
    else s.reading c (s.eqReads c) (fun s => s.queueEntry c)

/-- The axon window that matches a key (R88): the axon index, or none. -/
def State.axonIndex (s : State) (c key : Nat) : Option Nat :=
  let hit := (List.range 16).find? (fun w =>
    s.bit (Reg.NCR_AXWIN_MAP c w) 31 &&
      key &&& (s.rd (Reg.NCR_AXWIN_MASK c w)).toNat == (s.rd (Reg.NCR_AXWIN_MATCH c w)).toNat)
  match hit with
  | none => none
  | some w =>
    let rest := key &&& (0xFFFFFFFF - (s.rd (Reg.NCR_AXWIN_MASK c w)).toNat)
    let a := s.rf (Reg.NCR_AXWIN_MAP c w) 13 0 + rest / 2 ^ s.rf (Reg.NCR_AXWIN_MAP c w) 18 14
    if a < s.rf (Reg.NCR_AXLEN c) 14 0 then some a else none

/-- The queue words of a packet (R89, R90); none when its key translates to nothing. An axon index of 2^14 or more, which an
NCR_AXLEN.LEN above 16,384 lets through and for which the spec gives no result, is added into the word as it is (DESIGN CHOICE,
assumption log 43). -/
def State.entryOf (s : State) (c : Nat) (p : Packet) : Option (List Nat) :=
  if p.cls = 2 then
    let sel := p.key % 2
    let idx := p.key / 2 ^ s.rf (Reg.NCR_KEYCFG c) 4 0 % 2 ^ 13
    some [2 * 2 ^ 30 + p.step * 2 ^ 14 + sel * 2 ^ 13 + idx, p.payload]
  else (s.axonIndex c p.key).map (fun a =>
    (p.cls * 2 ^ 30 + p.step * 2 ^ 14 + a) :: (if p.cls = 1 then [p.payload % 2 ^ 16] else []))

/-- Words written into the event queue behind its last entry. -/
def State.eqPut (s : State) (c : Nat) : List Nat → State
  | [] => s
  | w :: t =>
    let occ := s.rf (Reg.NCR_EQSTAT c) 12 0
    let s := s.putNum (eqAddr c + 4 * (((s.core c).eqHead + occ) % 4096)) 4 w
    let s := s.wf (Reg.NCR_EQSTAT c) 12 0 (occ + 1)
    let s := if s.rf (Reg.NCR_EQSTAT c) 28 16 < occ + 1 then s.wf (Reg.NCR_EQSTAT c) 28 16 (occ + 1) else s
    eqPut s c t

/-- An ARRIVAL record (R595). -/
def arrivalRec (cip kind step : Nat) (words : List Nat) : Nat :=
  cip * 2 ^ 122 + kind * 2 ^ 120 + step * 2 ^ 64 + words.getD 1 0 * 2 ^ 32 + words.headD 0

/-- An EVENT, GRADED or SUM copy of channel `v` waits at the network interface. -/
def State.eventWaits (s : State) (c v : Nat) : Option Packet := (s.inboxHead c v).filter (fun p => p.cls ≤ 2)

/-- EVENT_QUEUE_ACCEPT (R88 to R91). -/
def execEventQueueAccept (c v : Nat) (s : State) : Out :=
  .next <|
    match s.eventWaits c v with
    | none => s
    | some p =>
      if !p.good then (s.takeInbox c v).crcFail c p
      else if s.wrapped c then
        let s' := s.wrapDrop c v p
        match s.entryOf c p with
        | some words => s'.journal (partOf c) (arrivalRec (cipOf c) 0 (s.stepOf c) words)
        | none => s'
      else match s.entryOf c p with
        | none => (((s.takeInbox c v).bump (Reg.NCR_NOMATCHCNT c) 1).setBit (Reg.NCR_ERRSTAT c) 1).retire p.ret
        | some words =>
          if 4096 < s.rf (Reg.NCR_EQSTAT c) 12 0 + words.length then s
          else ((((s.takeInbox c v).eqPut c words).bump48 (Reg.NCR_EVCNT c) 1).journal (partOf c)
            (arrivalRec (cipOf c) 0 (s.stepOf c) words)).retire p.ret

/-- AXON_ENTRY_READ (R153, R154): the entry and its further segments; those past NCR_AXLEN or the storage are cut, which the end of
the event shows (R158). A poisoned word among them ends the event and stops the core (R176). -/
def execAxonEntryRead (c : Nat) (s : State) : Out :=
  .next <|
    match (s.core c).cur with
    | some st =>
      if st.ready || (s.core c).stopped then s
      else
        let n := bits (s.axonWord c st.axon) 55 53
        let idx := (List.range (n + 1)).map (st.axon + ·)
        let ok := idx.takeWhile (fun a => (a == st.axon || a < s.rf (Reg.NCR_AXLEN c) 14 0) && s.axonOff c a < 0x1800000)
        let off := s.axonOff c st.axon
        let bad := s.poisoned (partOf c) off (8 * ok.length)
        let s := (s.fetched c (vaultSpan off (8 * ok.length))).vaultRead (partOf c) off (8 * ok.length)
        if bad then (s.setCore c { s.core c with cur := none }).fetchStop c
        else
          let segs := ok.map (s.axonWord c)
          s.setCore c { s.core c with cur := some { st with ready := true, segs := segs, j := 0, esc := 0,
                                                            prev := bits (segs.headD 0) 50 38, short := ok.length < idx.length } }
    | none => s

/-- Number of synapses of a segment (R153). -/
def segCount (w : Nat) : Nat := if bits w 63 62 = 3 then (bits w 16 12 + 1) * (bits w 11 7 + 1) else bits w 13 0

/-- One synapse of a segment: where its bytes end in synaptic storage, its code, its target and port, whether it is a free
slot, given the target of the synapse before it (R157, R159, R160). -/
structure Syn where
  last : Nat
  code : Nat
  tgt  : Nat
  port : Nat
  free : Bool
  deriving DecidableEq, Repr

/-- Synapse `j` of a segment of vault `p` (R156, R157). -/
def State.synapse (s : State) (p w j prev : Nat) : Syn :=
  let base := bits w 37 17 * 16
  let rd := fun off n => s.num (vltWin p + base + off) n
  match bits w 63 62 with
  | 0 => ⟨base + j / 2 + 1, rd (j / 2) 1 / 16 ^ (j % 2) % 16, bits w 50 38 + j, bits w 52 51, false⟩
  | 1 => let x := rd (2 * j) 2
         ⟨base + 2 * j + 2, bits x 11 8, prev + bits x 7 0, bits x 13 12, false⟩
  | 2 => let x := rd (4 * j) 4
         ⟨base + 4 * j + 4, bits x 11 8, prev + bits x 7 0, bits x 13 12, bitAt x 15⟩
  | _ => let kw := bits w 16 12 + 1
         let pitch := if bits w 6 0 = 0 then 128 else bits w 6 0
         ⟨base + j / 2 + 1, rd (j / 2) 1 / 16 ^ (j % 2) % 16, bits w 50 38 + j / kw * pitch + j % kw, bits w 52 51, false⟩

/-- The level of a code in a core's grid (R183). -/
def State.level (s : State) (c code : Nat) : Int := toSigned 8 (s.num (tableAddr c + code) 1)

/-- Where the value of escape `n` of a list lies (R186 to R188): none when the side list has no such entry. -/
def State.sideAt (s : State) (c list n : Nat) : Option Nat :=
  let i := (list + n) % 4096
  let off := s.rf (Reg.NCR_SIDE c) 8 0 * 64 + 2 * i
  if s.rf (Reg.NCR_SIDE c) 28 16 ≤ i || 0x8000 ≤ off then none else some (padAddr c + off)

/-- The value of escape `n` of a list. -/
def State.escape (s : State) (c list n : Nat) : Option Int := (s.sideAt c list n).map (fun a => toSigned 16 (s.num a 2))

/-- What a beat has gathered: contributions to (context, A1 position), in order of first mention. -/
def addContrib (l : List (Nat × Bool × Int)) (i : Nat) (hi : Bool) (v : Int) : List (Nat × Bool × Int) :=
  match l with
  | [] => [(i, hi, v)]
  | (j, h, w) :: t => if j = i && h = hi then (j, h, w + v) :: t else (j, h, w) :: addContrib t i hi v

/-- The beat's synapses, up to `fuel` of them (R96, R97): answers the stream behind them, the contributions, how many were
added, how many escapes were missing, and whether a synapse out of range ended the event (R158). -/
def State.gather (s : State) (c : Nat) : Nat → Stream → List (Nat × Bool × Int) → Nat → Nat → Stream × List (Nat × Bool × Int) × Nat × Nat × Bool
  | 0, st, acc, n, miss => (st, acc, n, miss, false)
  | fuel + 1, st, acc, n, miss =>
    match st.segs with
    | [] => (st, acc, n, miss, false)
    | w :: _ =>
      if segCount w ≤ st.j then (st, acc, n, miss, false)
      else
        let y := s.synapse (partOf c) w st.j st.prev
        let i := y.tgt + y.port / 2
        if 0x1800000 < y.last || 8191 < i then (st, acc, n, miss, true)
        else
          let st' := { st with j := st.j + 1, prev := y.tgt, esc := if y.code = 15 then st.esc + 1 else st.esc }
          if y.free then gather s c fuel st' acc n miss
          else
            let e := if y.code = 15 then s.escape c (bits w 37 17) st.esc else some (s.level c y.code)
            let g := e.getD 0
            let v := if st.graded then asr (g * st.payload) 8 else g
            gather s c fuel st' (addContrib acc i (y.port % 2 == 1) v) (if s.disabled c i then n else n + 1)
              (if e.isNone then miss + 1 else miss)

/-- Words of the core's memories that the beat's synapses read, up to `fuel` of them: levels, side-list entries and contexts. -/
def State.beatReads (s : State) (c : Nat) : Nat → Stream → List (Nat × Nat)
  | 0, _ => []
  | fuel + 1, st =>
    match st.segs with
    | [] => []
    | w :: _ =>
      let y := s.synapse (partOf c) w st.j st.prev
      let i := y.tgt + y.port / 2
      if segCount w ≤ st.j || 0x1800000 < y.last || 8191 < i then []
      else
        let here :=
          if y.free then []
          else (if y.code = 15 then (s.sideAt c (bits w 37 17) st.esc).map (fun a => (a, 2)) |>.toList else [(tableAddr c + y.code, 1)]) ++
            ctxReads c i
        here ++ beatReads s c fuel { st with j := st.j + 1, prev := y.tgt, esc := if y.code = 15 then st.esc + 1 else st.esc }

/-- The beat's contributions added (R98). -/
def State.addAll (s : State) (c : Nat) : List (Nat × Bool × Int) → State
  | [] => s
  | (i, hi, v) :: t => addAll (s.accumulate c i hi v) c t

/-- The stream after a beat: the next segment when this one is done, none when the event is done (R154). -/
def Stream.advance (st : Stream) (cut : Bool) : Option Stream :=
  if cut then none else
  match st.segs with
  | [] => none
  | w :: t => if st.j < segCount w then some st
    else match t with
      | [] => none
      | w' :: _ => some { st with segs := t, j := 0, esc := 0, prev := bits w' 50 38 }

/-- Bytes of synaptic storage that the next beat of a segment reads: none at or past 0x0180_0000 (R158). -/
def beatSpan (w j : Nat) : Nat × Nat :=
  let base := bits w 37 17 * 16
  let n := min 16 (segCount w - j)
  let r := match bits w 63 62 with
    | 1 => (base + 2 * j, 2 * n)
    | 2 => (base + 4 * j, 4 * n)
    | _ => (base + j / 2, (j + n + 1) / 2 - j / 2)
  (r.1, min r.2 (0x1800000 - r.1))

/-- SYNAPSE_BEAT (R96 to R100, R158, R176, R187, R188). A poisoned word among those that the beat reads drops the whole beat
(DESIGN CHOICE, assumption log 45); an event is cut once, and counted once. -/
def execSynapseBeat (c : Nat) (s : State) : Out :=
  .next <|
    match (s.core c).cur with
    | none => s
    | some st =>
      if !st.ready || (s.core c).stopped then s
      else
        let p := partOf c
        let span := beatSpan (st.segs.headD 0) st.j
        let nothing := st.segs.isEmpty || span.2 = 0
        let bad := !nothing && s.poisoned p span.1 span.2
        let s := if nothing then s else (s.fetched c (vaultSpan span.1 span.2)).vaultRead p span.1 span.2
        if bad then (s.setCore c { s.core c with cur := none }).fetchStop c
        else s.reading c (s.beatReads c 16 st) (fun s =>
          let (st', acc, n, miss, cut) := s.gather c 16 st [] 0 0
          let s := (s.addAll c acc).bump48 (Reg.NCR_SYNCNT c) n
          let s := if miss = 0 then s else (s.bump (Reg.NCR_ESCMISSCNT c) miss).setBit (Reg.NCR_GRIDSTAT c) 0
          let next := st'.advance cut
          let s := if cut || (st.short && next.isNone) then s.rangeError p else s
          s.setCore c { s.core c with cur := next })

/-- NCR_DPOOL rewritten (R94): parked entries are discarded and counted, the pool is rebuilt. -/
def State.dpoolWrite (s : State) (c data : Nat) : State :=
  let n := s.parked c
  ((s.bump (Reg.NCR_DROPCNT c) n).wr (Reg.NCR_DPOOL c) (BitVec.ofNat 32 (data &&& 0x03FF01FF))).poolRebuild c

/-- ACCUMULATE ends: nothing due is left (R106). -/
def State.accDone (s : State) (c : Nat) : Bool :=
  s.phase c == 0 && s.accReady c && !s.slotDue c && (s.core c).eqPresent == 0

/-- Record `i` of a partition's journal (R594, R595). -/
def State.journalRec (s : State) (p i : Nat) : Nat := s.num (vltWin p + 16 * (s.rf (Reg.VLT_JRNL p) 20 0 + i)) 16

/-- The next ARRIVAL record of a core that its replay has not been fed, in journal order. -/
def State.feedNext (s : State) (c : Nat) : Option Nat :=
  let p := partOf c
  (List.range (s.rf (Reg.VLT_JUSED p) 20 0)).find? (fun i =>
    mapGet 0 s.recv.fed c ≤ i && bits (s.journalRec p i) 127 120 == cipOf c * 4)

/-- A replaying core has yet to be fed an arrival of a step it has been admitted to (R603). -/
def State.feedWaits (s : State) (c : Nat) : Bool :=
  s.recovering (partOf c) && (s.feedNext c).any (fun i => stepGe (s.stepOf c) (bits (s.journalRec (partOf c) i) 95 64))

/-- ACCUMULATE_END (R101, R106). -/
def execAccumulateEnd (c : Nat) (s : State) : Out :=
  .next <|
    if s.accDone c && !s.feedWaits c then (s.setPhase c 1).setCore c { s.core c with plan := s.updatePlan c, run := none } else s

/-- The entry point of a model (R79). -/
def State.entryPoint (s : State) (c m : Nat) : Nat := s.num (tableAddr c + 0x20 + 2 * m) 2

/-- A run is aborted (R147, R148): the cause is captured unless UCLIMIT still stands, nothing is written back, the core
stops and reports the hang. -/
def State.abortRun (s : State) (c cause model pc group : Nat) : State :=
  let s := if s.bit (Reg.NCR_ERRSTAT c) 5 then s else
    s.wr (Reg.NCR_UCFAULT c) (BitVec.ofNat 32 (cause * 2 ^ 29 + model * 2 ^ 24 + pc * 2 ^ 13 + group))
  (s.setCore c { s.core c with run := none }).coreStop c 5 2

/-- Elapsed steps of a context (R86). -/
def elapsedOf (t x : Nat) : Nat := if bitAt x 112 then 65535 else (t + 2 ^ 16 - bits x 111 96) % 2 ^ 16

/-- A 16-bit field of a context as a signed number. -/
def ctxS16 (x hi lo : Nat) : Int := toSigned 16 (bits x hi lo)

/-- The lane that holds context `i` in a run of the given members (R114, R115, R118). -/
def State.laneOf (s : State) (c i : Nat) (live : Bool) : Lane :=
  let x := s.ctx c i
  let pair := s.isPair c i
  let y := if pair then s.ctx c (i + 1) else 0
  { mask := live, ctx := i, paired := pair,
    regs := [ctxS16 x 15 0, ctxS16 x 31 16, ctxS16 x 95 80, ctxS16 y 15 0, ctxS16 y 31 16, ctxS16 y 95 80,
             ctxS16 y 111 96, ctxS16 y 127 112] ++ List.replicate 8 0,
    k := List.replicate 4 false, q := bitAt x 115,
    acc := [toSigned 24 (bits x 55 32), toSigned 24 (bits x 79 56), toSigned 24 (bits y 55 32), toSigned 24 (bits y 79 56)],
    elapsed := elapsedOf (s.stepOf c) x, raw := x, rawOdd := y }

/-- The next group run may load. -/
def State.runReady (s : State) (c : Nat) : Bool := s.phase c == 1 && !(s.core c).stopped && (s.core c).run.isNone

/-- Taps reported by a core (NCR_TAPCTRL.NTAPS). -/
def State.ntaps (s : State) (c : Nat) : Nat := min 256 (s.rf (Reg.NCR_TAPCTRL c) 29 21)

/-- Window length in steps (SMC_EPOCH.W). -/
def State.windowLen (s : State) : Nat := max 1 (s.rf Reg.SMC_EPOCH 31 16)

/-- Epoch length in steps (SMC_EPOCH.E). -/
def State.epochLen (s : State) : Nat := max 1 (s.rf Reg.SMC_EPOCH 15 0)

/-- A COUNT record (R409) of the taps from `first` on. -/
def State.countRecord (s : State) (c win first lost steps : Nat) (partly : Bool) : List Byte :=
  let n := min 24 (s.ntaps c - first)
  let taps := (List.range n).map (fun i => Reg.NCR_TAPCNT c (first + i))
  let flags := (if partly then 1 else 0) + (if taps.any (fun a => s.bit a 16) then 2 else 0)
  fitBytes 64 ([1] ++ leBytes 1 flags ++ leBytes 2 (c + s.dev * 2 ^ 10) ++ leBytes 4 win ++ leBytes 2 first ++ leBytes 1 n ++
    leBytes 1 lost ++ leBytes 4 steps ++ taps.flatMap (fun a => leBytes 2 (s.rf a 15 0)))

/-- Undelivered COUNT records and those in flight, as NCR_TAPSTAT shows them. -/
def State.showTaps (s : State) (c : Nat) : State :=
  (s.wf (Reg.NCR_TAPSTAT c) 15 8 (s.core c).taps.length).wf (Reg.NCR_TAPSTAT c) 7 0 (s.core c).tapOut.length

/-- Room is made for `n` records by discarding the oldest held windows, as many as it takes (R407). -/
def State.tapRoom (s : State) (c n : Nat) : Nat → State
  | 0 => s
  | fuel + 1 =>
    let k := s.core c
    if k.taps.length + n ≤ 22 then s
    else
      let w := (k.taps.headD (0, 0, [])).1
      tapRoom ((s.setCore c { k with taps := k.taps.filter (fun r => r.1 != w), tapOut := k.tapOut.filter (fun o => o.2 / 256 != w),
                                     tapFull := k.tapFull.filter (fun i => i / 256 != w),
                                     tapLost := k.tapLost + 1 }).bump (Reg.NCR_TAPLOST c) 1) c n fuel

/-- The core's step is replayed, so its packets have been sent before (R237, R339, R408). -/
def State.replayed (s : State) (c : Nat) : Bool :=
  match (s.core c).replay with | some (f, _, _) => stepGe f (s.stepOf c) | none => false

/-- First step of window `k` of the run (R208), steps being counted modulo 2^32 (R205). -/
def State.windowFirst (s : State) (k : Nat) : Nat := k * s.windowLen % 2 ^ 32

/-- Step `t` is the last of window `k`. -/
def State.windowLast (s : State) (k t : Nat) : Bool := (t + 1) % 2 ^ 32 == s.windowFirst (k + 1)

/-- The core closes the open window after `steps` of its steps (R405, R687): the next one opens with its counts cleared, and where
NCR_TAPCTRL.EN is 1 its records are queued. A window that closes again in a replay has its records already (R408). -/
def State.tapClose (s : State) (c steps : Nat) (partly : Bool) : State :=
  let win := (s.rd (Reg.NCR_TAPWIN c)).toNat
  let again := stepGt (s.core c).tapHigh win
  let firsts := (List.range ((s.ntaps c + 23) / 24)).map (· * 24)
  let s := if !s.bit (Reg.NCR_TAPCTRL c) 31 || again || firsts.isEmpty then s else
    let s := s.tapRoom c firsts.length 23
    let k := s.core c
    let recs := firsts.map (fun f => (win, f, s.countRecord c win f (if f = 0 then min 255 k.tapLost else 0) steps partly))
    (s.setCore c { k with taps := k.taps ++ recs, tapLost := 0 }).showTaps c
  let s := if again then s else s.setCore c { s.core c with tapHigh := (win + 1) % 2 ^ 32 }
  let s := (List.range 256).foldl (fun s i => s.wr (Reg.NCR_TAPCNT c i) 0) s
  s.wr (Reg.NCR_TAPWIN c) (s.rd (Reg.NCR_TAPWIN c) + 1)

/-- The update phase ends (R106), and with it the window whose last step this is (R405). -/
def State.updateDone (s : State) (c : Nat) : State :=
  let s := (s.setPhase c 2).setCore c { s.core c with hzWait := 0 }
  if s.windowLast (s.rd (Reg.NCR_TAPWIN c)).toNat (s.stepOf c) then s.tapClose c s.windowLen false else s

/-- GROUP_RUN_START (R102, R103, R143): the load cycle of the next run; a plan with nothing in it ends UPDATE. -/
def execGroupRunStart (c : Nat) (s : State) : Out :=
  .next <|
    if !s.runReady c then s
    else match (s.core c).plan with
      | [] => s.updateDone c
      | (g, m) :: rest =>
        let s := s.setCore c { s.core c with plan := rest }
        let ep := s.entryPoint c m
        let entry := (tableAddr c + 0x20 + 2 * m, 2)
        if !bitAt ep 15 then s.reading c [entry] (fun s => s.abortRun c 1 m (bits ep 10 0) g)
        else s.reading c [entry, (ctxAddr c (4 * g), 64)] (fun s =>
          let live := s.runMembers c g m
          let lanes := (List.range 4).map (fun l => s.laneOf c (4 * g + l) (live.contains (4 * g + l)))
          s.setCore c { s.core c with run := some ⟨g, m, bits ep 10 0, 0, lanes, false⟩ })

/-- The write-back of one lane (R86, R117): state registers, Q, STAMP, LONG, and the accumulators cleared. -/
def State.writeBack (s : State) (c t : Nat) (l : Lane) : State :=
  if !l.mask then s else
    let rg := fun i => toPattern 16 (l.regs.getD i 0)
    let x := putBits (putBits (putBits l.raw 15 0 (rg 0)) 31 16 (rg 1)) 95 80 (rg 2)
    let x := putBits (putBits (putBits (putBits x 79 32 0) 111 96 (t % 2 ^ 16)) 112 112 0) 115 115 (if l.q then 1 else 0)
    let s := s.putNum (ctxAddr c l.ctx) 16 x
    if !l.paired then s else
      s.putNum (ctxAddr c (l.ctx + 1)) 16
        (rg 3 + rg 4 * 2 ^ 16 + rg 5 * 2 ^ 80 + rg 6 * 2 ^ 96 + rg 7 * 2 ^ 112)

/-- The lanes of a run written back in order. -/
def State.writeLanes (s : State) (c t : Nat) : List Lane → State
  | [] => s
  | l :: ls => writeLanes (s.writeBack c t l) c t ls

/-- One context of the stamp sweep (R87). -/
def State.sweepCtx (s : State) (c t i : Nat) : State :=
  let x := s.ctx c i
  if s.isMember c i && bitAt x 115 && 32768 ≤ elapsedOf t x then s.putNum (ctxAddr c i) 16 (putBits x 112 112 1) else s

/-- The stamp sweep of one step: the next group of four contexts (R87). -/
def State.sweepStep (s : State) (c t : Nat) : State :=
  let g := (s.core c).sweep
  s.reading c [(ctxAddr c (4 * g), 64)] (fun s =>
    let s := (List.range 4).foldl (fun s l => s.sweepCtx c t (4 * g + l)) s
    s.setCore c { s.core c with sweep := (g + 1) % 2048 })

end Sys2Proof.Machine
end

