-- ==== Sys2Proof/Machine/Microcode.lean ====
section
/-! DEFINITION. The update microcode (R114 to R149): each row executes the instruction at the address of the run in progress
on a core, when that instruction's opcode is the row's. An illegal word aborts the run. -/

namespace Sys2Proof.Machine

/-- Cycles allowed in a run (R103): 0 is treated as 4,096. -/
def State.ucLimit (s : State) (c : Nat) : Nat :=
  if s.rf (Reg.NCR_UCLIMIT c) 11 0 = 0 then 4096 else s.rf (Reg.NCR_UCLIMIT c) 11 0

/-- The instruction word at an address of the microcode store. -/
def State.ucWord (s : State) (c pc : Nat) : Nat := s.num (ucodeAddr c + 4 * pc) 4

/-- The run whose next instruction may execute, with that instruction: the core updates, and the limit is not reached. -/
def State.ucFetch (s : State) (c : Nat) : Option (Run × Nat) :=
  if s.phase c = 1 && !(s.core c).stopped then
    match (s.core c).run with
    | some r => if r.cycles < s.ucLimit c then some (r, s.ucWord c r.pc) else none
    | none => none
  else none

/-- The run continues at `pc` after an instruction; past address 2,047 it aborts (R144). When the instruction at 2,047 also takes
the last cycle allowed, the cause recorded is the address, 0b101: the spec does not say which comes first (DESIGN CHOICE,
assumption log 45). -/
def State.ucGoto (s : State) (c : Nat) (r : Run) (pc : Nat) : State :=
  if 2047 < pc then s.abortRun c 5 r.model 0x7FF r.group
  else s.setCore c { s.core c with run := some { r with pc := pc, cycles := r.cycles + 1 } }

/-- The run continues at the next address. -/
def State.ucNext (s : State) (c : Nat) (r : Run) : State := s.ucGoto c r (r.pc + 1)

/-- A stall cycle of an output instruction (R140). -/
def State.ucStall (s : State) (c : Nat) (r : Run) : State :=
  s.setCore c { s.core c with run := some { r with cycles := r.cycles + 1 } }

/-- The run aborts at the present instruction: cause 3 illegal, 4 table descriptor (R147). -/
def State.ucAbort (s : State) (c : Nat) (r : Run) (cause : Nat) : State := s.abortRun c cause r.model r.pc r.group

/-- Value of register code `code` in a lane (R114): a parameter comes from the table store. -/
def State.ucReg (s : State) (c m : Nat) (l : Lane) (code : Nat) : Int :=
  if code < 16 then l.regs.getD code 0 else toSigned 16 (s.num (tableAddr c + 0x100 + 32 * m + 2 * (code - 16)) 2)

/-- A result written to register `d` of a lane (R114, R121): saturated; V2 to V6 of an unpaired member are discarded. -/
def Lane.put (l : Lane) (d : Nat) (x : Int) : Lane :=
  if 3 ≤ d && d ≤ 7 && !l.paired then l
  else { l with regs := setIdx l.regs d (if d < 8 then satS 16 x else satS 32 x) }

/-- A bit pattern written to register `d` of a lane (R122): a 16-bit register receives bits [15:0]. -/
def Lane.putBits (l : Lane) (d x : Nat) : Lane :=
  if 3 ≤ d && d ≤ 7 && !l.paired then l
  else { l with regs := setIdx l.regs d (if d < 8 then toSigned 16 x else toSigned 32 x) }

/-- The predicate of a lane holds (R120). -/
def Lane.pred (l : Lane) (w : Nat) : Bool := !bitAt w 10 || (l.k.getD (bits w 8 7) false != bitAt w 9)

/-- The lane executes a predicated instruction (R119). -/
def Lane.runs (l : Lane) (w : Nat) : Bool := l.mask && l.pred w

/-- The predicate bits are a legal combination (R120). -/
def predOk (w : Nat) : Bool := bitAt w 10 || !bitAt w 9

/-- D names a register that may be written (R114, R128). -/
def dOk (w : Nat) : Bool := bits w 25 21 < 16

/-- The parameter word of register code `code` (R114): what reading that register reads of the core's memories. -/
def parReads (c m code : Nat) : List (Nat × Nat) := if code < 16 then [] else [(tableAddr c + 0x100 + 32 * m + 2 * (code - 16), 2)]

/-- The instruction word of a run. -/
def fetchReads (c : Nat) (r : Run) : List (Nat × Nat) := [(ucodeAddr c + 4 * r.pc, 4)]

/-- Words of the core's memories that a legal instruction reads: its own word, the parameters that its A and B fields name and the
executing lanes read, and the channels of RDA (R131). The IMM formats have no B field; they execute in every live lane. -/
def State.ucReads (s : State) (c : Nat) (r : Run) (w : Nat) : List (Nat × Nat) :=
  let op := bits w 31 26
  let imm := 0x18 ≤ op && op ≤ 0x1C
  let run := r.lanes.filter (fun l => if imm then l.mask else l.runs w)
  let chan := fun (l : Lane) => (tableAddr c + 0x400 + 4 * ((bits l.raw 123 116 + bits w 17 16 / 2) % 256), 4)
  fetchReads c r ++ (if run.isEmpty then [] else
    parReads c r.model (bits w 20 16) ++ (if imm then [] else parReads c r.model (bits w 15 11)) ++
      (if op = 0x23 && !bitAt w 0 then run.map chan else []))

/-- An instruction that only changes the lanes: when the opcode is `op`, its lanes change under `f`; illegal, it aborts. -/
def State.ucLanes (s : State) (c op : Nat) (legal : Nat → Bool) (f : State → Run → Nat → Lane → Lane) : State :=
  match s.ucFetch c with
  | none => s
  | some (r, w) =>
    if bits w 31 26 ≠ op then s
    else if !legal w then s.reading c (fetchReads c r) (fun s => s.ucAbort c r 3)
    else s.reading c (s.ucReads c r w) (fun s => s.ucNext c { r with lanes := r.lanes.map (f s r w) })

/-- Fields of the ALU format (R125): the reserved bit is 0; `b`, `sh` and `rnd` say which fields the row leaves in use. -/
def aluOk (b sh rnd : Bool) (w : Nat) : Bool :=
  dOk w && predOk w && !bitAt w 0 && (b || bits w 15 11 == 0) && (sh || bits w 6 2 == 0) && (rnd || !bitAt w 1)

/-- An ALU instruction whose result is a number (R121). -/
def State.ucAlu (s : State) (c op : Nat) (b sh rnd : Bool) (f : Nat → Int → Int → Int → Int) : State :=
  s.ucLanes c op (aluOk b sh rnd) (fun s r w l =>
    if l.runs w then
      l.put (bits w 25 21) (f w (s.ucReg c r.model l (bits w 25 21)) (s.ucReg c r.model l (bits w 20 16)) (s.ucReg c r.model l (bits w 15 11)))
    else l)

/-- A bitwise instruction (R122). -/
def State.ucBitwise (s : State) (c op : Nat) (f : Nat → Nat → Nat) : State :=
  s.ucLanes c op (aluOk true false false) (fun s r w l =>
    if l.runs w then
      l.putBits (bits w 25 21) (f (toPattern 32 (s.ucReg c r.model l (bits w 20 16))) (toPattern 32 (s.ucReg c r.model l (bits w 15 11))))
    else l)

/-- The right shift of MUL, MAC and SHR (R123). -/
def ucShift (w : Nat) (x : Int) : Int := if bitAt w 1 then rsr x (bits w 6 2) else asr x (bits w 6 2)

/-- A flag written by a comparison (R126). -/
def Lane.putK (l : Lane) (w : Nat) (o : Bool) : Lane :=
  let i := bits w 22 21
  let old := l.k.getD i false
  { l with k := setIdx l.k i (match bits w 24 23 with | 0 => o | 1 => old && o | _ => old || o) }

/-- A comparison of two registers (R126, CMP format). -/
def State.ucCmp (s : State) (c op : Nat) (f : Int → Int → Bool) : State :=
  s.ucLanes c op (fun w => !bitAt w 25 && bits w 24 23 != 3 && predOk w && bits w 6 0 == 0) (fun s r w l =>
    if l.runs w then l.putK w (f (s.ucReg c r.model l (bits w 20 16)) (s.ucReg c r.model l (bits w 15 11))) else l)

/-- An instruction of the IMM format (R125): it executes in every live lane. -/
def State.ucImm (s : State) (c op : Nat) (a : Bool) (f : Int → Int → Int) : State :=
  s.ucLanes c op (fun w => dOk w && (a || bits w 20 16 == 0)) (fun s r w l =>
    if l.mask then l.put (bits w 25 21) (f (s.ucReg c r.model l (bits w 20 16)) (toSigned 16 (bits w 15 0))) else l)

/-- A comparison with an immediate (CMPI format). -/
def State.ucCmpI (s : State) (c op : Nat) (f : Int → Int → Bool) : State :=
  s.ucLanes c op (fun w => !bitAt w 25 && bits w 24 23 != 3) (fun s r w l =>
    if l.mask then l.putK w (f (s.ucReg c r.model l (bits w 20 16)) (toSigned 16 (bits w 15 0))) else l)

/-- The opcodes that have a row of their own (R127). -/
def ucOpcodes : List Nat :=
  [0x01, 0x02, 0x03, 0x04, 0x05, 0x06, 0x07, 0x08, 0x09, 0x0A, 0x0B, 0x0C, 0x0D, 0x10, 0x11, 0x12, 0x18, 0x19, 0x1A, 0x1B,
   0x1C, 0x20, 0x21, 0x22, 0x23, 0x24, 0x25, 0x28, 0x30, 0x31, 0x32, 0x3F]

/-- NOP (R127): the all-zero word does nothing; any other word of an opcode without a row is illegal (R128). -/
def execNop (c : Nat) (s : State) : Out :=
  .next <| match s.ucFetch c with
    | none => s
    | some (r, w) =>
      if w = 0 then s.reading c (fetchReads c r) (fun s => s.ucNext c r)
      else if ucOpcodes.contains (bits w 31 26) then s
      else s.reading c (fetchReads c r) (fun s => s.ucAbort c r 3)

/-- MOV (R127). -/
def execMov (c : Nat) (s : State) : Out := .next (s.ucAlu c 0x01 false false false (fun _ _ a _ => a))
/-- ADD (R127). -/
def execAdd (c : Nat) (s : State) : Out := .next (s.ucAlu c 0x02 true false false (fun _ _ a b => a + b))
/-- SUB (R127). -/
def execSub (c : Nat) (s : State) : Out := .next (s.ucAlu c 0x03 true false false (fun _ _ a b => a - b))
/-- MUL (R123, R127). -/
def execMul (c : Nat) (s : State) : Out := .next (s.ucAlu c 0x04 true true true (fun w _ a b => ucShift w (a * b)))
/-- MAC (R123, R127). -/
def execMac (c : Nat) (s : State) : Out := .next (s.ucAlu c 0x05 true true true (fun w d a b => d + ucShift w (a * b)))
/-- MIN (R127). -/
def execMinOp (c : Nat) (s : State) : Out := .next (s.ucAlu c 0x06 true false false (fun _ _ a b => min a b))
/-- MAX (R127). -/
def execMaxOp (c : Nat) (s : State) : Out := .next (s.ucAlu c 0x07 true false false (fun _ _ a b => max a b))
/-- ABS (R127). -/
def execAbsOp (c : Nat) (s : State) : Out := .next (s.ucAlu c 0x08 false false false (fun _ _ a _ => a.natAbs))
/-- AND (R122, R127). -/
def execAndOp (c : Nat) (s : State) : Out := .next (s.ucBitwise c 0x09 (· &&& ·))
/-- OR (R122, R127). -/
def execOrOp (c : Nat) (s : State) : Out := .next (s.ucBitwise c 0x0A (· ||| ·))
/-- XOR (R122, R127). -/
def execXor (c : Nat) (s : State) : Out := .next (s.ucBitwise c 0x0B (· ^^^ ·))
/-- SHL (R127). -/
def execShl (c : Nat) (s : State) : Out := .next (s.ucAlu c 0x0C false true false (fun w _ a _ => a * 2 ^ bits w 6 2))
/-- SHR (R123, R127). -/
def execShr (c : Nat) (s : State) : Out := .next (s.ucAlu c 0x0D false true true (fun w _ a _ => ucShift w a))
/-- CLT (R126). -/
def execClt (c : Nat) (s : State) : Out := .next (s.ucCmp c 0x10 (fun a b => a < b))
/-- CLE (R126). -/
def execCle (c : Nat) (s : State) : Out := .next (s.ucCmp c 0x11 (fun a b => a ≤ b))
/-- CEQ (R126). -/
def execCeq (c : Nat) (s : State) : Out := .next (s.ucCmp c 0x12 (fun a b => a = b))
/-- MOVI (R127). -/
def execMovi (c : Nat) (s : State) : Out := .next (s.ucImm c 0x18 false (fun _ i => i))
/-- ADDI (R127). -/
def execAddi (c : Nat) (s : State) : Out := .next (s.ucImm c 0x19 true (fun a i => a + i))
/-- MULI (R127). -/
def execMuli (c : Nat) (s : State) : Out := .next (s.ucImm c 0x1A true (fun a i => rsr (a * i) 15))
/-- CLTI (R126). -/
def execClti (c : Nat) (s : State) : Out := .next (s.ucCmpI c 0x1B (fun a i => a < i))
/-- CGEI (R126). -/
def execCgei (c : Nat) (s : State) : Out := .next (s.ucCmpI c 0x1C (fun a i => i ≤ a))

/-- The table format's zero fields (R125). -/
def tblOk (w : Nat) : Bool := dOk w && predOk w && bits w 15 11 == 0 && bits w 6 4 == 0

/-- The word of table descriptor `n` (R133). -/
def State.tblDesc (s : State) (c n : Nat) : Nat := s.num (tableAddr c + 0x800 + 4 * n) 4

/-- Entry `j` of a table (R133). -/
def State.tblEntry (s : State) (c d j : Nat) : Nat := s.num (tableAddr c + 0x840 + 2 * (bits d 11 0 + j)) 2

/-- The descriptor may be used by an instruction that needs `kind` (R134). -/
def descOk (kind d : Nat) : Bool :=
  bitAt d 31 && bits d 29 28 == kind && (kind == 0 || (!bitAt d 30 && bits d 27 24 == 0)) &&
    bits d 23 12 != 0 && bits d 11 0 + bits d 23 12 ≤ 3040

/-- Indices of the entries that a lookup of `a` reads (R135). -/
def lutEntries (d : Nat) (a : Int) : List Nat :=
  let sh := bits d 27 24
  let len := bits d 23 12
  let i := asr a sh
  if i < 0 then [0] else if (len : Int) - 1 ≤ i then [len - 1]
  else if bitAt d 30 && 0 < a - i * 2 ^ sh then [i.toNat, i.toNat + 1] else [i.toNat]

/-- Words of the core's memories that a legal table instruction reads beyond its own and its parameter: the descriptor, and the
entries of the lanes that use it (R133 to R136, R141). -/
def State.tblReads (s : State) (c : Nat) (r : Run) (w d kind : Nat) (force : Bool) : List (Nat × Nat) :=
  let use := r.lanes.filter (fun l => if force then l.mask else l.runs w)
  let entries := fun (l : Lane) => if kind = 0 then lutEntries d (s.ucReg c r.model l (bits w 20 16)) else [min l.elapsed (bits d 23 12 - 1)]
  if force || !use.isEmpty then
    (tableAddr c + 0x800 + 4 * bits w 3 0, 4) ::
      (if descOk kind d then (use.flatMap entries).map (fun j => (tableAddr c + 0x840 + 2 * (bits d 11 0 + j), 2)) else [])
  else []

/-- A table instruction: the descriptor is checked when a lane executes (`force`: whenever the run reaches it). -/
def State.ucTable (s : State) (c op kind : Nat) (force : Bool) (legal : Nat → Bool) (f : State → Run → Nat → Nat → Lane → Lane) : State :=
  match s.ucFetch c with
  | none => s
  | some (r, w) =>
    if bits w 31 26 ≠ op then s
    else if !legal w then s.reading c (fetchReads c r) (fun s => s.ucAbort c r 3)
    else
      let d := s.tblDesc c (bits w 3 0)
      s.reading c (s.ucReads c r w ++ s.tblReads c r w d kind force) (fun s =>
        if (force || r.lanes.any (fun l => l.runs w)) && !descOk kind d then s.ucAbort c r 4
        else s.ucNext c { r with lanes := r.lanes.map (f s r w d) })

/-- The lookup of R135. -/
def State.lookup (s : State) (c d : Nat) (a : Int) : Int :=
  let sh := bits d 27 24
  let len := bits d 23 12
  let i := asr a sh
  let e := fun j => toSigned 16 (s.tblEntry c d j)
  if i < 0 then e 0
  else if (len : Int) - 1 ≤ i then e (len - 1)
  else
    let n := i.toNat
    let frac := a - i * 2 ^ sh
    if bitAt d 30 && 0 < frac then e n + asr ((e (n + 1) - e n) * frac) sh else e n

/-- The decay factor of a lane (R136). -/
def State.decayFactor (s : State) (c d : Nat) (l : Lane) : Int := s.tblEntry c d (min l.elapsed (bits d 23 12 - 1))

/-- LUT (R135). -/
def execLut (c : Nat) (s : State) : Out :=
  .next (s.ucTable c 0x20 0 false tblOk (fun s r w d l =>
    if l.runs w then l.put (bits w 25 21) (s.lookup c d (s.ucReg c r.model l (bits w 20 16))) else l))

/-- DECAY (R136). -/
def execDecay (c : Nat) (s : State) : Out :=
  .next (s.ucTable c 0x21 1 false tblOk (fun s r w d l =>
    if l.runs w then l.put (bits w 25 21) (rsr (s.ucReg c r.model l (bits w 20 16) * s.decayFactor c d l) 15) else l))

/-- TRACE in one lane (R141): X decays in every live lane, and adds the input where the predicate holds. -/
def State.traceLane (s : State) (c : Nat) (r : Run) (w d : Nat) (l : Lane) : Lane :=
  if !l.mask then l else
    let x := rsr (l.regs.getD 2 0 * s.decayFactor c d l) 15
    let l' := l.put 2 x
    if l.pred w then l'.put 2 (l'.regs.getD 2 0 + s.ucReg c r.model l (bits w 20 16)) else l'

/-- TRACE (R141, R349): posts one postsynaptic record per lane whose predicate holds, while learning is enabled. -/
def execTrace (c : Nat) (s : State) : Out :=
  .next <|
    let posts := match s.ucFetch c with
      | some (r, w) => (r.lanes.filter (fun l => l.runs w)).length
      | none => 0
    let ok := match s.ucFetch c with
      | some (_, w) => bits w 31 26 == 0x22 && tblOk w && bits w 25 21 == 0 && descOk 1 (s.tblDesc c (bits w 3 0))
      | none => false
    let s' := s.ucTable c 0x22 1 true (fun w => tblOk w && bits w 25 21 == 0) (fun s r w d l => s.traceLane c r w d l)
    if ok && s.learning (partOf c) then s'.bump48 (Reg.TMP_POSTSPK (partOf c)) posts else s'

/-- De-quantisation of an accumulator value through a channel word (R192, R193). -/
def dequant (ch : Nat) (a : Int) : Int := satS 32 (rsr (a * (bits ch 15 0 : Int)) (bits ch 21 16))

/-- The channel word of a core (R192). -/
def State.channel (s : State) (c ch : Nat) : Nat := s.num (tableAddr c + 0x400 + 4 * ch) 4

/-- RDA (R131). -/
def execRda (c : Nat) (s : State) : Out :=
  .next (s.ucLanes c 0x23 (fun w => dOk w && predOk w && bits w 20 18 == 0 && bits w 15 11 == 0 && bits w 6 1 == 0)
    (fun s _ w l =>
      if l.runs w then
        let n := bits w 17 16
        let a := l.acc.getD n 0
        let ch := (bits l.raw 123 116 + n / 2) % 256
        l.put (bits w 25 21) (if bitAt w 0 then a else dequant (s.channel c ch) a)
      else l))

/-- The lane values of GET (R129). -/
def laneValue (t sel : Nat) (r : Run) (l : Lane) : Nat :=
  match sel with
  | 0 => l.elapsed
  | 1 => l.ctx
  | 2 => t % 2 ^ 16
  | 3 => l.ctx % 4
  | 4 => bits l.raw 123 116
  | _ => r.model

/-- GET (R129). -/
def execGet (c : Nat) (s : State) : Out :=
  .next (s.ucLanes c 0x24 (fun w => dOk w && bits w 20 16 == 0 && bits w 15 0 ≤ 5)
    (fun s r w l => if l.mask then l.put (bits w 25 21) (laneValue (s.stepOf c) (bits w 15 0) r l) else l))

/-- SETQ (R142). -/
def execSetq (c : Nat) (s : State) : Out :=
  .next (s.ucLanes c 0x25 (fun w => bits w 25 11 == 0 && predOk w && bits w 6 1 == 0)
    (fun _ _ w l => if l.runs w then { l with q := bitAt w 0 } else l))

/-- A branch is taken (R130). -/
def brTaken (w : Nat) (r : Run) : Bool :=
  let live := r.lanes.filter (fun l => l.mask)
  let k := fun (l : Lane) => l.k.getD (bits w 17 16) false
  match bits w 19 18 with
  | 0 => true
  | 1 => live.any k
  | 2 => live.all k
  | _ => live.all (fun l => !k l)

/-- BR (R130). -/
def execBr (c : Nat) (s : State) : Out :=
  .next <| match s.ucFetch c with
    | none => s
    | some (r, w) =>
      if bits w 31 26 ≠ 0x28 then s
      else s.reading c (fetchReads c r) (fun s =>
        if bits w 25 20 ≠ 0 || bits w 15 11 ≠ 0 then s.ucAbort c r 3
        else if brTaken w r then s.ucGoto c r (bits w 10 0) else s.ucNext c r)

/-- Taps that count an emission of context `i` with tag `g` (R404). -/
def State.tapHits (s : State) (c i g : Nat) : List Nat :=
  ((s.core c).tapOn.filter (fun e =>
    bits e.2.1 12 0 ≤ i && i ≤ bits e.2.2 12 0 && g &&& bits e.2.1 25 21 == bits e.2.1 30 26 &&& bits e.2.1 25 21)).map (·.1)

/-- A tap count goes up; at 0xFFFF it stays and its SAT bit is set (R404). -/
def State.tapBump (s : State) (c n : Nat) : State :=
  let a := Reg.NCR_TAPCNT c n
  if s.rf a 15 0 = 0xFFFF then s.setBit a 16 else s.wf a 15 0 (s.rf a 15 0 + 1)

/-- Tap counts of one emission. -/
def State.tapCount (s : State) (c i g : Nat) : State := (s.tapHits c i g).foldl (fun s n => s.tapBump c n) s

/-- A packet that a core issues (R104, R137, R138): during replay the packets already sent are suppressed (R237); those of the
step that had not been sealed count as injected once more. -/
def State.issue (s : State) (c cls key payload : Nat) (step16 : Nat) (data : List Byte) : State :=
  let t := s.stepOf c
  match (s.core c).replay with
  | some (f, n, m) =>
    if stepGe f t then s
    else if t = (f + 1) % 2 ^ 32 && cls ≤ 2 && 0 < n then (s.wr (Reg.RTR_INJCNT c) (s.rd (Reg.RTR_INJCNT c) + 1)).setCore c { s.core c with replay := some (f, n - 1, m) }
    else if t = (f + 1) % 2 ^ 32 && 2 < cls && 0 < m then (s.wr (Reg.MSG_INJCNT c) (s.rd (Reg.MSG_INJCNT c) + 1)).setCore c { s.core c with sends := (s.core c).sends + 1, replay := some (f, n, m - 1) }
    else s.inject c cls key payload step16 t data
  | none => s.inject c cls key payload step16 t data

/-- The key of an emission (R104). -/
def State.emitKey (s : State) (c i tag : Nat) : Nat :=
  ((s.rd (Reg.NCR_KEYBASE c)).toNat ||| (i * 2 ^ s.rf (Reg.NCR_KEYCFG c) 4 0) % 2 ^ 32) ||| tag

/-- The emissions of the executing lanes, in lane order (R137). -/
def State.emitLanes (s : State) (c cls tag : Nat) (payload : Lane → Nat) : List Lane → State
  | [] => s
  | l :: ls =>
    let s := (s.issue c cls (s.emitKey c l.ctx tag) (payload l) (s.stepOf c % 2 ^ 16) []).tapCount c l.ctx tag
    emitLanes s c cls tag payload ls

/-- Flits in the outgoing buffer (R104). -/
def State.outFlits (s : State) (c : Nat) : Nat := s.wireFlits (8 * c + 4)

/-- An output instruction that sends one flit per executing lane: it stalls until the 64-flit buffer has room (R140). What it
reads, it reads in the cycle in which it completes. -/
def State.ucOut (s : State) (c op : Nat) (mine legal : Nat → Bool) (send : State → Run → Nat → List Lane → State) : State :=
  match s.ucFetch c with
  | none => s
  | some (r, w) =>
    if bits w 31 26 ≠ op || !mine w then s
    else if !legal w then s.reading c (fetchReads c r) (fun s => s.ucAbort c r 3)
    else
      let ls := r.lanes.filter (fun l => l.runs w)
      if ls.isEmpty then s.reading c (fetchReads c r) (fun s => s.ucNext c r)
      else if 64 < s.outFlits c + ls.length then s.ucStall c r
      else s.reading c (s.ucReads c r w) (fun s => (send s r w ls).ucNext c r)

/-- EMIT (R104, R137). -/
def execEmit (c : Nat) (s : State) : Out :=
  .next (s.ucOut c 0x30 (fun _ => true)
    (fun w => bits w 25 11 == 0 && predOk w && bits w 6 5 == 0)
    (fun s _ w ls => s.emitLanes c 0 (bits w 4 0) (fun _ => 0) ls))

/-- EMITG (R137): the payload is a saturated to 16 bits. -/
def execEmitg (c : Nat) (s : State) : Out :=
  .next (s.ucOut c 0x31 (fun _ => true)
    (fun w => bits w 25 21 == 0 && bits w 15 11 == 0 && predOk w && bits w 6 5 == 0)
    (fun s r w ls => s.emitLanes c 1 (bits w 4 0) (fun l => toPattern 16 (satS 16 (s.ucReg c r.model l (bits w 20 16)))) ls))

/-- The SUM packets of the executing lanes (R138). -/
def State.sumLanes (s : State) (c m w : Nat) : List Lane → State
  | [] => s
  | l :: ls =>
    sumLanes (s.issue c 2 (toPattern 32 (s.ucReg c m l (bits w 15 11))) (toPattern 32 (s.ucReg c m l (bits w 20 16)))
      (s.stepOf c % 2 ^ 16) []) c m w ls

/-- SEND with KIND 0 (R138): B names T0 to T7. -/
def execSendSum (c : Nat) (s : State) : Out :=
  .next (s.ucOut c 0x32 (fun w => !bitAt w 6)
    (fun w => bits w 25 21 == 0 && predOk w && !bitAt w 5 && 8 ≤ bits w 15 11 && bits w 15 11 ≤ 15)
    (fun s r w ls => s.sumLanes c r.model w ls))

/-- Slots of a send descriptor (R320): values above 16 are treated as 16. -/
def State.sdSlots (s : State) (land : Nat) : Nat := min 16 (s.rf land 27 23)

/-- A message leaves through a send descriptor whose four words lie from `sd` up (R320, R321, R322), with the given payload
flits, by `via`. -/
def State.sdSend (s : State) (sd : Nat) (data : List Byte) (via : State → Nat → Nat → Nat → List Byte → State) : State :=
  let land := sd + 4
  let st := sd + 12
  let slot := s.rf st 23 20
  let off := (s.rf land 14 4 + slot * min 32 (s.rf land 22 17)) * 16 % 2 ^ 15
  let pl := s.rf st 31 24 * 2 ^ 24 + sd / 32 % 32 * 2 ^ 19 + (if s.bit sd 17 then 0 else off)
  let s' := via s (s.rf sd 31 5 * 32) pl (s.rf land 31 28 * 2 ^ 12 + data.length / 16) data
  let s' := s'.wf st 31 24 ((s.rf st 31 24 + 1) % 256)
  let s' := s'.wf st 23 20 ((slot + 1) % max 1 (s.sdSlots land))
  ((s'.wf st 19 15 (s.rf st 19 15 + 1)).bump (sd + 16) 1)

/-- The message of the present instruction is suppressed during replay (R339): it takes no credit. -/
def State.msgSuppressed (s : State) (c : Nat) : Bool :=
  match (s.core c).replay with
  | some (f, _, m) => stepGe f (s.stepOf c) || (s.stepOf c == (f + 1) % 2 ^ 32 && 0 < m)
  | none => false

/-- SEND with KIND 1 (R139, R140): one message through the send descriptor that TAG names. -/
def execSendMessage (c : Nat) (s : State) : Out :=
  .next <| match s.ucFetch c with
    | none => s
    | some (r, w) =>
      let d := bits w 4 0
      let land := Reg.MSG_SDLAND c d
      if bits w 31 26 ≠ 0x32 || !bitAt w 6 then s
      else if bits w 25 21 ≠ 0 || !predOk w || bitAt w 5 || bits w 15 11 ≠ 0 || s.sdSlots land = 0 then
        s.reading c (fetchReads c r) (fun s => s.ucAbort c r 3)
      else if r.lanes.all (fun l => !l.runs w) then s.reading c (fetchReads c r) (fun s => s.ucNext c r)
      else
        let data := r.lanes.flatMap (fun l =>
          leBytes 4 (if l.runs w then toPattern 32 (s.ucReg c r.model l (bits w 20 16)) else 0))
        if s.msgSuppressed c then s.reading c (s.ucReads c r w) (fun s => (s.issue c 4 0 0 1 data).ucNext c r)
        else if 64 < s.outFlits c + 2 || s.sdSlots land ≤ s.rf (Reg.MSG_SDSTAT c d) 19 15 then
          (s.bump (Reg.MSG_SDSTALL c d) (if s.sdSlots land ≤ s.rf (Reg.MSG_SDSTAT c d) 19 15 then 1 else 0)).ucStall c r
        else s.reading c (s.ucReads c r w) (fun s => (s.sdSend (Reg.MSG_SDKEY c d) data
          (fun s key pl st data => s.inject c 4 key pl st (s.stepOf c) data)).ucNext c r)

/-- A run ends (R86, R109, R117, R149): write-back, and the run is counted; UPDATE ends when nothing is left to run (R106). -/
def State.endRun (s : State) (c : Nat) (r : Run) : State :=
  let n := r.cycles + 1
  let s := (s.writeLanes c (s.stepOf c) r.lanes).bump48 (Reg.NCR_RUNCNT c) 1
  let s := if s.rf (Reg.NCR_UCMAX c) 12 0 < n then s.wf (Reg.NCR_UCMAX c) 12 0 n else s
  let s := if r.lost then s.setBit (Reg.NCR_ERRSTAT c) 4 else s
  let s := s.setCore c { s.core c with run := none }
  if (s.core c).plan.isEmpty then s.updateDone c else s

/-- END (R117, R127). -/
def execEndRun (c : Nat) (s : State) : Out :=
  .next <| match s.ucFetch c with
    | none => s
    | some (r, w) =>
      if bits w 31 26 ≠ 0x3F then s
      else s.reading c (fetchReads c r) (fun s => if bits w 25 0 ≠ 0 then s.ucAbort c r 3 else s.endRun c r)

/-- UCLIMIT_EXPIRY (R103, R147): a run that has used its cycles aborts. -/
def execUclimitExpiry (c : Nat) (s : State) : Out :=
  .next <| match (s.core c).run with
    | some r => if s.phase c = 1 && !(s.core c).stopped && s.ucLimit c ≤ r.cycles then s.ucAbort c r 2 else s
    | none => s

end Sys2Proof.Machine
end

