-- ==== Sys2Proof/Machine/HostQueue.lean ====
section
/-! DEFINITION. Placing records into host queues and signalling the host (R430 to R433), which the Ladle does for requests,
for records of the system bus and for the records of the SMC. -/

namespace Sys2Proof.Machine

/-- A host queue's internal state. -/
def State.hq (s : State) (q : Nat) : HqInt := mapGet .init s.hqs q
/-- The state with a host queue's internal state replaced. -/
def State.setHq (s : State) (q : Nat) (x : HqInt) : State := { s with hqs := mapSet .init s.hqs q x }

/-- Storage of Ladle buffer slot `i` (R430): it has no device address, so it lies above the 40-bit space. -/
def ldlSlot (i : Nat) : Nat := 0x10000000000 + 64 * (i % 12288)

/-- Slots of a queue's local ring. -/
def State.hqSize (s : State) (q : Nat) : Nat := s.rf (Reg.LDL_HQLOCAL q) 14 0

/-- Records in a queue's local ring. -/
def State.hqCount (s : State) (q : Nat) : Nat := s.rf (Reg.LDL_HQLSTAT q) 14 0

/-- Storage of the `i`-th record of a queue, the oldest first. -/
def State.hqRec (s : State) (q i : Nat) : Nat :=
  ldlSlot (s.rf (Reg.LDL_HQLOCAL q) 29 16 + ((s.hq q).first + i) % max 1 (s.hqSize q))

/-- The count of local records changes by entering `inc` and removing `dec` records; peaks are kept. -/
def State.hqAdjust (s : State) (q inc dec : Nat) : State :=
  let n := s.hqCount q + inc - dec
  let s := s.wf (Reg.LDL_HQLSTAT q) 14 0 n
  let s := if s.rf (Reg.LDL_HQLSTAT q) 28 16 < n then s.wf (Reg.LDL_HQLSTAT q) 28 16 n else s
  let u := s.rf Reg.LDL_POOL 13 0 + inc - dec
  let s := s.wf Reg.LDL_POOL 13 0 u
  if s.rf Reg.LDL_POOL 29 16 < u then s.wf Reg.LDL_POOL 29 16 u else s

/-- The vector of a queue is sent (R433). -/
def State.hqSend (s : State) (q : Nat) : State :=
  let v := s.rf (Reg.LDL_HQCFG q) 10 0
  if 64 ≤ v && v ≤ 1023 then s.msix v else s.setBit Reg.LDL_ERRSTAT 4

/-- Records have entered the ring that the host watches (R433). -/
def State.hqEntered (s : State) (q n : Nat) : State :=
  let k := (s.hq q).since + n
  if s.bit (Reg.LDL_HQCFG q) 29 && max 1 (s.rf (Reg.LDL_HQCOAL q) 15 0) ≤ k then
    (s.setHq q { s.hq q with since := 0 }).hqSend q
  else s.setHq q { s.hq q with since := k }

/-- Records written behind the last of a queue. -/
def State.hqWrite (s : State) (q : Nat) : List (List Byte) → State
  | [] => s
  | r :: t => hqWrite ((s.store (s.hqRec q (s.hqCount q)) (fitBytes 64 r)).hqAdjust q 1 0) q t

/-- Records offered to a host queue (R430): the reply is 0 OK, 1 NOQUEUE or 4 FULL (R334). -/
def State.hqAccept (s : State) (q : Nat) (recs : List (List Byte)) : State × Nat :=
  if !s.bit (Reg.LDL_HQCFG q) 31 then (s.setBit Reg.LDL_ERRSTAT 3, 1)
  else if s.hqSize q < s.hqCount q + recs.length then
    ((s.bump (Reg.LDL_HQFULLCNT q) 1).setBit Reg.LDL_ERRSTAT 2, 4)
  else
    let s := (s.hqWrite q recs).bump (Reg.LDL_HQPLACED q) recs.length
    (if s.bit (Reg.LDL_HQCFG q) 30 then s else s.hqEntered q recs.length, 0)

/-- The oldest `n` records of a queue removed. -/
def State.hqDrop (s : State) (q n : Nat) : State :=
  (s.setHq q { s.hq q with first := ((s.hq q).first + n) % max 1 (s.hqSize q) }).hqAdjust q 0 n

/-- The bytes of `n` slots read from a queue: its `m` oldest records, then NONE records (R431). -/
def State.hqPeek (s : State) (q : Nat) : Nat → Nat → List Byte
  | _, 0 => []
  | i, n + 1 => (if i < s.hqCount q then s.bytes (s.hqRec q i) 64 else zeros 64) ++ hqPeek s q (i + 1) n

/-- The local ring of a queue emptied. -/
def State.hqClear (s : State) (q : Nat) : State := (s.hqAdjust q 0 (s.hqCount q)).setHq q .init

end Sys2Proof.Machine
end

