-- ==== Sys2Proof/Config.lean ====
section
/-! DEFINITION. What one implementation fixes and the spec leaves open, and the free values: constants without a body, so no
proof can see what they are. A function of a draw number answers a fresh value for each draw (State.draws counts them). -/

namespace Sys2Proof.Config

/-- FREE VALUE: 32 bytes drawn from the random source of the SEC block (R513), draw `n`. -/
opaque randomByte : Nat → Nat → BitVec 8

/-- FREE VALUE: a number that the spec leaves open, draw `n`. Its use is named where it is drawn. -/
opaque freeNat : Nat → Nat

/-- Size in bytes of the boot flash, which the SMC reads from the flash itself (R58). -/
opaque flashSize : Nat

/-- Tags of the settings records that an image's schema version marks as required (R62), which the spec does not list. -/
opaque requiredTags : Nat → Nat → List Nat

/-- FREE VALUE: the descriptor number that the SMC's messages carry (R322), which the spec does not give. -/
opaque smcDesc : Nat

/-- What SMC firmware reads from the payload of a message of another device's SMC (R466, R600), whose layout the spec does not
give: a list of numbers, empty for a message that it does not know. -/
opaque smcRead : Nat → List Byte → List Nat

/-- The message type and payload under which SMC firmware sends such a list of numbers. -/
opaque smcBody : List Nat → Nat × List Byte

/-- What a management record of 16 bytes says (R456, R464), whose layout the spec does not give; empty for one not known. -/
opaque mgmtRead : List Byte → List Nat

/-- The management record that says a list of numbers. -/
opaque mgmtBody : List Nat → List Byte

end Sys2Proof.Config
end

