-- ==== Sys2Proof/Machine/Sha.lean ====
section
/-! DEFINITION. SHA-256 (FIPS 180-4) and the verification of ECDSA over P-256 (FIPS 186-4), which R53, R55, R510, R514 and
R577 name. -/

namespace Sys2Proof.Machine

/-- The words of a number of `n` words, the first the highest. -/
def wordsOf (x n : Nat) : List Nat := (List.range n).map (fun i => x / 2 ^ (32 * (n - 1 - i)) % 2 ^ 32)

/-- The 64 round constants in one number: the first 32 fraction bits of the cube roots of the first 64 primes
(`Sys2Proof.Laws.shaRound_roots`). -/
def shaRoundBits : Nat :=
  0x428a2f9871374491b5c0fbcfe9b5dba53956c25b59f111f1923f82a4ab1c5ed5d807aa9812835b01243185be550c7dc372be5d7480deb1fe9bdc06a7c19bf174e49b69c1efbe47860fc19dc6240ca1cc2de92c6f4a7484aa5cb0a9dc76f988da983e5152a831c66db00327c8bf597fc7c6e00bf3d5a7914706ca63511429296727b70a852e1b21384d2c6dfc53380d13650a7354766a0abb81c2c92e92722c85a2bfe8a1a81a664bc24b8b70c76c51a3d192e819d6990624f40e3585106aa07019a4c1161e376c082748774c34b0bcb5391c0cb34ed8aa4a5b9cca4f682e6ff3748f82ee78a5636f84c878148cc7020890befffaa4506cebbef9a3f7c67178f2

/-- The initial hash value in one number: the same of the square roots of the first 8 primes (`Sys2Proof.Laws.shaStart_roots`). -/
def shaStartBits : Nat := 0x6a09e667bb67ae853c6ef372a54ff53a510e527f9b05688c1f83d9ab5be0cd19

/-- Rotation right of a 32-bit word. -/
def rotr (x n : Nat) : Nat := x / 2 ^ n + x % 2 ^ n * 2 ^ (32 - n)

/-- The large sigmas: three rotations of a word. -/
def sigmaUp (i j k x : Nat) : Nat := rotr x i ^^^ rotr x j ^^^ rotr x k

/-- The small sigmas: two rotations and a shift. -/
def sigmaLow (i j k x : Nat) : Nat := rotr x i ^^^ rotr x j ^^^ x / 2 ^ k

/-- The next `n` words of the message schedule, whose 16 latest words are `w`, the oldest first. -/
def shaWords : Nat → List Nat → List Nat
  | 0, _ => []
  | n + 1, w =>
    let x := fun i => w.getD i 0
    x 0 :: shaWords n (w.drop 1 ++ [(x 0 + sigmaLow 7 18 3 (x 1) + x 9 + sigmaLow 17 19 10 (x 14)) % 2 ^ 32])

/-- One round with the sum of its constant and its schedule word: the working variables are a to d and e to h. -/
def shaRound (v : List Nat × List Nat) (kw : Nat) : List Nat × List Nat :=
  let a := fun i => v.1.getD i 0
  let e := fun i => v.2.getD i 0
  let t := e 3 + sigmaUp 6 11 25 (e 0) + ((e 1 ^^^ e 2) &&& e 0 ^^^ e 2) + kw
  let u := sigmaUp 2 13 22 (a 0) + ((a 0 &&& a 1) ||| (a 2 &&& (a 0 ||| a 1)))
  (((t + u) % 2 ^ 32 :: v.1).take 4, ((a 3 + t) % 2 ^ 32 :: v.2).take 4)

/-- The hash value `h` after one block of 64 bytes. -/
def shaBlock (ks h : List Nat) (blk : List Byte) : List Nat :=
  let w := shaWords 64 ((List.range 16).map (fun i => beNat ((blk.drop (4 * i)).take 4)))
  let v := (List.zipWith (· + ·) ks w).foldl shaRound (h.take 4, h.drop 4)
  List.zipWith (fun x y => (x + y) % 2 ^ 32) h (v.1 ++ v.2)

/-- The hash value after `n` blocks. -/
def shaBlocks (ks : List Nat) : Nat → List Nat → List Byte → List Nat
  | 0, h, _ => h
  | n + 1, h, bs => shaBlocks ks n (shaBlock ks h (bs.take 64)) (bs.drop 64)

/-- The padded message. -/
def shaPad (bs : List Byte) : List Byte :=
  bs ++ 0x80 :: (zeros ((119 - bs.length % 64) % 64) ++ beBytes 8 (8 * bs.length))

/-- The SHA-256 of a byte list, 32 bytes. -/
def sha256 (bs : List Byte) : List Byte :=
  let m := shaPad bs
  (shaBlocks (wordsOf shaRoundBits 64) (m.length / 64) (wordsOf shaStartBits 8) m).flatMap (beBytes 4)

/-- The prime of P-256. -/
def p256P : Nat := 0xffffffff00000001000000000000000000000000ffffffffffffffffffffffff
/-- The order of P-256. -/
def p256N : Nat := 0xffffffff00000000ffffffffffffffffbce6faada7179e84f3b9cac2fc632551
/-- The coefficient b of P-256. -/
def p256B : Nat := 0x5ac635d8aa3a93e7b3ebbd55769886bc651d06b0cc53b0f63bce3c3e27d2604b
/-- The base point of P-256. -/
def p256G : Nat × Nat :=
  (0x6b17d1f2e12c4247f8bce6e563a440f277037d812deb33a0f4a13945d898c296,
   0x4fe342e2fe1a7f9b8ee7eb4a7c0f9e162bce33576b315ececbb6406837bf51f5)

/-- `x ^ e` modulo `m`, over the low `fuel` bits of `e`. -/
def powMod (m : Nat) : Nat → Nat → Nat → Nat
  | 0, _, _ => 1
  | fuel + 1, x, e => (if e % 2 = 1 then x else 1) * powMod m fuel (x * x % m) (e / 2) % m

/-- Inverse modulo a prime. -/
def invMod (m x : Nat) : Nat := powMod m 256 (x % m) (m - 2)

/-- Sum of two points; `none` is the point at infinity. -/
def ecAdd (a b : Option (Nat × Nat)) : Option (Nat × Nat) :=
  match a, b with
  | none, q => q
  | q, none => q
  | some (x1, y1), some (x2, y2) =>
    let p := p256P
    if x1 = x2 && (y1 + y2) % p = 0 then none
    else
      let l := if x1 = x2 then (3 * x1 * x1 + (p - 3)) * invMod p (2 * y1) % p
               else (y2 + p - y1) * invMod p (x2 + p - x1) % p
      let x3 := (l * l + 2 * p - x1 - x2) % p
      some (x3, (l * (x1 + p - x3) + p - y1) % p)

/-- `k` times a point, over the low `fuel` bits of `k`. -/
def ecMul : Nat → Nat → Option (Nat × Nat) → Option (Nat × Nat)
  | 0, _, _ => none
  | fuel + 1, k, q => ecAdd (if k % 2 = 1 then q else none) (ecMul fuel (k / 2) (ecAdd q q))

/-- A signature verifies: public key PUB_X and PUB_Y, the hash value used directly (R55), SIG_R and SIG_S, all big-endian. -/
def ecdsaOk (pub hash sig : List Byte) : Bool :=
  let x := beNat (pub.take 32)
  let y := beNat ((pub.drop 32).take 32)
  let r := beNat (sig.take 32)
  let t := beNat ((sig.drop 32).take 32)
  let w := invMod p256N t
  x < p256P && y < p256P && y * y % p256P == (x * x * x + (p256P - 3) * x + p256B) % p256P &&
    0 < r && r < p256N && 0 < t && t < p256N &&
    match ecAdd (ecMul 256 (beNat hash * w % p256N) (some p256G)) (ecMul 256 (r * w % p256N) (some (x, y))) with
    | none => false
    | some (px, _) => px % p256N == r

end Sys2Proof.Machine
end

