-- ==== Sys2Proof/Machine/Security.lean ====
section
/-! DEFINITION. The SEC block (R510 to R521): sessions, key slots and the lockout. A command row is a write to SEC_CMD. -/

namespace Sys2Proof.Machine


/-- The state with the SEC block's internal state replaced. -/
def State.setSec (s : State) (x : SecInt) : State := { s with sec := x }

/-- SEC_RESULT with a result, not busy. -/
def State.secResult (s : State) (r : Nat) : State := s.wr Reg.SEC_RESULT (BitVec.ofNat 32 r)

/-- Number of a key slot: installer 0 to 3, maker 4 and 5. -/
def keySlot (role slot : Nat) : Nat := if role = 2 then 4 + slot else slot

/-- ROLE and SLOT name a key slot (SEC_CMD). -/
def keyNamed (role slot : Nat) : Bool := (role = 1 && slot ≤ 3) || (role = 2 && slot ≤ 1)

/-- State of a key slot: 0 EMPTY, 1 PROGRAMMED, 2 REVOKED, 3 DAMAGED (SEC_OTP). -/
def State.slotState (s : State) (k : Nat) : Nat := s.rf Reg.SEC_OTP (2 * k + 1) (2 * k)

/-- The state with a slot's state set, and PROVISION formed from the maker slots (R511). -/
def State.setSlot (s : State) (k v : Nat) : State :=
  let s := s.wf Reg.SEC_OTP (2 * k + 1) (2 * k) v
  s.wf Reg.SEC_STAT 24 24 (if s.slotState 4 = 0 && s.slotState 5 = 0 then 1 else 0)

/-- Byte `i` of the response buffer. -/
def State.respBytes (s : State) (lo n : Nat) : List Byte :=
  (((List.range 32).flatMap (fun i => leBytes 4 (s.rd (Reg.SEC_RESP i)).toNat)).drop lo).take n

/-- The response buffer cleared. -/
def State.clearResp (s : State) : State := (List.range 32).foldl (fun s i => s.wr (Reg.SEC_RESP i) 0) s

/-- The nonce registers written with 32 bytes. -/
def State.putNonce (s : State) (bs : List Byte) : State :=
  (List.range 8).foldl (fun s i => s.wr (Reg.SEC_NONCE i) (BitVec.ofNat 32 (leNat ((bs.drop (4 * i)).take 4)))) s

/-- The pending nonce consumed or discarded. -/
def State.dropNonce (s : State) : State := (s.putNonce []).setSec { s.sec with nonce := none }

/-- First 8 bytes of a slot's key hash. -/
def State.keyTag (s : State) (k : Nat) : List Byte := (beBytes 32 (mapGet 0 s.sec.hashes k)).take 8

/-- The session ends with a cause (R515): recorded, and a maker session's indication to the partition falls. -/
def State.endSession (s : State) (src : Src) (cause : Nat) : State :=
  let role := s.rf Reg.SEC_STAT 31 30
  if role = 0 then s
  else
    let s' := s.secLog ⟨2, role, srcCode src, s.rf Reg.SEC_STAT 29 27, 0, cause, leBytes 8 ((s.time - s.sec.opened) / 1000000)⟩
    ((s'.wf Reg.SEC_STAT 31 27 0).wf Reg.SEC_STAT 15 0 0).wf Reg.VRN_STAT 27 27 0

/-- Fields that a SEC_CMD word carries. -/
def secWord (cmd role slot : Nat) : Nat := cmd * 2 ^ 24 + role % 4 * 2 ^ 16 + slot % 8

/-- A write to SEC_CMD: only the PCIe function may write it (R513), nothing runs while a key is written (R512), and a
write restarts the idle count (R515). -/
def State.secCmd (s : State) (src : Src) (word : Nat) (go : State → State) : State :=
  s.cmdAt src Reg.SEC_CMD (fun s =>
    if src ≠ .pcie then (s.secResult 9).logRefusal src 9 Reg.SEC_CMD word
    else if s.bit Reg.SEC_RESULT 31 then s.wf Reg.SEC_RESULT 7 0 1
    else go s.touchSession)

/-- The random source's next 32 bytes (R513). -/
def freshNonce (draw : Nat) : List Byte := (List.range 32).map (Config.randomByte draw)

/-- CHALLENGE (R513, R516). -/
def execChallenge (src : Src) (role slot : Nat) (s : State) : Out :=
  .next <| s.secCmd src (secWord 1 role slot) (fun s =>
    if s.bit Reg.SEC_STAT 25 then s.secResult 6
    else if !keyNamed role slot then s.secResult 4
    else
      let s' := (s.putNonce (freshNonce s.draws)).draw
      (s'.setSec { s'.sec with nonce := some (role, slot, s.time) }).secResult 0)

/-- The 48-byte challenge block (R514). -/
def State.challengeBlock (s : State) (role slot : Nat) : List Byte :=
  [0x4B, 0x53, 0x45, 0x53] ++ leBytes 1 role ++ leBytes 1 slot ++ leBytes 2 0 ++ leBytes 8 s.sec.serial ++
    (List.range 8).flatMap (fun i => leBytes 4 (s.rd (Reg.SEC_NONCE i)).toNat)

/-- A key and signature that a PROGRAMMED slot authenticates over a hash value (R55, R514, R577). -/
def State.keyMatches (s : State) (k : Nat) (pub : List Byte) : Bool :=
  s.slotState k == 1 && beNat (sha256 pub) == mapGet 0 s.sec.hashes k

/-- Result of a VERIFY (R514): 0, or the first test that fails. -/
def State.verifyResult (s : State) : Nat :=
  match s.sec.nonce with
  | none => 3
  | some (role, slot, t) =>
    if 10000000000 < s.time - t then 3
    else if !s.keyMatches (keySlot role slot) (s.respBytes 0 64) then 4
    else if role = 2 && !s.bit Reg.SEC_STAT 26 then 7
    else if !ecdsaOk (s.respBytes 0 64) (sha256 (s.challengeBlock role slot)) (s.respBytes 64 64) then 5
    else 0

/-- A failed VERIFY (R516, R521): counted and logged; the fifth in a row starts the lockout. -/
def State.verifyFailed (s : State) (src : Src) (role slot r : Nat) : State :=
  let s := (s.bump Reg.SEC_FAILCNT 1).secLog ⟨3, s.session src, srcCode src, slot, r, role, []⟩
  if s.sec.fails + 1 = 5 then
    ((s.setSec { s.sec with fails := 0 }).setBit Reg.SEC_STAT 25).secLog ⟨4, s.session src, srcCode src, 0xFF, 0, 0, []⟩
  else s.setSec { s.sec with fails := s.sec.fails + 1 }

/-- A session opens (R513): the previous one ends with cause REPLACED. -/
def State.openSession (s : State) (src : Src) (role slot : Nat) : State :=
  let s := s.endSession src 6
  let s := ((s.wf Reg.SEC_STAT 31 30 role).wf Reg.SEC_STAT 29 27 slot).wf Reg.SEC_STAT 15 0 s.idleLimit
  let s := s.setSec { s.sec with fails := 0, opened := s.time }
  let s := if role = 2 then s.setBit Reg.VRN_STAT 27 else s
  s.secLog ⟨1, role, srcCode src, slot, 0, role, s.keyTag (keySlot role slot)⟩

/-- VERIFY (R513, R514). -/
def execVerifySession (src : Src) (s : State) : Out :=
  .next <| s.secCmd src (secWord 2 0 0) (fun s =>
    let r := s.verifyResult
    let (role, slot) := match s.sec.nonce with | some (a, b, _) => (a, b) | none => (0, 0xFF)
    let s := (s.dropNonce.clearResp).secResult r
    if r = 0 then s.openSession src role slot else s.verifyFailed src role slot r)

/-- CLOSE (R515). -/
def execCloseSession (src : Src) (s : State) : Out :=
  .next <| s.secCmd src (secWord 3 0 0) (fun s => (s.endSession src 1).secResult 0)

/-- A key command that its sender has no right to (R508, R511). -/
def State.secDenied (s : State) (src : Src) (word : Nat) : State := (s.secResult 2).logRefusal src 2 Reg.SEC_CMD word

/-- Programming of a slot begins with the hash of the response buffer (R511, R512). -/
def State.programKey (s : State) (k : Nat) : State :=
  let h := beNat (s.respBytes 0 32)
  ((s.clearResp).setSec { s.sec with prog := some (k, h) }).wr Reg.SEC_RESULT (BitVec.ofNat 32 (2 ^ 31))

/-- PROG_KEY (R511): an EMPTY slot, in a maker session; maker slot 0 is only provisioned. -/
def execProgKey (src : Src) (role slot : Nat) (s : State) : Out :=
  .next <| s.secCmd src (secWord 4 role slot) (fun s =>
    if s.session src ≠ 2 || (role = 2 && slot = 0) then s.secDenied src (secWord 4 role slot)
    else if !keyNamed role slot then s.secResult 4
    else if s.slotState (keySlot role slot) ≠ 0 then s.clearResp.secResult 8
    else s.programKey (keySlot role slot))

/-- REVOKE_KEY (R511, R512): a maker session cannot revoke its own slot. -/
def execRevokeKey (src : Src) (role slot : Nat) (s : State) : Out :=
  .next <| s.secCmd src (secWord 5 role slot) (fun s =>
    if s.session src ≠ 2 || (role = 2 && slot = s.rf Reg.SEC_STAT 29 27) then s.secDenied src (secWord 5 role slot)
    else if !keyNamed role slot then s.secResult 4
    else (s.setSec { s.sec with revoke := some (keySlot role slot) }).wr Reg.SEC_RESULT (BitVec.ofNat 32 (2 ^ 31)))

/-- PROV_MAKER (R511): without a session, while both maker slots are EMPTY and SEAL_N is low. -/
def execProvMaker (src : Src) (s : State) : Out :=
  .next <| s.secCmd src (secWord 6 0 0) (fun s =>
    if !s.bit Reg.SEC_STAT 24 then s.secDenied src (secWord 6 0 0)
    else if !s.bit Reg.SEC_STAT 26 then s.secResult 7
    else s.programKey 4)

/-- KEY_PROGRAM_DONE (R512): the slot reads back PROGRAMMED, or is DAMAGED. -/
def execKeyProgramDone (good : Bool) (s : State) : Out :=
  .next <| match s.sec.prog with
    | none => s
    | some (k, h) =>
      let s := s.setSec { s.sec with prog := none, hashes := mapSet 0 s.sec.hashes k h }
      let s := (s.setSlot k (if good then 1 else 3)).secResult (if good then 0 else 8)
      s.secLog ⟨0x20, s.session .pcie, 0, s.sessSlot .pcie, if good then 0 else 8, k, s.keyTag k⟩

/-- KEY_REVOKE_DONE (R512): a session opened through the slot ends with cause REVOKED. -/
def execKeyRevokeDone (good : Bool) (s : State) : Out :=
  .next <| match s.sec.revoke with
    | none => s
    | some k =>
      let s := s.setSec { s.sec with revoke := none }
      if !good then s.secResult 8
      else
        let s := ((s.setSlot k 2).secResult 0).secLog ⟨0x21, s.session .pcie, 0, s.sessSlot .pcie, 0, k, []⟩
        let role := s.rf Reg.SEC_STAT 31 30
        if role ≠ 0 && keySlot role (s.rf Reg.SEC_STAT 29 27) = k then s.endSession .smc 5 else s

/-- SESSION_IDLE_TIMEOUT (R515). -/
def execSessionIdleTimeout (s : State) : Out := .next (s.endSession .smc 2)

/-- SEC_SEAL_CHANGE (R515, R519): the level of SEAL_N after its filter. -/
def execSecSealChange (closed : Bool) (s : State) : Out :=
  .next <|
    if s.bit Reg.SEC_STAT 26 == !closed then s
    else
      let s := s.wf Reg.SEC_STAT 26 26 (if closed then 0 else 1)
      let s := s.secLog ⟨0x31, 0, 2, 0xFF, 0, if closed then 1 else 0, []⟩
      if closed && s.rf Reg.SEC_STAT 31 30 = 2 then s.endSession .smc 4 else s

/-- LOCKOUT_EXPIRY (R516). -/
def execLockoutExpiry (s : State) : Out := .next (s.wf Reg.SEC_STAT 25 25 0)

end Sys2Proof.Machine
end

