-- ==== Sys2Proof/Machine/Power.lean ====
section
/-! DEFINITION. Power domains (R522 to R548): targets, requests and transitions, operating points, a domain's loss of
contents, failed domains and Safe state. -/

namespace Sys2Proof.Machine

/-- Kind of a domain with points: 0 core row, 1 router, 2 vault, 3 none. -/
def domKind (d : Nat) : Nat := if d < 128 then 0 else if d < 144 then 1 else if d < 160 then 2 else 3

/-- Partition of a core-row, router or vault domain. -/
def domPart (d : Nat) : Nat := if d < 128 then d / 8 else d % 16

/-- Clock of a domain at a point in MHz (R528, R529). -/
def domMhz (d pt : Nat) : Nat :=
  match domKind d with
  | 0 => [1200, 1000, 800, 400].getD pt 0
  | 1 => [1000, 800, 500].getD pt 0
  | 2 => [1200, 1000, 600].getD pt 0
  | _ => if d < 164 then 800 else if d < 167 then 600 else if d < 175 then 1000 else 400

/-- Voltage of a domain at a point in mV (R528, R529). -/
def domMv (d pt : Nat) : Nat :=
  match domKind d with
  | 0 => [800, 720, 650, 580].getD pt 0
  | 1 => [750, 680, 600].getD pt 0
  | 2 => [800, 720, 620].getD pt 0
  | _ => 750

/-- State of the run (SMC_RUNSTAT.STATE): 0 IDLE, 1 LOADED, 2 RUNNING, 3 HOLDING, 4 HELD, 5 STOPPED. -/
def State.runState (s : State) : Nat := s.rf Reg.SMC_RUNSTAT 31 29

/-- A prepared change begins or continues the run (R535). -/
def State.startsRun (s : State) : Bool :=
  match s.runc.change with
  | some ch => ch.kinds.any (fun k => match k with | .start => true | .resume => true | .step _ => true | _ => false)
  | none => false

/-- Number of run profiles of the plan in force. -/
def State.nprof (s : State) : Nat := if s.img.plan.isEmpty then 1 else (s.img.plan.getD 1 0).toNat

/-- Byte of the plan table in force for a domain (R533, R535); without a plan every domain is ON with IDLE at point 0. -/
def State.planByte (s : State) (d : Nat) : Nat :=
  let n := s.nprof
  let tab := if s.startsRun || s.runState = 2 || s.runState = 3 then s.rf Reg.PWR_DEVSTAT 15 14
             else if s.runState = 4 then n else n + 1
  if s.img.plan.isEmpty then 0 else (s.img.plan.getD (8 + 192 * tab + d) 0).toNat

/-- The grade's top point (R530). -/
def State.gradeTop (s : State) : Nat :=
  let m := s.rf Reg.SYS_CAPS 23 12
  if 1200 ≤ m then 0 else if 1000 ≤ m then 1 else 2

/-- Rank of a core row (R538). -/
def rowRank (d : Nat) : Nat := 16 * (d % 8) + d / 8

/-- Demotion of a core row by the limiter (R538). -/
def State.demotion (s : State) (d : Nat) : Nat := (s.rf Reg.PWR_LIMSTAT 31 23 + rowRank d) / 128

/-- A thermal trip or a power-fail holds. -/
def State.emergency (s : State) : Bool := s.bit Reg.PWR_DEVSTAT 26 || s.bit Reg.PWR_DEVSTAT 28

/-- Point that a domain should run at (R530, R538); P3, N0 and M0 during a start and without an image (R561). -/
def State.wantPoint (s : State) (d : Nat) : Nat :=
  let idle := !s.bit Reg.RST_STAT 27 || s.runState = 0
  let plan := bits (s.planByte d) 5 4
  match domKind d with
  | 0 =>
    if s.emergency || idle then 3 else
      let warm := if s.bit Reg.PWR_DEVSTAT 27 then min 3 (s.gradeTop + 1) else 0
      min 3 (max (max s.gradeTop (s.rf Reg.PWR_CEIL 17 16)) (max plan warm) + s.demotion d)
  | 1 => if s.emergency then 2 else if idle then 0 else plan
  | 2 => if s.emergency then 2 else if idle then 0 else plan
  | _ => 0

/-- Stage of the start from which a domain is awake (R561). -/
def startStage (d : Nat) : Nat :=
  if d < 128 then 7 else if d < 144 then 3 else if d < 160 then 5
  else if d = 162 then 4 else if d = 163 then 9 else if d < 163 then 1 else if d < 167 then 9 else if d < 175 then 6 else 1

/-- The state that a device power state command is bringing about, or the present one (R551). -/
def State.devState (s : State) : Nat := s.pwr.goal.getD (s.rf Reg.PWR_DEVSTAT 31 30)

/-- A partition is in an epoch-end pass, or its learned state is still to be copied by a save (R373, R376): its domains stay on. -/
def State.partWorks (s : State) (p : Nat) : Bool := s.rf (Reg.TMP_STAT p) 31 29 != 0 || (s.keep.busy && s.keep.left.contains p)

/-- State that a domain should be in, in the encoding of R533 (R535, R549, R551, R650). -/
def State.wantState (s : State) (d : Nat) : Nat :=
  let st := s.rf Reg.RST_STAT 31 28
  let line := 163 ≤ d && d < 175
  if s.bit Reg.PWR_DEVSTAT 28 && line then 3
  else if s.devState = 2 then (if d = 160 then 0 else 3)
  else if s.devState = 1 then
    (if d < 160 then (if s.partWorks (domPart d) || (s.bit Reg.PWR_DEVSTAT 28 && (d < 128 || 144 ≤ d)) then 0 else if s.domState d = 3 then 3 else 2)
     else if d = 160 || d = 161 || d = 162 || (d = 175 && (s.bit Reg.PWR_DEVSTAT 28 || s.keep.busy || s.keep.due)) then 0 else 3)
  else if !s.bit Reg.RST_STAT 27 then
    (if st = 0xB then (if d = 161 || d = 162 || d = 175 then 0 else 3)
     else if startStage d ≤ st && 4 ≤ s.rst.rel && (128 ≤ d || st ≠ 7 || 1 ≤ s.rst.wave) then 0 else if d = 161 && 3 ≤ s.rst.rel then 0 else 3)
  else if d < 160 && s.recovering (domPart d) then 0
  else if s.runState = 0 || (d < 160 && s.partWorks (domPart d)) then 0
  else bits (s.planByte d) 7 6

/-- The setpoint that the highest voltage of the plan and the ceilings asks for (R532). -/
def State.vcoreNeed (s : State) : Nat :=
  50 + ((List.range 160).map (fun d =>
    if s.wantState d ≤ 1 then domMv d (match domKind d with | 0 => max s.gradeTop (max (s.rf Reg.PWR_CEIL 17 16) (bits (s.planByte d) 5 4)) | _ => s.wantPoint d)
    else 0)).foldl max 750

/-- The SMC raises the setpoint before it permits a higher point (R532); with PWR_PMBCFG.EN 0 the board supplies 0.85 V. -/
def State.raiseVcore (s : State) : State :=
  let need := if s.bit Reg.PWR_PMBCFG 31 then s.vcoreNeed else 850
  if s.rf Reg.PWR_VCORE 15 0 < need then s.wf Reg.PWR_VCORE 15 0 need else s

/-- Bits of PWR_IRQSTAT become set (R554): vector 3 when an enabled bit does. -/
def State.pwrIrq (s : State) (i : Nat) : State :=
  let s' := s.setBit Reg.PWR_IRQSTAT i
  if !s.bit Reg.PWR_IRQSTAT i && s.bit Reg.PWR_IRQEN i then s'.msix 3 else s'

/-- Registers of an address range put back to their reset values, but for bits held in MRAM (R580). -/
def resetRegs (m : List (Nat × Word)) (lo hi : Nat) : List (Nat × Word) :=
  m.filterMap (fun e =>
    if e.1 < lo || hi ≤ e.1 then some e
    else match regRow e.1 with
      | none => none
      | some r =>
        let v := BitVec.ofNat 32 (e.2.toNat &&& r.mram ||| (r.reset - (r.reset &&& r.mram)))
        if v = BitVec.ofNat 32 r.reset then none else some (e.1, v))

/-- The state without the contents of an address range: registers reset, storage unwritten. -/
def State.wipe (s : State) (lo hi : Nat) : State :=
  { s with regs := resetRegs s.regs lo hi, mem := mapClear s.mem lo hi, upsets := mapClear s.upsets lo hi,
           poison := mapClear s.poison lo hi }

/-- A core loses its contents. -/
def State.wipeCore (s : State) (c : Nat) : State := (s.wipe (coreWin c) (coreWin c + 0x400000)).setCore c .init

/-- A router and what waits to enter it are lost; a pass-through router is node 1024 + PCN. -/
def State.wipeNode (s : State) (n : Nat) : State :=
  let s := (s.wipe (rtrWin n) (rtrWin n + 0x10000)).setRouter n .init
  { s with wires := mapClear s.wires (8 * n) (8 * n + 8), credits := mapClear s.credits (64 * n) (64 * n + 64),
           owed := mapClear s.owed (64 * n) (64 * n + 64) }

/-- A logical router and its network interface are lost. -/
def State.wipeRouter (s : State) (c : Nat) : State := (s.wipeNode c).setPort c .init

/-- Nodes of the pass-through routers that a partition may have: its 72 physical cores (R7). -/
def passNodes (p : Nat) : List Nat :=
  (List.range 72).map (fun k => 1024 + 36 * (8 * (p / 4) + k / 9) + 9 * (p % 4) + k % 9)

/-- Contents of a domain are lost (R525): a domain that goes OFF is reset (R557). -/
def State.loseDomain (s : State) (d : Nat) : State :=
  if d < 128 then ((List.range 8).map (fun k => lcnOf (d / 8) (d % 8 * 8 + k))).foldl State.wipeCore s
  else if d < 144 then (passNodes (d - 128)).foldl State.wipeNode (((List.range 64).map (lcnOf (d - 128))).foldl State.wipeRouter s)
  else if d < 160 then
    let p := d - 144
    let x : VaultInt := mapGet .init s.vaults p
    let y : VaultInt := { VaultInt.init with spares := x.spares, cols := x.cols }
    let s := { (s.wipe (vltWin p) (vltWin p + 0x2000000)).wipe (hiddenReserve p) (hiddenReserve p + 0x10000) with vaults := mapSet .init s.vaults p y }
    s.setTemper p .init
  else if d = 161 then (s.wipe 0x2000 0x6000).wipe smcSram (smcSram + 0x200000)
  else if d = 162 then { (s.wipe 0x1000000 0x2000000).wipe 0x10000000000 0x100000C0000 with cfg := [], hqs := [], ldl := .init }
  else if d = 163 then { s.wipe 0x2000000 0x3000000 with tnd := .init }
  else if 167 ≤ d && d < 175 then s.wipe (0x3000100 + 0x40 * (d - 167)) (0x3000140 + 0x40 * (d - 167))
  else s

/-- Island clock of a domain as CLK_ISLn shows it: locked at a clock, or stopped. -/
def State.setClock (s : State) (d : Nat) (on : Bool) (pt : Nat) : State :=
  if d = 160 then s else s.wr (Reg.CLK_ISL d) (BitVec.ofNat 32 (if on then 2 ^ 31 + domMhz d pt else 0))

/-- PWR_DnSTAT.STATE of a domain set. SMC_MODEEXP follows the 64 logical routers of a router domain that go out of service or return
to it; it reads 0 without an image (R226, R238). -/
def State.setDomState (s : State) (d st : Nat) : State :=
  let s' := s.wf (Reg.PWR_DSTAT d) 31 29 st
  let n := s.rf Reg.SMC_MODEEXP 15 0
  if domKind d ≠ 1 || s.domOn d = s'.domOn d || n = 0 then s'
  else s'.wf Reg.SMC_MODEEXP 15 0 (if s'.domOn d then n + 64 else n - 64)

/-- A transition of a domain is under way. -/
def State.domBusy (s : State) (d : Nat) : Bool := s.bit (Reg.PWR_DSTAT d) 28

/-- The transition of a domain ends. -/
def State.domRest (s : State) (d : Nat) : State :=
  ((s.wf (Reg.PWR_DSTAT d) 28 26 0).wf (Reg.CLK_ISL d) 30 30 0).setDom d { s.dom d with act := 0, tries := 0, emerg := false }

/-- A transition of kind `act` of a domain begins, its wake stage (if it is one) the regulator. -/
def State.domBegin (s : State) (d act : Nat) : State :=
  (s.wf (Reg.PWR_DSTAT d) 28 26 4).setDom d { s.dom d with act := act, start := s.domState d }

/-- A domain starts toward a target (R525, R531, R532, R542): a raise above what VDD_CORE allows is refused and counted. -/
def State.domGo (s : State) (d st pt : Nat) : State :=
  let cur := s.domState d
  let now := s.rf (Reg.PWR_DSTAT d) 24 23
  if cur = 4 then s
  else if cur ≤ 1 && st ≤ 1 && pt < now && s.rf Reg.PWR_VCORE 15 0 < domMv d pt + 50 then s.bump (Reg.PWR_DREPLCNT d) 1
  else
    let s := (s.wf (Reg.PWR_DTARGET d) 31 30 st).wf (Reg.PWR_DTARGET d) 29 28 pt
    if cur ≤ 1 && st ≤ 1 then
      (if pt = now then s else if pt < now then s.domBegin d 4 else (s.domBegin d 6).wf (Reg.CLK_ISL d) 30 30 1)
    else if cur ≤ 1 then s.domBegin d st
    else if st ≤ 1 then s.domBegin d 1
    else if cur = st then s
    else if cur = 2 then s.domBegin d 3
    else s.domBegin d 1

/-- The pending request of a domain, as PWR_DnTARGET shows it. -/
def State.setPending (s : State) (d st pt : Nat) : State :=
  ((s.wf (Reg.PWR_DSTAT d) 25 25 1).wf (Reg.PWR_DTARGET d) 27 26 st).wf (Reg.PWR_DTARGET d) 25 24 pt

/-- The state without a pending request of a domain. -/
def State.clearPending (s : State) (d : Nat) : State := (s.wf (Reg.PWR_DSTAT d) 25 25 0).wf (Reg.PWR_DTARGET d) 27 24 0

/-- DOMAIN_REQUEST (R546): the target that the domain should have now starts a transition, or becomes the pending request,
replacing and counting the one before. -/
def State.domRequest (s : State) (d : Nat) : State :=
  let st := s.wantState d
  let pt := s.wantPoint d
  if d = 160 || 176 ≤ d || s.domState d = 4 then s
  else if s.domBusy d then
    if s.bit (Reg.PWR_DSTAT d) 25 then
      (if s.rf (Reg.PWR_DTARGET d) 27 26 = st && s.rf (Reg.PWR_DTARGET d) 25 24 = pt then s
       else (s.setPending d st pt).bump (Reg.PWR_DREPLCNT d) 1)
    else if s.rf (Reg.PWR_DTARGET d) 31 30 = st && s.rf (Reg.PWR_DTARGET d) 29 28 = pt then s
    else s.setPending d st pt
  else s.domGo d st pt

/-- Requests for every domain of a list. -/
def State.requestAll (s : State) (ds : List Nat) : State := ds.foldl State.domRequest s.raiseVcore

/-- Requests for every domain. -/
def State.retarget (s : State) : State := s.requestAll (List.range 176)

/-- Domains of a partition: its core rows, routers and vault. -/
def partDoms (p : Nat) : List Nat := (List.range 8).map (8 * p + ·) ++ [128 + p, 144 + p]

/-- The pending request starts, unless it equals the state now reached (R546). -/
def State.domSettle (s : State) (d : Nat) : State :=
  let s := s.domRest d
  if s.bit (Reg.PWR_DSTAT d) 25 then
    let st := s.rf (Reg.PWR_DTARGET d) 27 26
    let pt := s.rf (Reg.PWR_DTARGET d) 25 24
    (s.clearPending d).domGo d st pt
  else
    let st := s.rf (Reg.PWR_DTARGET d) 31 30
    if st = 2 && s.domState d ≤ 1 then s.domGo d 2 (s.rf (Reg.PWR_DTARGET d) 29 28) else s

/-- A thermal trip or PWRFAIL_N overrides the transition in progress of a domain (R547). -/
def State.domOverride (s : State) (d : Nat) : State :=
  if s.domBusy d then (s.clearPending d).setDom d { s.dom d with emerg := true } else s.domRequest d

/-- Every core in use stops. -/
def State.stopCores (s : State) : State :=
  ((List.range 1024).filter (bitAt s.img.inUse)).foldl (fun s c => s.setCore c { s.core c with stopped := true }) s

/-- Safe state (R21, R545): the fabric stops, ERR_N is asserted, the session ends, every recovery and case ends (R606), and
the fatal record goes to its host queue while PCIe is up (R432, R613). -/
def State.safeState (s : State) (cause d : Nat) : State :=
  if s.bit Reg.PWR_DEVSTAT 29 then s
  else
    let stat := (s.rd (Reg.PWR_DSTAT d)).toNat
    let s := ((s.setBit Reg.PWR_DEVSTAT 29).stopCores.assertErr.endSession .smc 7)
    let s := { s with recv := { s.recv with fifo := [], own := [], cases := [] },
                      regs := resetRegs s.regs 0x4100 0x4300 }
    let s := ((s.wr Reg.SMC_RECSTAT (s.rd Reg.SMC_RECSTAT &&& 0xFFFF)).wr Reg.SMC_CASESTAT 0)
    let rec20 := [0x20] ++ leBytes 1 cause ++ leBytes 2 d ++ leBytes 4 stat ++ zeros 8 ++
      (List.range 6).flatMap (fun j => leBytes 4 (s.rd (Reg.PWR_FAILMAP j)).toNat) ++ leBytes 8 s.time
    if s.bit Reg.LDL_CTRL 31 && s.domOn 162 && s.bit Reg.HIF_LINK 31 then (s.hqAccept (s.rf Reg.LDL_CTRL 11 0) [rec20]).1 else s

/-- A domain is marked failed at a stage (R543, R544): 1 regulator to 4 logic, 5 hard failure. -/
def State.domFail (s : State) (d stage : Nat) : State :=
  let s := ((s.domRest d).clearPending d).setDomState d 4
  let s := ((s.wf (Reg.PWR_DSTAT d) 22 20 stage).setClock d false 0).loseDomain d
  let s := (s.setBit (Reg.PWR_FAILMAP (d / 32)) (d % 32)).pwrIrq 0
  let s := if 144 ≤ d && d < 160 then s.wf (Reg.VLT_STAT (d - 144)) 31 30 3 else s
  if d < 128 then { s with recv := { s.recv with own := s.recv.own ++ [(d / 8, lcnOf (d / 8) (d % 8 * 8), false)] } }
  else if d < 163 then s.safeState (if stage = 5 then 2 else 1) d
  else s

/-- The spare of a band row is free and healthy (R545, R570). -/
def State.spareFree (s : State) (d : Nat) : Bool :=
  let m := Reg.RST_MAP d
  s.bit m 31 && !s.bit m (s.rf m 16 13) && s.rf m 8 0 = 0

/-- Logical core at a physical position of a band row. -/
def State.coreAt (s : State) (d pos : Nat) : Nat :=
  let sp := if s.bit (Reg.RST_MAP d) 31 then s.rf (Reg.RST_MAP d) 16 13 else 8
  lcnOf (d / 8) (d % 8 * 8 + (if pos ≤ sp then min pos 7 else pos - 1))

/-- One physical core of a core row fails its memory or logic stage (R545): it is marked defective, and the SMC finds a
failure that a free spare can absorb. -/
def State.coreFail (s : State) (d pos : Nat) : State :=
  let own := (d / 8, s.coreAt d pos, s.spareFree d)
  let s := (s.wf (Reg.PWR_DSTAT d) pos pos 1).wf (Reg.RST_MAP d) pos pos 1
  { s with recv := { s.recv with own := s.recv.own ++ [own] } }

/-- VLT_REPAIR of a vault follows its map (R180): the fewest spare rows left in a bank, and the rows in use. -/
def State.showRepair (s : State) (p : Nat) : State :=
  let x : VaultInt := mapGet .init s.vaults p
  let left := (List.range 64).foldl (fun m b => min m (24 - (x.spares.filter (fun r => r / 512 == b)).length)) 24
  s.wf (Reg.VLT_REPAIR p) 31 27 left

/-- A vault that wakes (R180): in stage 5 of a start its test or map load follows, later its map is still in force. -/
def State.vaultAwake (s : State) (d : Nat) : State :=
  if d < 144 || 160 ≤ d then s
  else if s.rf Reg.RST_STAT 31 28 = 5 then s.wf (Reg.VLT_STAT (d - 144)) 31 30 1
  else (s.wf (Reg.VLT_STAT (d - 144)) 31 29 5).showRepair (d - 144)

/-- A Sprue link whose domain wakes begins to train where the device trains links (R447, R455); a PARTIAL device holds its links
DOWN (R456). -/
def State.linkAwake (s : State) (d : Nat) : State :=
  if d < 167 || 175 ≤ d || !s.bit Reg.SPL_SYSCFG 31 then s
  else s.wf (Reg.SPL_LSTAT (d - 167)) 31 29 (if s.rf Reg.SPL_SYSSTAT 31 29 = 4 || !s.bit (Reg.SPL_LCTRL (d - 167)) 31 then 4 else 1)

/-- A wake reaches its end: the domain is ON at the target point. -/
def State.domAwake (s : State) (d : Nat) : State :=
  let s := (s.vaultAwake d).linkAwake d
  let pt := s.rf (Reg.PWR_DTARGET d) 29 28
  (((s.setDomState d 0).wf (Reg.PWR_DSTAT d) 24 23 pt).setClock d true pt).domSettle d

/-- The emergency target takes over after a stage (R547). -/
def State.domTurn (s : State) (d : Nat) : State := (s.domRest d).domRequest d

/-- WAKE_STAGE_READY (R542). -/
def execWakeStageReady (d : Nat) (s : State) : Out :=
  .next <|
    if (s.dom d).act ≠ 1 then s
    else
      let st := s.rf (Reg.PWR_DSTAT d) 27 26
      let s := if st = 1 then s.setClock d true (s.rf (Reg.PWR_DTARGET d) 29 28) else s
      if (s.dom d).emerg && st < 3 then
        (if s.wantState d ≤ 1 then
          ((s.wf (Reg.PWR_DTARGET d) 29 28 (s.wantPoint d)).setDom d { s.dom d with emerg := false }).wf (Reg.PWR_DSTAT d) 27 26 (st + 1)
         else ((s.domRest d).setClock d false 0).domBegin d (s.wantState d))
      else if st < 3 then s.wf (Reg.PWR_DSTAT d) 27 26 (st + 1)
      else if (s.dom d).emerg then (s.domAwake d).domRequest d
      else s.domAwake d

/-- WAKE_STAGE_TIMEOUT (R543): the first returns the domain to the state the wake began from, a second fails it; for the
memory and logic stages of a core row, the physical core that did not answer. -/
def execWakeStageTimeout (d pos : Nat) (s : State) : Out :=
  .next <|
    if (s.dom d).act ≠ 1 then s
    else
      let st := s.rf (Reg.PWR_DSTAT d) 27 26
      if (s.dom d).tries = 0 then
        let s := ((s.bump (Reg.PWR_DRETRYCNT d) 1).wf (Reg.PWR_DSTAT d) 27 26 0).setClock d false 0
        s.setDom d { s.dom d with act := 8, tries := 1 }
      else if d < 128 && 2 ≤ st then
        let s := s.coreFail d (pos % 9)
        if st < 3 then s.wf (Reg.PWR_DSTAT d) 27 26 (st + 1) else s.domAwake d
      else s.domFail d (st + 1)

/-- WAKE_RETRY (R543): the wake starts again from the regulator stage. -/
def execWakeRetry (d : Nat) (s : State) : Out :=
  .next <|
    if (s.dom d).act ≠ 8 then s
    else if (s.dom d).emerg then s.domTurn d
    else s.setDom d { s.dom d with act := 1 }

/-- Every unit of a domain is idle (R526): cores in DONE, HALT or STOPPED with empty queues; routers with nothing held. -/
def State.domIdle (s : State) (d : Nat) : Bool :=
  match domKind d with
  | 0 => ((List.range 8).map (fun k => lcnOf (d / 8) (d % 8 * 8 + k))).all (fun c =>
      (s.phase c == 2 || s.phase c == 4 || s.phase c == 5) && s.rf (Reg.NCR_EQSTAT c) 12 0 == 0)
  | 1 => ((List.range 64).map (lcnOf (d - 128))).all (fun c =>
      (s.router c).bufs.all (fun e => e.2.isEmpty) && (s.router c).comb.all (fun e => e.2.st == 0) &&
        !(s.tokens.any (fun r => r.lcn == c)))
  | _ => true

/-- DOMAIN_IDLE_ENTRY (R526): where the plan permits IDLE. -/
def execDomainIdleEntry (d : Nat) (s : State) : Out :=
  .next <|
    if d ≠ 160 && d < 176 && s.domState d = 0 && !s.domBusy d && s.rf (Reg.PWR_DTARGET d) 31 30 = 0 && s.domIdle d then s.setDomState d 1 else s

/-- DOMAIN_IDLE_EXIT (R526). -/
def execDomainIdleExit (d : Nat) (s : State) : Out :=
  .next <| if d ≠ 160 && d < 176 && s.domState d = 1 then s.setDomState d 0 else s

/-- VOLTAGE_RAMP_DONE (R531): a raise goes on to its clock switch, a lowering is complete. -/
def execVoltageRampDone (d : Nat) (s : State) : Out :=
  .next <|
    if (s.dom d).act = 4 then
      (if (s.dom d).emerg then s.domTurn d
       else (s.setDom d { s.dom d with act := 5 }).wf (Reg.CLK_ISL d) 30 30 1)
    else if (s.dom d).act = 7 then (if (s.dom d).emerg then s.domTurn d else s.domSettle d)
    else s

/-- CLOCK_SWITCH_DONE (R531): the domain runs at its target point; a lowering goes on to its voltage ramp. -/
def execClockSwitchDone (d : Nat) (s : State) : Out :=
  .next <|
    if (s.dom d).act = 5 || (s.dom d).act = 6 then
      let pt := s.rf (Reg.PWR_DTARGET d) 29 28
      let s' := (s.wf (Reg.PWR_DSTAT d) 24 23 pt).setClock d true pt
      if (s.dom d).emerg then s'.domTurn d
      else if (s.dom d).act = 6 then s'.setDom d { s.dom d with act := 7 } else s'.domSettle d
    else s

/-- LIMITER_TICK (R537, R538): the draw of the last 50 µs in units of 10 mW; T moves, core rows are demoted. -/
def execLimiterTick (draw : Nat) (s : State) : Out :=
  .next <|
    let ds := (draw :: s.pwr.draws).take 20
    let p := ds.sum / ds.length
    let fused := s.rf Reg.SYS_CAPS 31 24
    let ceil := s.rf Reg.PWR_CEIL 31 24
    let cap := if ceil = 0 || fused < ceil then fused else max 5 ceil
    let target := 100 * cap - 50
    let t := s.rf Reg.PWR_LIMSTAT 31 23
    let t' := if target < p then min (t + 16) 384 else if p + 50 < target then t - 1 else t
    let s := { s with pwr := { s.pwr with draws := ds } }
    let s := if 0 < t then s.bump48 Reg.PWR_LIMTIME 50 else s
    let s := (s.wf Reg.PWR_LIMSTAT 31 23 t').wf Reg.PWR_LIMSTAT 15 0 (satN 16 p)
    let s := if s.rf Reg.PWR_LIMPEAK 15 0 < satN 16 p then s.wf Reg.PWR_LIMPEAK 15 0 (satN 16 p) else s
    let lim := t' = 384 && target < p
    let s := if lim && !s.bit Reg.PWR_DEVSTAT 25 then s.pwrIrq 4 else s
    let s := s.wf Reg.PWR_DEVSTAT 25 25 (if lim then 1 else 0)
    if t' = t then s else s.requestAll (List.range 128)

/-- Warning threshold of the junction (PWR_THERM.TWARN). -/
def State.twarn (s : State) : Int := max 60 (min 110 (s.rf Reg.PWR_THERM 7 0 : Int))

/-- The sensor with the hottest reading and that reading; the lower-numbered of equal ones. -/
def hottest (temps : List Int) : Nat × Int :=
  ((List.zip (List.range temps.length) temps).foldl
    (fun b e => match b with | none => some e | some x => if x.2 < e.2 then some e else some x) none).getD (0, 0)

/-- THERMAL_SAMPLE (R541): warning and trip begin and end by the hottest reading. -/
def execThermalSample (temps : List Int) (s : State) : Out :=
  .next <|
    if temps.isEmpty then s
    else
      let (i, tj) := hottest temps
      let s := (s.wf Reg.PWR_THERM 31 24 (toPattern 8 tj)).wf Reg.PWR_THERM 18 14 i
      let warn0 := s.bit Reg.PWR_DEVSTAT 27
      let trip0 := s.bit Reg.PWR_DEVSTAT 26
      let warn := decide (s.twarn ≤ tj) || (warn0 && decide (s.twarn - 5 < tj))
      let trip := decide (115 ≤ tj) || (trip0 && decide (105 ≤ tj))
      let s := (s.wf Reg.PWR_DEVSTAT 27 27 (if warn then 1 else 0)).wf Reg.PWR_DEVSTAT 26 26 (if trip then 1 else 0)
      let s := if warn && !warn0 then s.pwrIrq 3 else s
      let s := if trip && !trip0 then (List.range 160).foldl State.domOverride (s.pwrIrq 2) else s
      if warn != warn0 || (trip0 && !trip) then s.requestAll (List.range 160) else s

/-- THERM_N is asserted (R541). -/
def State.thermN (s : State) : Bool := s.bit Reg.PWR_DEVSTAT 27 || s.bit Reg.PWR_DEVSTAT 26

/-- PMBUS_STATUS_POLL (R532): READ_VOUT is kept, the setpoint falls once every island has left the higher points; STATUS_WORD
reports a fault. -/
def execPmbusStatusPoll (status vout : Nat) (s : State) : Out :=
  .next <|
    if !s.bit Reg.PWR_PMBCFG 31 || !s.domOn 161 || s.smcHalted then s
    else
      let s := s.wf Reg.PWR_VCORE 31 16 vout
      let high := ((List.range 160).filter s.domOn).map (fun d => domMv d (s.rf (Reg.PWR_DSTAT d) 24 23) + 50)
      let s := s.wf Reg.PWR_VCORE 15 0 (high.foldl max s.vcoreNeed)
      if status = 0 then s else { s with pwr := { s.pwr with regFault := s.pwr.regFault ++ [status] } }

end Sys2Proof.Machine
end

