-- ==== Sys2Proof/Machine/Messages.lean ====
section
/-! DEFINITION. Message channels of a network interface (R319 to R339): acceptance and landing, selectors, releases, forwarded
copies, and what a reply does at a core. Queue pointers count modulo 512; an entry lies at its pointer modulo the ring's size. -/

namespace Sys2Proof.Machine

/-- Entries of a queue's ring (MSG_QnRING.LOG2): values above 8 are treated as 8. -/
def State.ringSize (s : State) (c q : Nat) : Nat := 2 ^ min 8 (s.rf (Reg.MSG_QRING c q) 3 0)

/-- Scratchpad offset of a queue's ring. -/
def State.ringBase (s : State) (c q : Nat) : Nat := 8 * s.rf (Reg.MSG_QRING c q) 27 16

/-- Scratchpad offset of the entry at a pointer. -/
def State.entryOff (s : State) (c q ptr : Nat) : Nat := s.ringBase c q + 8 * (ptr % s.ringSize c q)

/-- Pointers of a queue: next entry to be written, next to be popped, oldest unreleased. -/
def State.qTail (s : State) (c q : Nat) : Nat := s.rf (Reg.MSG_QPTR c q) 26 18
/-- Next entry to be popped. -/
def State.qHead (s : State) (c q : Nat) : Nat := s.rf (Reg.MSG_QPTR c q) 17 9
/-- Oldest unreleased entry. -/
def State.qRel (s : State) (c q : Nat) : Nat := s.rf (Reg.MSG_QPTR c q) 8 0

/-- Consumer of a queue (R329). -/
def State.consumer (s : State) (c q : Nat) : Nat := s.rf (Reg.MSG_QCFG c q) 30 29

/-- Check 1 of R325. -/
def State.queueOk (s : State) (c q : Nat) : Bool :=
  q < 128 && s.bit (Reg.MSG_QCFG c q) 31 && s.ringBase c q + 8 * s.ringSize c q ≤ 0x8000 && s.consumer c q != 3 &&
    (s.consumer c q != 2 || s.bit (Reg.MSG_QCFG c q) 28)

/-- Check 2 of R325. -/
def State.landOk (s : State) (c q land len : Nat) : Bool :=
  let base := 16 * s.rf (Reg.MSG_QLAND c q) 10 0
  base ≤ land && land + 16 * len ≤ base + 16 * s.rf (Reg.MSG_QLAND c q) 27 16

/-- Check 3 of R325 fails. -/
def State.queueFull (s : State) (c q : Nat) : Bool := s.ringSize c q ≤ (s.qTail c q + 512 - s.qRel c q) % 512

/-- Home of a reply's addressee (R323, R324): the requester's core, or the attachment of a system requester. -/
def replyHome (sys : Bool) (dev lcn : Nat) : Nat := homeKey dev (if sys then (if lcn = 1 then 18 else 14) else lcn)

/-- A MSG_RSP from port `n` (R323). -/
def State.reply (s : State) (n : Nat) (sys : Bool) (dev lcn queue sender seq desc land status : Nat) : State :=
  s.inject n 5 (replyHome sys dev lcn + (if sys then 2 ^ 17 else 0) + queue * 2 ^ 5 + sender * 4)
    (seq * 2 ^ 24 + desc * 2 ^ 19 + status * 2 ^ 15 + land) 0 0 []

/-- The reply of port `n` to a request, by its header. -/
def State.replyTo (s : State) (n : Nat) (p : Packet) (status : Nat) : State :=
  s.reply n p.sysSrc p.srcDev p.srcLcn (bits p.key 16 5) (bits p.key 4 2) (bits p.payload 31 24) (bits p.payload 23 19)
    (bits p.payload 14 0) status

/-- Refusals that wait to leave a network interface (R337). -/
def State.refusals (s : State) (c : Nat) : Nat :=
  ((mapGet [] s.wires (8 * c + 4)).filter (fun p => p.cls == 5 && bits p.payload 18 15 != 0)).length

/-- A request is refused (R325). -/
def State.msgRefuse (s : State) (c : Nat) (p : Packet) (status : Nat) : State :=
  ((s.bump (Reg.MSG_REFCNT c) 1).setBit (Reg.MSG_STAT c) 0).replyTo c p status

/-- Queues that a selector watches and that are ready (R330), in ascending number. -/
def State.readyQueues (s : State) (c sel : Nat) : List Nat :=
  let w := (s.rd (Reg.MSG_SELCFG c sel)).toNat
  ((List.range 16).map (16 * bits w 18 16 + ·)).filter (fun q =>
    bitAt w (q % 16) && s.bit (Reg.MSG_QCFG c q) 31 && s.consumer c q == 0 && s.qTail c q != s.qHead c q)

/-- A selector that signals stands ready. -/
def State.selReady (s : State) (c sel : Nat) : Bool :=
  s.bit (Reg.MSG_SELCFG c sel) 31 && !(s.readyQueues c sel).isEmpty

/-- The signal message of a core (R422). -/
def State.selSignal (s : State) (c : Nat) : State :=
  s.inject c 4 (homeKey s.dev 14 + 2 ^ 17 + 5 * 4) 0 (0xF * 2 ^ 12) (s.stepOf c) []

/-- Selectors that become ready, or that a pop leaves ready, signal (R330, R422). -/
def State.selCheck (s : State) (c : Nat) (popped : Option Nat) : State :=
  let up := (List.range 4).filter (s.selReady c)
  let say := up.filter (fun x => s.bit (Reg.MSG_SELCFG c x) 29 && (!(s.core c).selUp.contains x || popped == some x))
  say.foldl (fun s _ => s.selSignal c) (s.setCore c { s.core c with selUp := up })

/-- Forwarded copies leave while fewer than 8 are in flight (R332): the copy is read where the message landed. -/
def State.forwardOut (s : State) (c : Nat) : Nat → State
  | 0 => s
  | n + 1 =>
    let k := s.core c
    match k.fwdWait with
    | [] => s
    | (q, ptr) :: rest =>
      if 8 ≤ k.fwds.length then s
      else
        let w0 := s.num (padAddr c + s.entryOff c q ptr) 4
        let fq := s.rf (Reg.MSG_QCFG c q) 27 16
        let data := s.bytes (padAddr c + bits w0 14 0) (16 * bits w0 27 23)
        let s := s.inject c 4 (homeKey s.dev (14 + fq % 4) + 2 ^ 17 + fq * 2 ^ 5 + 4 * 4)
          (k.fwdSeq % 256 * 2 ^ 24 + 0x4000 + q * 2 ^ 7) (bits w0 31 28 * 2 ^ 12 + bits w0 27 23) (s.stepOf c) data
        forwardOut (s.setCore c { k with fwdWait := rest, fwdSeq := (k.fwdSeq + 1) % 256,
                                         fwds := k.fwds ++ [(k.fwdSeq % 256, 512 * q + ptr)] }) c n

/-- The entry at a pointer still waits for the reply to its forwarded copy (R332). -/
def State.forwardOpen (s : State) (c q ptr : Nat) : Bool :=
  (s.core c).fwds.any (fun (e : Nat × Nat) => e.2 == 512 * q + ptr) || (s.core c).fwdWait.contains (q, ptr)

/-- Entries that their consumer has released and whose forward reply has arrived are released, oldest first, each with its
reply (R331, R332). -/
def State.releaseOut (s : State) (c q : Nat) : Nat → State
  | 0 => s
  | n + 1 =>
    let r := s.qRel c q
    let done := mapGet 0 (s.core c).relDone q
    let self := s.consumer c q = 2
    if r = s.qHead c q || s.forwardOpen c q r || (!self && done = 0) then s
    else
      let a := padAddr c + s.entryOff c q r
      let w0 := s.num a 4
      let w1 := s.num (a + 4) 4
      let s := if self then s else s.setCore c { s.core c with relDone := mapSet 0 (s.core c).relDone q (done - 1) }
      let s := s.reply c (bitAt w1 31) (bits w1 30 27) (bits w1 26 17) q 0 (bits w0 22 15) (bits w1 16 12) (bits w0 14 0) 0
      releaseOut (s.wf (Reg.MSG_QPTR c q) 8 0 ((r + 1) % 512)) c q n

/-- The oldest popped entry of a queue is released (R331). -/
def State.releaseOne (s : State) (c q : Nat) : State :=
  let done := mapGet 0 (s.core c).relDone q
  if (s.qHead c q + 512 - s.qRel c q) % 512 ≤ done then s.setBit (Reg.MSG_STAT c) 1
  else (s.setCore c { s.core c with relDone := mapSet 0 (s.core c).relDone q (done + 1) }).releaseOut c q 256

/-- A request that passes the checks lands (R326, R327, R329, R332): payload, then entry, then TAIL. -/
def State.msgLand (s : State) (c q : Nat) (p : Packet) : State :=
  let land := bits p.payload 14 0
  let len := p.step % 32
  let t := s.qTail c q
  let s := s.store (padAddr c + land) ((fitBytes (16 * len) p.data).take (0x8000 - land))
  let w0 := bits p.step 15 12 * 2 ^ 28 + len * 2 ^ 23 + bits p.payload 31 24 * 2 ^ 15 + land
  let w1 := (if p.sysSrc then 2 ^ 31 else 0) + p.srcDev * 2 ^ 27 + p.srcLcn * 2 ^ 17 + bits p.payload 23 19 * 2 ^ 12 + s.stepOf c % 2 ^ 12
  let s := (s.putNum (padAddr c + s.entryOff c q t) 4 w0).putNum (padAddr c + s.entryOff c q t + 4) 4 w1
  let s := (s.wf (Reg.MSG_QPTR c q) 26 18 ((t + 1) % 512)).bump (Reg.MSG_QACC c q) 1
  let s := if s.consumer c q = 2 then s.wf (Reg.MSG_QPTR c q) 17 9 ((t + 1) % 512) else s
  let s := if s.bit (Reg.MSG_QCFG c q) 28 then s.setCore c { s.core c with fwdWait := (s.core c).fwdWait ++ [(q, t)] } else s
  s.selCheck c none

/-- MSG_REQUEST_ACCEPT (R325 to R329, R337, R338). -/
def execMsgRequestAccept (c : Nat) (s : State) : Out :=
  .next <|
    match s.headOf c 3 4 with
    | none => s
    | some p =>
      let q := bits p.key 16 5
      if 16 ≤ s.refusals c then s
      else if !p.good then (s.takeInbox c 3).crcFail c p
      else if s.wrapped c then (s.takeInbox c 3).replyTo c p 3
      else if !s.queueOk c q then (s.takeInbox c 3).msgRefuse c p 1
      else if !s.landOk c q (bits p.payload 14 0) (p.step % 32) then (s.takeInbox c 3).msgRefuse c p 2
      else if s.queueFull c q then s
      else (s.takeInbox c 3).msgLand c q p

/-- FORWARD_SEND (R332). -/
def execForwardSend (c : Nat) (s : State) : Out := .next (s.forwardOut c 1)

/-- The queue that a selector pops (R330): the ready one of lowest number, or the first after the one it last popped. -/
def State.selPick (s : State) (c sel : Nat) : Option Nat :=
  let qs := s.readyQueues c sel
  if s.bit (Reg.MSG_SELCFG c sel) 30 then
    match qs.find? (fun q => mapGet 0 (s.core c).popped sel ≤ q) with
    | some q => some q
    | none => qs.head?
  else qs.head?

/-- One entry popped through a selector, and the word that the read returns (R330, R422). -/
def State.selPop (s : State) (c sel : Nat) : State × Nat :=
  if !s.bit (Reg.MSG_SELCFG c sel) 31 then (s, 0)
  else match s.selPick c sel with
    | none => (s, 0)
    | some q =>
      let h := s.qHead c q
      let s' := (s.wf (Reg.MSG_QPTR c q) 17 9 ((h + 1) % 512)).setCore c
        { s.core c with popped := mapSet 0 (s.core c).popped sel (q + 1) }
      (s'.selCheck c (some sel), 2 ^ 31 + q * 2 ^ 24 + s.entryOff c q h)

/-- SELECTOR_POP (R330): a read of MSG_SELsPOP; a read that its unit does not answer returns 0 (R34). -/
def execSelectorPop (src : Src) (c sel : Nat) (s : State) : Out :=
  .next <|
    let a := Reg.MSG_SELPOP c sel
    match s.accKind src false a with
    | some k => (s.accErr src false k a).answer (zeros 4)
    | none => let r := s.selPop c sel; r.1.answer (leBytes 4 r.2)

/-- MSG_RELEASE (R331): a write of a queue number to MSG_RELEASE. -/
def execMsgRelease (src : Src) (c q : Nat) (s : State) : Out :=
  .next <|
    let a := Reg.MSG_RELEASE c
    match s.accKind src true a with
    | some k => s.accErr src true k a
    | none => s.releaseOne c (q % 128)

/-- A queue's pointers reset, with what was under way for its entries (R338, R340). -/
def State.queueReset (s : State) (c q : Nat) : State :=
  let k := s.core c
  let waits := k.fwdWait.filter (fun (e : Nat × Nat) => e.1 != q)
  let flying := k.fwds.map (fun (e : Nat × Nat) => (e.1, if e.2 / 512 = q then 512 * 128 else e.2))
  (s.wr (Reg.MSG_QPTR c q) 0).setCore c { k with relDone := mapSet 0 k.relDone q 0, fwdWait := waits, fwds := flying }

/-- MSG_QUEUE_CONFIG_WRITE (R340): a write to MSG_QnLAND or MSG_QnRING resets the queue's pointers. -/
def execMsgQueueConfigWrite (src : Src) (c q : Nat) (ring : Bool) (data : Nat) (s : State) : Out :=
  .next <|
    let a := if ring then Reg.MSG_QRING c q else Reg.MSG_QLAND c q
    match s.accKind src true a with
    | some k => s.accErr src true k a
    | none =>
      let s' := s.regWrite src a data
      if s.installer src then (s'.queueReset c q).selCheck c none else s'

/-- A reply that came with a status other than OK is shown in a send descriptor whose words lie from `sd` up (R334). -/
def State.sdStatus (s : State) (sd status : Nat) : State := (s.wf (sd + 12) 3 0 status).bump (sd + 24) 1

/-- The oldest outstanding request of a send descriptor has this sequence number (R333). -/
def State.sdOldest (s : State) (sd seq : Nat) : Bool :=
  let out := s.rf (sd + 12) 19 15
  0 < out && seq == (s.rf (sd + 12) 31 24 + 256 - out) % 256

/-- A credit returns to a send descriptor. -/
def State.sdCredit (s : State) (sd : Nat) : State := s.wf (sd + 12) 19 15 (s.rf (sd + 12) 19 15 - 1)

/-- A reply to a forwarded copy (R332, R333). -/
def State.forwardReply (s : State) (c seq status : Nat) : State :=
  match (s.core c).fwds.find? (fun e => e.1 == seq) with
  | none => s.setBit (Reg.MSG_STAT c) 3
  | some e =>
    let s := s.setCore c { s.core c with fwds := (s.core c).fwds.filter (fun x => x.1 != seq) }
    let s := if status = 0 then s else (s.setBit (Reg.MSG_STAT c) 5).bump (Reg.MSG_SDERRCNT c) 1
    if e.2 / 512 < 128 then s.releaseOut c (e.2 / 512) 256 else s

/-- A reply to a request of a core's send descriptor (R333, R334). -/
def State.sdReply (s : State) (c desc seq status : Nat) : State :=
  let sd := Reg.MSG_SDKEY c desc
  if !s.sdOldest sd seq then s.setBit (Reg.MSG_STAT c) 3
  else
    let s := s.sdCredit sd
    if status = 0 then s else (s.sdStatus sd status).setBit (Reg.MSG_STAT c) 2

end Sys2Proof.Machine
end

