-- ==== Sys2Proof/Machine/Steps.lean ====
section
/-! DEFINITION. Steps and horizons (R205 to R239): the schedule, participants applying committed changes, admission, sealing,
window closes, and what happens to a core's memories between. -/

namespace Sys2Proof.Machine

/-- A run is active. -/
def State.runActive (s : State) : Bool := 2 ≤ s.runState && s.runState ≤ 4

/-- Step length in ns. -/
def State.lenNs (s : State) : Nat := max 1 (s.rf Reg.SMC_STEPCFG 15 0) * 1000

/-- Steps scheduled since the anchor (R206, R207): before it the old length counts. -/
def State.sinceAnchor (s : State) : Int :=
  let d : Int := (s.time : Int) - (s.runc.tstart : Int)
  if 0 ≤ d then d / (s.lenNs : Int) else d / ((max 1 s.runc.oldLen * 1000 : Nat) : Int)

/-- The tick of step `t` has passed (R206). -/
def State.tickPassed (s : State) (t : Nat) : Bool :=
  s.runActive && stepGe (((s.runc.anchorC : Int) + s.sinceAnchor) % 2 ^ 32).toNat t

/-- The scheduled step (R206): 0 without a run and before tick(0). -/
def State.sched (s : State) : Nat :=
  let n := (s.runc.anchorC : Int) + s.sinceAnchor
  if !s.runActive || n < 0 then 0 else (n % 2 ^ 32).toNat


/-- The logical cores in use. -/
def State.usedCores (s : State) : List Nat := (List.range 1024).filter s.inUse

/-- The partition holds every step up to `t` of its recovery in replay (R603, R606). -/
def State.replaying (s : State) (p t : Nat) : Bool :=
  let f := mapGet 0 s.recv.replay p
  s.recovering p && 0 < f && stepGe (f - 1) t

/-- First step of epoch `k` of the run (R208), steps being counted modulo 2^32 (R205). -/
def State.epochFirst (s : State) (k : Nat) : Nat := k * s.epochLen % 2 ^ 32

/-- The epoch-end pass that condition 3 of R215 waits for at step `t` has ended: that of the open epoch has not begun, and that of
the epoch before it ends when TMP_EPOCHDONE names it. -/
def State.passDone (s : State) (p t : Nat) : Bool :=
  let k := (s.temper p).epoch
  t != s.epochFirst (k + 1) &&
    (k == 0 || t != s.epochFirst k || (s.rd (Reg.TMP_EPOCHDONE p)).toNat == (k - 1) % 2 ^ 32)

/-- The participant holds every step from `t` on: a hold in force, or one committed that applies by then (R215, R233). -/
def Part.holds (p : Part) (t : Nat) : Bool :=
  match p.committed with
  | some ch =>
    if stepGe t ch.c then
      ch.kinds.any (fun k => match k with
        | .hold => true
        | .stop => true
        | .step n => stepGe t (ch.c + n)
        | .start => false
        | .resume => false
        | _ => match p.hold with | some c => stepGe t c | none => false)
    else match p.hold with | some c => stepGe t c | none => false
  | none => match p.hold with | some c => stepGe t c | none => false

/-- The participant waits for COMMIT or ABORT at step `t` (condition 2 of R215). -/
def Part.waits (p : Part) (t : Nat) : Bool := match p.prepared with | some ch => stepGe t ch.c | none => false

/-- A group has a member on another device (R467): a Sprue link's router merges reports of it that enter from the link. -/
def State.crossGroup (s : State) (g : Nat) : Bool :=
  let key := mapGet 0 s.img.horizKeys g
  (List.range 8).any (fun k =>
    let l := linkLcn k
    let b := s.rf (Reg.RTR_BANK l) 0 0
    (List.range 1024).any (fun i => s.minEntry l b i && key &&& s.entWord l b i 1 == s.entWord l b i 0 &&& s.entWord l b i 1 && bitAt (s.entWord l b i 3) 26))

/-- Run-ahead limit L. -/
def State.aheadLimit (s : State) : Nat := s.rf Reg.SMC_STEPCFG 27 24

/-- Delay of an UP entry (NCR_HZLISTn.D): 0 and values above 64 are treated as 1. -/
def listenDelay (w : Nat) : Nat := if bits w 22 16 = 0 || 64 < bits w 22 16 then 1 else bits w 22 16

/-- The listen entries that take part at a core (R215, R219, R467). -/
def State.listens (s : State) (c : Nat) (up : Bool) : List Nat :=
  (List.range 8).filter (fun n =>
    let w := (s.rd (Reg.NCR_HZLIST c n)).toNat
    bitAt w 31 && (bitAt w 30 != up) && (!(s.part c).lock || s.crossGroup (bits w 7 0)))

/-- Step `t` is `n` steps after a step that the horizon `h` has reached. -/
def horizonOk (h t n : Nat) : Bool := stepGe h ((t + 2 ^ 32 - n) % 2 ^ 32)

/-- What holds a core back from step `t` (R215, R219): the code, LOCK and the entry; 0 when it may be admitted. -/
def State.blockAt (s : State) (c t : Nat) : Nat × Bool × Nat :=
  let p := partOf c
  let q := s.part c
  if s.replaying p t then (if s.passDone p t then (0, false, 0) else (6, false, 0))
  else if q.holds t then (5, false, 0)
  else if q.waits t then (4, false, 0)
  else if !s.passDone p t then (6, false, 0)
  else if !s.bit Reg.SMC_STEPCFG 23 && !s.tickPassed t then (1, false, 0)
  else if q.lock && !horizonOk (s.core c).devHz t 1 then (2, true, 0)
  else
    match (s.listens c true).find? (fun n => !horizonOk (s.rd (Reg.NCR_HZVAL c n)).toNat t
        (min (listenDelay (s.rd (Reg.NCR_HZLIST c n)).toNat) s.aheadLimit)) with
    | some n => (2, false, n)
    | none =>
      match (s.listens c false).find? (fun n => !horizonOk (s.rd (Reg.NCR_HZVAL c n)).toNat t (s.aheadLimit + 1)) with
      | some n => (3, false, n)
      | none => (0, false, 0)

/-- The core's wait for admission counts `us` µs toward its horizon timeout (R223): only under the three codes, after the tick of
the step it waits for; a suspension puts it back to 0. -/
def State.waitCounts (s : State) (c : Nat) (code : Nat) (t us : Nat) : State :=
  let k := s.core c
  if s.bit Reg.SMC_RUNSTAT 25 || s.rf Reg.SMC_RUNSTAT 31 29 = 3 || s.rf Reg.SMC_RUNSTAT 31 29 = 4 then
    (if k.hzWait = 0 then s else s.setCore c { k with hzWait := 0 })
  else if (code = 2 || code = 3 || code = 7) && (s.bit Reg.SMC_STEPCFG 23 || s.tickPassed t) then
    s.setCore c { k with hzWait := min 65535 (k.hzWait + us) }
  else s

/-- The step that a core would be admitted to next. -/
def State.nextStep (s : State) (c : Nat) : Nat := ((s.rd (Reg.NCR_SEALED c)).toNat + 1) % 2 ^ 32

/-- The core has sealed its step and waits for the next (R106, R654). -/
def State.waiting (s : State) (c : Nat) : Bool :=
  (s.phase c == 2 || s.phase c == 4) && s.stepOf c == (s.rd (Reg.NCR_SEALED c)).toNat

/-- Halt bit of a core (SMC_DBGHALT). -/
def State.haltBit (s : State) (c : Nat) : Bool := s.bit (Reg.SMC_DBGHALT (c / 32)) (c % 32)

/-- SMC_RUNSTAT.DBG, SMC_DBGSTAT.ANY and NHALT (R653, R657): a core in use has its halt bit set or is in HALT, or the SMC is
halted. -/
def State.dbgShow (s : State) : State :=
  let any := s.bit Reg.SMC_DBGSTAT 30 || s.usedCores.any (fun c => s.haltBit c || s.phase c == 4)
  let n := ((List.range 1024).filter (fun c => s.phase c == 4)).length
  ((s.wf Reg.SMC_RUNSTAT 25 25 (if any then 1 else 0)).wf Reg.SMC_DBGSTAT 31 31 (if any then 1 else 0)).wf Reg.SMC_DBGSTAT 10 0 n

/-- NCR_HZSTAT.BLOCK, LOCK and ENTRY of a core. -/
def State.blockOf (s : State) (c : Nat) : Nat × Bool × Nat :=
  if !s.inUse c || (s.core c).stopped then (0, false, 0)
  else if s.waiting c then s.blockAt c (s.nextStep c)
  else if s.phase c = 2 then (7, false, 0)
  else (0, false, 0)

/-- The member that R214 names at the start of a run: the lowest core in use that reports into a group, else the Tundish. -/
def State.lowestMember (s : State) (g : Nat) : Nat :=
  match s.usedCores.find? (fun c => g = 255 || (List.range 8).any (fun n => s.bit (Reg.NCR_HZRPT c n) 31 && s.rf (Reg.NCR_HZRPT c n) 7 0 == g)) with
  | some c => 2 ^ 15 + s.dev * 2 ^ 10 + c
  | none => 2 ^ 15 + 2 ^ 14 + s.dev * 2 ^ 10

/-- A core takes up a new run (R214, R232, R405): it stands as after step -1. -/
def State.coreStart (s : State) (c : Nat) : State :=
  let m : Word := 0xFFFFFFFF
  let s := (((s.wr (Reg.NCR_STEP c) m).wr (Reg.NCR_SEALED c) m).setPhase c 2).wr (Reg.NCR_TAPWIN c) 0
  let s := (List.range 8).foldl (fun s n => s.wr (Reg.NCR_HZVAL c n) m) s
  let s := (List.range 256).foldl (fun s i => s.wr (Reg.NCR_TAPCNT c i) 0) s
  s.setCore c { s.core c with
    hzSrc := (List.range 8).map (fun n => (n, s.lowestMember (s.rf (Reg.NCR_HZLIST c n) 7 0)))
    devHz := 0xFFFFFFFF, devSrc := s.lowestMember 255, timedOut := false, tapHigh := 0, replay := none }

/-- A Temper unit takes up a new run (R371). -/
def State.temperStart (s : State) (p : Nat) : State :=
  let s := ((s.wr (Reg.TMP_REWCUR p) 0).wr (Reg.TMP_REWNEXT p) 0).wr (Reg.TMP_REWSTAT p) 0
  let s := (s.wr (Reg.TMP_EPOCHDONE p) 0xFFFFFFFF).wf (Reg.TMP_STAT p) 15 0 (s.rf (Reg.TMP_STAT p) 15 0 + 1)
  s.setTemper p { s.temper p with epoch := 0, openEp := 0 }

/-- The Tundish takes up a new run (R214, R396, R405). -/
def State.tundishStart (s : State) : State :=
  let s := ((s.wr Reg.TND_STEP 0xFFFFFFFF).wr Reg.TND_SEALED 0xFFFFFFFF).wr Reg.TND_WIN 0
  { s with tnd := { s.tnd with hz := [], devHz := 0xFFFFFFFF, devSrc := s.lowestMember 255, seen := [], isOpen := false,
                               hzSrc := (List.range 8).map (fun n => (n, s.lowestMember (s.rf (Reg.TND_HZDOWN n) 7 0))),
                               ran := false, broken := false, counts := [] } }

/-- A router takes up a new run: held reports of pinned combining entries go back to step -1 (R300). -/
def State.routerStart (s : State) (l : Nat) : State :=
  let es := (s.router l).comb.filter (fun e => !e.2.held.isEmpty && s.pinned l e.1)
  es.foldl (fun s e => s.setComb l e.1 { e.2 with held := [], sent := none }) s

/-- A participant takes up a new run. -/
def State.partStart (s : State) (n : Nat) : State :=
  if n < 1024 then s.coreStart n
  else if n < 2048 then s.routerStart (n - 1024)
  else if n < 2064 then s.temperStart (n - 2048)
  else if n = 2064 then s.tundishStart
  else s

/-- One change applied by a participant at the start of step `c` (R224, R227, R233, R234, R371). -/
def State.applyKind (s : State) (n c : Nat) (k : ChangeKind) : State :=
  let q := s.part n
  match k with
  | .start => (s.setPart n { q with hold := none, lock := s.bit Reg.SMC_RUNSTAT 27, learn := s.bit Reg.SMC_RUNSTAT 26 }).partStart n
  | .hold => s.setPart n { q with hold := some c }
  | .stop => s.setPart n { q with hold := some c }
  | .resume => s.setPart n { q with hold := none }
  | .step k => s.setPart n { q with hold := some ((c + k) % 2 ^ 32) }
  | .learn on =>
    let s := s.setPart n { q with learn := on }
    if on && 2048 ≤ n && n < 2064 then s.wf (Reg.TMP_STAT (n - 2048)) 15 0 (s.rf (Reg.TMP_STAT (n - 2048)) 15 0 + 1) else s
  | .lock on => s.setPart n { q with lock := on }
  | .stepLen _ => s
  | .bankSwap => s
  | .profile _ => s

/-- Units of a partition that take part in commits (R226). -/
def State.partUnits (s : State) (p : Nat) : List Nat :=
  ((List.range 64).map (lcnOf p)).filter s.inUse ++ ((List.range 64).map (fun k => 1024 + lcnOf p k)).filter (fun n => s.domOn (128 + partOf (n - 1024))) ++
    [2048 + p]

/-- SMC_PARTGEN of a partition. -/
def State.partGen (s : State) (p : Nat) : Nat := s.rf (Reg.SMC_PARTGEN (p / 2)) (16 * (p % 2) + 15) (16 * (p % 2))

/-- A partition all of whose units have applied generation `g` shows it (R228). -/
def State.showGen (s : State) (p g : Nat) : State :=
  if (s.partUnits p).all (fun n => (s.part n).gen == g) then s.wf (Reg.SMC_PARTGEN (p / 2)) (16 * (p % 2) + 15) (16 * (p % 2)) g else s

/-- The last commit has not been applied by every partition (R230). -/
def State.commitOpen (s : State) : Bool :=
  s.runc.change.isSome || (List.range 16).any (fun p => s.partGen p != s.rf Reg.SMC_MODEGEN 15 0)

/-- SMC_RUNSTAT.BUSY follows the commit in progress; its return to 0 sends vector 1 (R421). -/
def State.showBusy (s : State) : State :=
  let s' := s.wf Reg.SMC_RUNSTAT 28 28 (if s.commitOpen then 1 else 0)
  if s.bit Reg.SMC_RUNSTAT 28 && !s.commitOpen then s'.msix 1 else s'

/-- Partition of a participant; none for the Tundish and the Ladle. -/
def unitPart (n : Nat) : Option Nat :=
  if n < 2048 then some (partOf (n % 1024)) else if n < 2064 then some (n - 2048) else none

/-- What a change does to the device itself once its commit step begins: SMC_RUNSTAT.LEARN and LOCK, the run profile, and the
plan of a delta image (R70, R238, R535). -/
def State.applyDevice (s : State) (ch : Change) : State :=
  if s.runc.applied = ch.gen then s
  else
    let s := { s with runc := { s.runc with applied := ch.gen } }
    ch.kinds.foldl (fun s k => match k with
      | .learn on => s.wf Reg.SMC_RUNSTAT 26 26 (if on then 1 else 0)
      | .lock on => s.wf Reg.SMC_RUNSTAT 27 27 (if on then 1 else 0)
      | .profile p => (s.wf Reg.PWR_DEVSTAT 15 14 p).retarget
      | .bankSwap =>
        if s.img.planNext.isEmpty then s
        else { s with img := { s.img with plan := s.img.planNext, planNext := [] } }.retarget
      | _ => s) s

/-- A participant applies the change committed to it. -/
def State.applyPart (s : State) (n : Nat) : State :=
  match (s.part n).committed with
  | none => s
  | some ch =>
    let s := ch.kinds.foldl (fun s k => s.applyKind n ch.c k) s
    let s := s.setPart n { s.part n with committed := none, gen := ch.gen }
    let s := if n < 1024 then s.wf (Reg.NCR_HZSTAT n) 15 0 ch.gen else s
    let s := if n < 1024 || n = 2064 then s.applyDevice ch else s
    match unitPart n with
    | some p => (s.showGen p ch.gen).showBusy
    | none => s

/-- A participant that has reached its commit step `t` applies the change (R227, R230). -/
def State.applyDue (s : State) (n t : Nat) : State :=
  match (s.part n).committed with
  | some ch => if stepGe t ch.c then s.applyPart n else s
  | none => s

/-- The lag of a unit admitted to step `t` (R221). -/
def State.lagAt (s : State) (t : Nat) : Nat := if stepGe s.sched t then satN 16 (stepSub s.sched t) else 0

/-- The first step of an epoch decides whether the partition learns in it (R344, R350, R357): the tables lie in synaptic
storage. -/
def State.openEpoch (s : State) (p t : Nat) : State :=
  let x := s.temper p
  let k := x.epoch
  if t ≠ s.epochFirst k || x.openEp = k + 1 then s
  else
    let pre := 16 * s.rf (Reg.TMP_PREBASE p) 20 0 + 16 * s.rf (Reg.TMP_PRELEN p) 21 0
    let cores := ((List.range 32).filter (s.bit (Reg.TMP_NORMMASK_LO p))).length + ((List.range 32).filter (s.bit (Reg.TMP_NORMMASK_HI p))).length
    let norm := 16 * s.rf (Reg.TMP_NORMBASE p) 20 0 + 65536 * cores
    let ok := pre ≤ 0x1800000 && norm ≤ 0x1800000
    let want := (s.part (2048 + p)).learn && s.bit (Reg.TMP_CTRL p) 31
    let s := if want && !ok then s.setBit (Reg.TMP_ERRSTAT p) 1 else s
    (s.wf (Reg.TMP_STAT p) 28 28 (if want && ok then 1 else 0)).setTemper p { x with openEp := k + 1 }

/-- A core begins step `t` (R87, R106, R221, R404). -/
def State.beginStep (s : State) (c t : Nat) : State :=
  let k := s.core c
  let s := ((s.wr (Reg.NCR_STEP c) (BitVec.ofNat 32 t)).setPhase c 0).wr (Reg.RTR_INJSTEP c) (BitVec.ofNat 32 t)
  let s := ((s.wr (Reg.RTR_INJCNT c) 0).wr (Reg.MSG_INJCNT c) 0).showPort c
  let taps := ((List.range 256).filter (fun n => s.bit (Reg.NCR_TAPCFG0 c n) 31)).map (fun n =>
    (n, (s.rd (Reg.NCR_TAPCFG0 c n)).toNat, (s.rd (Reg.NCR_TAPCFG1 c n)).toNat))
  let s := s.setCore c { k with eqPresent := s.rf (Reg.NCR_EQSTAT c) 12 0, active := [], overflowed := false, poolRd := 0,
                                timedOut := false, hzWait := 0, sends := 0, tapOn := taps }
  let lag := s.lagAt t
  let s := s.wf (Reg.NCR_HZLAG c) 15 0 lag
  let s := if s.rf (Reg.NCR_HZLAG c) 31 16 < lag then s.wf (Reg.NCR_HZLAG c) 31 16 lag else s
  (s.sweepStep c t).openEpoch (partOf c) t

/-- A full load waits for the active image to stop at the end of its current steps (R64 order 2). -/
def State.loadStops (s : State) : Bool := s.img.job.any (fun j => !j.install && !j.delta && j.phase == 0)

/-- A core may run: it is in use, has not stopped on a fault, and no halt bit holds it. -/
def State.canAdmit (s : State) (c : Nat) : Bool :=
  s.inUse c && !(s.core c).stopped && !s.loadStops && s.waiting c &&
    (if s.recovering (partOf c) then s.replaying (partOf c) (s.nextStep c) else !s.haltBit c)

/-- STEP_ADMIT (R215, R219, R227). -/
def execStepAdmit (c : Nat) (s : State) : Out :=
  .next <|
    if !s.canAdmit c then s
    else
      let t := s.nextStep c
      let s := (s.applyDue c t).applyDue (2048 + partOf c) t
      let halt := s.phase c = 4
      if (s.blockAt c (s.nextStep c)).1 = 0 then (let s' := s.beginStep c (s.nextStep c); if halt then s'.dbgShow else s') else s

/-- Copies of step `t` of a port that have not retired, or wait to enter its router (R209, R267). -/
def State.unretired (s : State) (n t : Nat) : Bool :=
  (s.port n).slots.any (fun e => e.1 % 16 == t % 4 && e.2 != 0) ||
    (mapGet [] s.wires (s.injWire n)).any (fun p => p.cls ≤ 2 && p.step == t % 2 ^ 16)

/-- A horizon report of step `t` from port `n` into a group (R212, R250): none where the image gives the group no key. -/
def State.reportInto (s : State) (n t g : Nat) : State :=
  let key := mapGet 0 s.img.horizKeys g
  if key = 0 then s else s.inject n (if n < 1024 then 3 else 7) key t (t % 2 ^ 16) t []

/-- Groups that an array of report registers names, the device group first. -/
def reportGroups (words : List Nat) : List Nat := 255 :: (words.filter (fun w => bitAt w 31)).map (fun w => bits w 7 0)

/-- A partition all of whose cores in use have sealed step `t`: its Temper unit reaches step t + 1 with them. -/
def State.temperDue (s : State) (p t : Nat) : State :=
  let cores := ((List.range 64).map (lcnOf p)).filter s.inUse
  if cores.all (fun c => stepGe (s.rd (Reg.NCR_SEALED c)).toNat t) then s.applyDue (2048 + p) ((t + 1) % 2 ^ 32) else s

/-- STEP_SEAL (R209, R212, R230, R654). -/
def execStepSeal (c : Nat) (s : State) : Out :=
  .next <|
    let t := s.stepOf c
    if s.phase c ≠ 2 || (s.core c).stopped || !s.inUse c || (s.rd (Reg.NCR_SEALED c)).toNat = t || s.unretired c t then s
    else
      let quiet := s.replayed c
      let s := s.wr (Reg.NCR_SEALED c) (BitVec.ofNat 32 t)
      let gs := reportGroups ((List.range 8).map (fun n => (s.rd (Reg.NCR_HZRPT c n)).toNat))
      let s := if quiet then s else gs.foldl (fun s g => s.reportInto c t g) s
      let s := (s.applyDue c ((t + 1) % 2 ^ 32)).temperDue (partOf c) t
      let s := if s.recovering (partOf c) then s.drainTry else s
      if s.haltBit c && !s.recovering (partOf c) then (s.setPhase c 4).dbgShow else s

/-- NCR_DPOOL_WRITE (R94): the fields are RWI, so a write outside an installer session is refused and recorded. -/
def execNcrDpoolWrite (src : Src) (c data : Nat) (s : State) : Out :=
  .next <|
    let a := Reg.NCR_DPOOL c
    match s.accKind src true a with
    | some k => if k = 3 then s else s.accErr src true k a
    | none =>
      let s' := s.regWrite src a data
      if s.installer src then
        let n := s.parked c
        (s'.bump (Reg.NCR_DROPCNT c) n).poolRebuild c
      else s'

/-- Storage of a core that its scrubber reads, as a window offset: contexts, microcode and tables, event queue and
scratchpad. -/
def scrubOff (i : Nat) : Nat := 4 * (i % 49152)

/-- CORE_SCRUB_WORD (R82): the scrubber reads the next word of the core's memories. -/
def execCoreScrubWord (c : Nat) (s : State) : Out :=
  .next <|
    let a := coreWin c + scrubOff (s.core c).scrub
    let r := s.eccRead c a 4
    r.1.setCore c { r.1.core c with scrub := ((s.core c).scrub + 1) % 49152 }

end Sys2Proof.Machine
end

