-- ==== Sys2Proof/Machine/Images.lean ====
section
/-! DEFINITION. Druartal images (R43 to R81): the container and its checks, what each section writes, the settings blocks,
slot records, and how a load fails or falls back. The rows themselves are in ImageRows. -/

namespace Sys2Proof.Machine

/-- Storage of the boot flash, which has no device address: it lies above the 40-bit space. -/
def flashBase : Nat := 0x20000000000

/-- `n` bytes of host memory from `a` up. -/
def State.hostBytes (s : State) (a : Nat) : Nat → List Byte
  | 0 => []
  | n + 1 => mapGet 0 s.host a :: hostBytes s (a + 1) n

/-- `n` bytes of an image command's source, from offset `o`. -/
def State.src (s : State) (j : ImgJob) (o n : Nat) : List Byte :=
  if j.source = 2 then s.hostBytes (j.base + o) n else s.bytes (flashBase + j.base + o) n

/-- A number in an image. -/
def State.srcNum (s : State) (j : ImgJob) (o n : Nat) : Nat := leNat (s.src j o n)

/-- Length of the image (IMG_LEN). -/
def State.imgLen (s : State) (j : ImgJob) : Nat := s.srcNum j 8 4

/-- Number of Almanac entries. -/
def State.almCount (s : State) (j : ImgJob) : Nat := s.srcNum j 12 2

/-- Almanac entry `i`. -/
def State.alm (s : State) (j : ImgJob) (i : Nat) : AlmEntry :=
  let b := s.src j (96 + 32 * i) 32
  let f := fun o n => leNat ((b.drop o).take n)
  ⟨f 0 1, f 1 1, f 2 1, f 4 2, f 6 2, f 8 2, f 12 4, f 16 4, f 20 4, f 24 4, f 28 4, f 3 1 == 0 && f 10 2 == 0⟩

/-- The slot directory in force (R58): the offset of a copy whose CRC is correct. -/
def State.directory (s : State) : Option Nat :=
  [flashBase, flashBase + 0x8000].find? (fun a => s.num a 4 == 0x544C5344 && s.num (a + 60) 4 == crc32 (s.bytes a 60))

/-- Place and size of a slot in the flash; none without a directory. -/
def State.slotPlace (s : State) (slot : Nat) : Option (Nat × Nat) :=
  s.directory.map (fun a => (s.num (a + 8 + 4 * slot) 4, s.num (a + 16) 4))

/-- MRAM address of the slot record of a slot (assumption log 13): HDR_CRC, state, failure count. -/
def slotRec (slot : Nat) : Nat := 0x300214000 + 16 * slot

/-- MRAM address of the load-in-progress marker. -/
def markerAddr : Nat := 0x300214040

/-- MRAM address of a settings block (R62): slot A, slot B, host. -/
def settingsAddr (i : Nat) : Nat := 0x300211000 + 0x1000 * i

/-- Check 2 (R57). -/
def State.check2 (s : State) (j : ImgJob) : Bool :=
  let len := s.imgLen j
  s.srcNum j 0 4 == 0x4C545244 && s.srcNum j 6 2 == 96 && s.srcNum j 92 4 == crc32 (s.src j 0 92) &&
    len % 16 == 0 && 96 + 32 * s.almCount j + 160 ≤ len && len ≤ j.size &&
    (s.srcNum j 5 1 != 0 || (s.srcNum j 23 1 == 0 && s.srcNum j 64 28 == 0 && s.srcNum j 15 1 < 8))

/-- A slot's state derived from its header and record (R59): state, failure count. -/
def State.slotDerive (s : State) (slot : Nat) : State :=
  let st := Reg.SMC_IMGSLOT slot
  match s.slotPlace slot with
  | none => (s.wr st 0).wr (Reg.SMC_IMGSLOT_VER slot) 0
  | some (off, size) =>
    let j : ImgJob := ⟨false, slot, off, size, false, false, false, 0, 0, [], [], [], slot, 0, 2, false, 0⟩
    if !s.check2 j then (s.wr st 0).wr (Reg.SMC_IMGSLOT_VER slot) 0
    else
      let s := if s.num (slotRec slot) 4 = s.srcNum j 92 4 && s.num (slotRec slot + 4) 1 ≠ 0 then s
               else s.store (slotRec slot) (leBytes 4 (s.srcNum j 92 4) ++ [1, 0])
      ((s.wf st 31 30 (s.num (slotRec slot + 4) 1)).wf st 29 28 (s.num (slotRec slot + 5) 1)).wr (Reg.SMC_IMGSLOT_VER slot)
        (BitVec.ofNat 32 (s.srcNum j 16 4))

/-- The record of a slot written, and shown. -/
def State.putSlot (s : State) (slot st fails : Nat) : State :=
  ((s.store (slotRec slot + 4) (leBytes 1 st ++ leBytes 1 fails)).wf (Reg.SMC_IMGSLOT slot) 31 30 st).wf (Reg.SMC_IMGSLOT slot) 29 28 fails

/-- A slot is VALID. -/
def State.slotValid (s : State) (slot : Nat) : Bool := s.rf (Reg.SMC_IMGSLOT slot) 31 30 == 1

/-- A failure is counted against a slot (R60). -/
def State.slotFail (s : State) (slot : Nat) : State :=
  let n := min 3 (s.rf (Reg.SMC_IMGSLOT slot) 29 28 + 1)
  s.putSlot slot (if n = 3 then 2 else s.rf (Reg.SMC_IMGSLOT slot) 31 30) n

/-- Region of the target window that a type may write (R50, R81, R308, R340, R343, R415). -/
def regionOk (type off len : Nat) : Bool :=
  let within := fun lo hi => lo ≤ off && off + len ≤ hi
  match type with
  | 0x04 => within 0x4000 0x8000
  | 0x05 => within 0x20000 0x22000 || within 0x22020 0x22040
  | 0x06 => within 0x22000 0x22010 || within 0x22100 0x22300 || within 0x22400 0x24000 || within 0x28000 0x30000
  | 0x07 => within 0 0x20000 || within 0x300010 0x300030 || within 0x300100 0x300200
  | 0x08 => within 0 0x1800000
  | 0x0C => within 0x100 0x200 || within 0x2000 0x4000
  | 0x0D => within 0x320000 0x320004 || within 0x321000 0x321800
  | 0x0E => within 0x310010 0x310030 || within 0x311000 0x311800 || within 0x313000 0x313400
  | _ => off == 0

/-- Scope that a type demands (R48). -/
def typeScope (t : Nat) : Nat :=
  match t with
  | 0x04 => 2 | 0x05 => 1 | 0x06 => 1 | 0x07 => 1 | 0x08 => 3 | 0x0B => 5 | 0x0C => 4 | 0x0D => 1 | 0x0E => 1 | _ => 0

/-- Target numbers a scope has. -/
def scopeSize (sc : Nat) : Nat := match sc with | 1 => 1024 | 2 => 1024 | 3 => 16 | 4 => 16 | _ => 1

/-- Targets of an entry (R46). -/
def AlmEntry.targets (e : AlmEntry) : List Nat := (List.range e.count).map (fun i => e.first + i * e.stride)

/-- Placement rules of one entry (R46, R47, R49, R50, R56). An Optional section's scope is a code of R47, and its COUNT and STRIDE
obey R46, though no target range or region applies to it. -/
def AlmEntry.ok (e : AlmEntry) (minor : Nat) : Bool :=
  e.enc ≤ 1 && 1 ≤ e.exp && (e.enc != 0 || e.exp == e.len) && e.off % 16 == 0 && (minor != 0 || e.zero) &&
    e.scope ≤ 5 && 1 ≤ e.count && (e.stride != 0 || e.count == 1) &&
    (128 ≤ e.type ||
      (1 ≤ e.type && e.type ≤ 0x0F && e.scope == typeScope e.type &&
        e.targets.all (fun t => t < scopeSize e.scope) && regionOk e.type e.dest e.exp))

/-- Counts of R48 for a kind of image. -/
def countsOk (delta : Bool) (es : List AlmEntry) : Bool :=
  let n := fun t => (es.filter (fun e => e.type == t)).length
  if delta then es.all (fun e => e.type == 4 || e.type == 0x0A || 128 ≤ e.type) && n 0x0A ≤ 1
  else n 1 == 1 && n 2 == 1 && n 9 == 1 && n 0x0F == 1 && n 3 ≤ 1 && n 0x0A ≤ 1

/-- Two entries write a common byte of a common target (R50). -/
def AlmEntry.meets (a b : AlmEntry) : Bool :=
  a.type < 128 && b.type < 128 && a.scope != 0 && a.scope != 5 && a.scope == b.scope &&
    a.dest < b.dest + b.exp && b.dest < a.dest + a.exp && a.targets.any b.targets.contains

/-- Check 7 over the entries from `i` on: the index of the first that breaks a rule. -/
def almBad (minor lim start : Nat) (before : List AlmEntry) : Nat → List AlmEntry → Option Nat
  | _, [] => none
  | i, e :: t =>
    if !e.ok minor || e.off < start || lim < e.off + e.len || before.any e.meets then some i
    else almBad minor lim (e.off + e.len) (e :: before) (i + 1) t

/-- Bytes that lie outside every part of an image are 0 (R46). -/
def State.gapsZero (s : State) (j : ImgJob) (at_ lim : Nat) : List AlmEntry → Bool
  | [] => s.srcNum j at_ (lim - at_) == 0
  | e :: t => s.srcNum j at_ (e.off - at_) == 0 && gapsZero s j (e.off + e.len) lim t

/-- The Almanac of an image. -/
def State.almanac (s : State) (j : ImgJob) : List AlmEntry := (List.range (s.almCount j)).map (s.alm j)

/-- Grade of the part as a bit of GRADES. -/
def State.grade (s : State) : Nat := s.rf Reg.SYS_DEVID 3 2

/-- SMC firmware version that runs. -/
def State.fwVersion (s : State) : Nat := (s.rd (Reg.RST_FWVER (s.rf Reg.RST_FWSTAT 30 30))).toNat

/-- The digest of the loaded or active full image, as a number of 32 little-endian bytes. -/
def State.imgDigest (s : State) : List Byte := (List.range 8).flatMap (fun i => leBytes 4 (s.rd (Reg.SMC_IMGDIG i)).toNat)

/-- Checks 1 to 7 (R57): the code of the first that fails, and the Almanac index. Two points are the model's choice (assumption
log 43): a host address whose bits [3:0] are not 0 is a source that cannot be read (R77), and an ALM_COUNT of 0 or above 4,096
(R45) breaks check 7 and names entry 0. A delta image suits its command only while an image is ACTIVE (R69). -/
def State.precheck (s : State) (j : ImgJob) : Option (Nat × Nat) :=
  let readable := if j.source = 2 then s.bit Reg.HIF_LINK 31 && !s.bit Reg.HIF_STAT 0 && j.base % 16 == 0 else s.slotValid j.source
  let minor := s.srcNum j 5 1
  let kind := s.srcNum j 14 1
  let base := s.srcNum j 32 32
  let es := s.almanac j
  let lim := s.imgLen j - 160
  if !readable then some (0x0E, 0)
  else if !s.check2 j then some (0x03, 0)
  else if s.srcNum j 4 1 ≠ 1 then some (0x04, 0)
  else if s.srcNum j 20 2 ≠ 0x0964 || s.rf Reg.SYS_DEVID 7 4 < s.srcNum j 22 1 || !bitAt (s.srcNum j 15 1) s.grade then some (0x05, 0)
  else if s.fwVersion < s.srcNum j 28 4 then some (0x06, 0)
  else if kind ≠ (if j.delta then 1 else 0) || base ≠ (if j.delta then leNat s.imgDigest else 0) || (j.delta && s.rf Reg.SMC_IMGSTAT 31 29 ≠ 3) then
    some (0x0F, 0)
  else match almBad minor lim (96 + 32 * es.length) [] 0 es with
    | some i => some (0x07, i)
    | none =>
      if es.isEmpty || 4096 < es.length || !countsOk j.delta es || !s.gapsZero j (96 + 32 * es.length) lim es then some (0x07, 0) else none

/-- Expansion of a zero-run section (R51, R52), or none where it does not decode. -/
def zeroRun : Nat → Nat → List Byte → Option (List Byte)
  | 0, _, _ => none
  | _ + 1, n, [] => if n = 0 then some [] else none
  | fuel + 1, n, c :: t =>
    let k := c.toNat
    if k < 0x80 then
      (if k + 1 ≤ t.length && k + 1 ≤ n then (zeroRun fuel (n - (k + 1)) (t.drop (k + 1))).map (t.take (k + 1) ++ ·) else none)
    else if k < 0xC0 then
      (if k - 0x7F ≤ n then (zeroRun fuel (n - (k - 0x7F)) t).map (zeros (k - 0x7F) ++ ·) else none)
    else match t with
      | b1 :: b2 :: r =>
        let m := (k - 0xC0) * 65536 + b1.toNat * 256 + b2.toNat + 1
        if m ≤ n then (zeroRun fuel (n - m) r).map (zeros m ++ ·) else none
      | _ => none

/-- The expanded contents of an entry, where checks 8 and 9 let them through: the code that fails otherwise. -/
def State.expand (s : State) (j : ImgJob) (e : AlmEntry) : Except Nat (List Byte) :=
  let b := s.src j e.off e.len
  if crc32 b ≠ e.crc then .error 0x08
  else if e.enc = 0 then .ok b
  else match zeroRun (b.length + 1) e.exp b with
    | some x => .ok x
    | none => .error 0x09

/-- Bytes written in a window by the SMC (R46, R252): a register takes the bits of its writable fields, storage takes the bytes.
A queue whose place is written starts empty (R340), and so does a delayed-event pool (R94); RTR_BANK takes DRAINING alone (R311). -/
def State.rawWrite (s : State) (a : Nat) : Nat → List Byte → State
  | 0, _ => s
  | _ + 1, [] => s
  | fuel + 1, b :: bs =>
    let w := (b :: bs).take 4
    let s := match regRow a with
      | some r =>
        if w.length < 4 then s else
          let s := s.wr a (BitVec.ofNat 32 ((r.fields.filter (fun f => f.2.2 == .rwi || f.2.2 == .rw)).foldl
            (fun old f => putBits old f.1 f.2.1 (bits (leNat w) f.1 f.2.1)) (s.rd a).toNat))
          if r.name = "MSG_QLAND" then s.wr (a + 8) 0
          else if r.name = "MSG_QRING" then s.wr (a + 4) 0
          else if r.name = "NCR_DPOOL" then s.poolRebuild (winLcn a)
          else if r.name = "RTR_BANK" then s.wf a 1 1 (bits (leNat w) 1 1)
          else s
      | none => s.store a w
    rawWrite s (a + 4) fuel ((b :: bs).drop 4)

/-- A number in a byte list. -/
def numAt (b : List Byte) (o n : Nat) : Nat := leNat ((b.drop o).take n)

/-- KEYS contents (R279). -/
def keysOk (b : List Byte) : Bool :=
  b.length == 8 && numAt b 0 1 ≤ 13 && numAt b 0 1 + numAt b 1 1 ≤ 18 && numAt b 2 6 == 0

/-- PART contents (R688, R692). -/
def partOk (b : List Byte) : Bool :=
  b.length == 2312 && numAt b 0 1 == 1 && numAt b 1 7 == 0 &&
    (List.range 16).all (fun p =>
      let st := numAt b (136 + 8 * p) 4
      let n := numAt b (140 + 8 * p) 4
      st < 2 ^ 21 && n < 2 ^ 21 && 16 * st + 16 * n ≤ 0x1800000) &&
    (List.range 1024).all (fun c => bitAt (numAt b 8 128) c || numAt b (264 + 2 * c) 2 == 0)

/-- MODE contents (R689). -/
def modeOk (b : List Byte) : Bool :=
  b.length == 16 && numAt b 0 1 == 1 && numAt b 1 1 < 8 && 1 ≤ numAt b 2 1 && numAt b 2 1 ≤ 8 && numAt b 3 1 == 0 &&
    numAt b 4 2 != 0 && numAt b 6 2 != 0 && numAt b 8 2 != 0 && numAt b 10 2 ≤ 1 && numAt b 12 4 == 0

/-- A listen or report word of a HORIZ section is in range (R690). -/
def horizWordOk (gs : List Nat) (listen tund used : Bool) (w : Nat) : Bool :=
  let reserved := if tund || !listen then bits w 30 8 else bits w 29 23 * 2 + bits w 15 8
  reserved == 0 && (!bitAt w 31 ||
    (used && gs.contains (bits w 7 0) && (listen || bits w 7 0 != 255) &&
      (tund || !listen || bitAt w 30 || (bits w 22 16 != 0 && bits w 22 16 ≤ 64))))

/-- HORIZ contents (R690, R692); `inUse` are the cores in use. -/
def horizOk (inUse : Nat) (b : List Byte) : Bool :=
  let n := numAt b 2 2
  let gs := (List.range n).map (fun i => numAt b (8 + 8 * i) 1)
  let w := fun c k => numAt b (8 + 8 * n + 64 * c + 4 * k) 4
  1 ≤ n && n ≤ 256 && b.length == 65608 + 8 * n && numAt b 0 1 == 1 && numAt b 1 1 == 0 && numAt b 4 4 == 0 &&
    gs.dedup.length == n && gs.contains 255 &&
    (List.range n).all (fun i => numAt b (9 + 8 * i) 3 == 0 && numAt b (12 + 8 * i) 4 / 2 ^ 28 == 1) &&
    (List.range 1024).all (fun c => (List.range 8).all (fun k =>
      horizWordOk gs true false (bitAt inUse c) (w c k) && horizWordOk gs false false (bitAt inUse c) (w c (8 + k)))) &&
    (List.range 8).all (fun k => horizWordOk gs true true true (w 1024 k) && horizWordOk gs false true true (w 1024 (8 + k)))

/-- Records of a settings block from `o` on: tag, offset of the value, length; none where they do not fill it. -/
def settingsRecs (b : List Byte) : Nat → Nat → Option (List (Nat × Nat × Nat))
  | 0, _ => none
  | fuel + 1, o =>
    if o = b.length then some []
    else if b.length < o + 4 || b.length < o + 4 + numAt b (o + 2) 2 then none
    else (settingsRecs b fuel (o + 4 + numAt b (o + 2) 2)).map ((numAt b o 2, o + 4, numAt b (o + 2) 2) :: ·)

/-- Value of a record of a settings block, or what stands for an absent one. -/
def settingOf (b : List Byte) (tag absent : Nat) : Nat :=
  match (settingsRecs b 4096 8).getD [] |>.find? (fun r => r.1 == tag) with
  | some r => numAt b r.2.1 r.2.2
  | none => absent

/-- A record's value is in its chapter's range (R380, R540). -/
def recordOk (b : List Byte) (r : Nat × Nat × Nat) : Bool :=
  let v := numAt b r.2.1 r.2.2
  match r.1 with
  | 0x0B01 => r.2.2 == 1 && v ≤ 2
  | 0x0B02 => r.2.2 == 1 && v ≤ 3
  | 0x0B03 => r.2.2 == 4
  | 0x0B04 => r.2.2 == 1 && v ≤ 1
  | 0x0B05 => r.2.2 == 2 && v ≤ 4095
  | 0x1101 => r.2.2 == 1
  | 0x1102 => r.2.2 == 1 && v ≤ 3
  | _ => true

/-- Bytes that a settings block of 4 KiB holds before its CRC (R62). -/
def settingsRoom : Nat := 4092

/-- SETTINGS contents (R691): a settings block of R62 without its CRC, so no longer than one. -/
def settingsOk (major minor : Nat) (b : List Byte) : Bool :=
  8 ≤ b.length && b.length ≤ settingsRoom && numAt b 0 2 == major && numAt b 2 2 == minor && numAt b 4 4 == b.length - 8 &&
    match settingsRecs b 4096 8 with
    | none => false
    | some rs => (rs.map (·.1)).dedup.length == rs.length && rs.all (recordOk b)

/-- A byte of a plan table is legal for domain `d` in table `t` of `n` run profiles (R533, R534). -/
def planByteOk (inUse n t d x : Nat) : Bool :=
  let st := bits x 7 6
  let carries := d < 128 && (List.range 8).any (fun k => bitAt inUse (lcnOf (d / 8) (d % 8 * 8 + k)))
  bits x 3 0 == 0 &&
    (if 177 ≤ d then x == 0
     else if d = 176 then x == 0
     else if d < 128 then !carries || (st != 3 && (st != 2 || n ≤ t))
     else if d < 160 then st ≤ 1 && bits x 5 4 ≤ 2
     else bits x 5 4 == 0 && ((163 ≤ d && d < 175) || st ≤ 1))

/-- PLAN contents (R533, R534). -/
def planOk (inUse : Nat) (b : List Byte) : Bool :=
  let n := numAt b 1 1
  numAt b 0 1 == 1 && 1 ≤ n && n ≤ 4 && numAt b 2 1 < n && numAt b 3 5 == 0 && b.length == 8 + 192 * (n + 2) &&
    (List.range (n + 2)).all (fun t => (List.range 192).all (fun d => planByteOk inUse n t d (numAt b (8 + 192 * t + d) 1)))

/-- Destination of an INGRESS record is allowed (R386). -/
def ingressDest (o n : Nat) : Bool :=
  let within := fun lo hi => lo ≤ o && o + n ≤ hi
  within 0 4 || (List.range 4).any (fun p => within (0x100 + 64 * p) (0x108 + 64 * p)) || within 0x1000 0x1200 || within 0x800000 0x1000000

/-- Records of an INGRESS section: destination offset and data; none where a rule of R386 is broken. -/
def ingressRecs : Nat → List (Nat × Nat) → List Byte → Option (List (Nat × List Byte))
  | 0, _, _ => none
  | _ + 1, _, [] => some []
  | fuel + 1, met, b =>
    let o := numAt b 0 4
    let n := numAt b 4 4
    if b.length < 8 || n = 0 || n % 4 ≠ 0 || b.length < 8 + n || !ingressDest o n || met.any (fun r => r.1 < o + n && o < r.2) then none
    else (ingressRecs fuel ((o, o + n) :: met) (b.drop (8 + n))).map ((o, (b.drop 8).take n) :: ·)

/-- PART applied: cores in use, journals, pairing (R688). -/
def State.applyPartSection (s : State) (b : List Byte) : State :=
  let s := { s with img := { s.img with inUse := numAt b 8 128, paired := numAt b 264 2048 } }
  (List.range 16).foldl (fun s p => (s.wf (Reg.VLT_JRNL p) 20 0 (numAt b (136 + 8 * p) 4)).wf (Reg.VLT_JLEN p) 20 0 (numAt b (140 + 8 * p) 4)) s

/-- HORIZ applied (R690). -/
def State.applyHoriz (s : State) (b : List Byte) : State :=
  let n := numAt b 2 2
  let w := fun c k => BitVec.ofNat 32 (numAt b (8 + 8 * n + 64 * c + 4 * k) 4)
  let s := { s with img := { s.img with horizKeys := (List.range n).foldl (fun m i => mapSet 0 m (numAt b (8 + 8 * i) 1) (numAt b (12 + 8 * i) 4)) [], horiz := b } }
  let s := (List.range 1024).foldl (fun s c => (List.range 8).foldl (fun s k =>
    (s.wr (Reg.NCR_HZLIST c k) (w c k)).wr (Reg.NCR_HZRPT c k) (w c (8 + k))) s) s
  (List.range 8).foldl (fun s k => (s.wr (Reg.TND_HZDOWN k) (w 1024 k)).wr (Reg.TND_HZRPT k) (w 1024 (8 + k))) s

/-- CONFIG packets that carry a section to its targets, 256 bytes each (R252). What the last flit of a section holds behind the
section's own bytes the spec does not say; the model's choice (assumption log 43) is that the packet carries the section's bytes
alone, so that nothing behind them is written (R50, R81). -/
def State.sendConfig (s : State) (key a : Nat) : Nat → List Byte → State
  | 0, _ => s
  | _ + 1, [] => s
  | fuel + 1, b :: bs =>
    let d := (b :: bs).take 256
    sendConfig (s.inject 1060 6 key a ((d.length + 15) / 16) 0 d) key (a + 256) fuel ((b :: bs).drop 256)

/-- Base of a target window over the system bus (R47). -/
def scopeBase (scope t : Nat) : Nat := match scope with | 3 => vltWin t | 4 => vltWin t + 0x1FF8000 | _ => 0x2000000

/-- A section delivered to its targets (R46, R252): core and router scope over the mesh, the others over the system bus. STRIDE
has 10 bits in the key; only an entry of one target has a larger one. -/
def State.deliverSection (s : State) (e : AlmEntry) (add : Nat) (x : List Byte) : State :=
  if e.scope = 1 || e.scope = 2 then
    s.sendConfig (e.first * 2 ^ 22 + (e.count - 1) * 2 ^ 12 + e.stride % 1024 * 4 + (if e.scope = 2 then 2 else 0)) (e.dest + add) x.length x
  else e.targets.foldl (fun s t => s.rawWrite (scopeBase e.scope t + e.dest) x.length x) s

/-- The descriptors that keep TND_ERRSTAT.DESC set (R394): enabled and invalid. -/
def State.badDesc (s : State) (n : Nat) : Bool :=
  let w := fun k => (s.rd (Reg.TND_DESC n k)).toNat
  let mode := bits (w 0) 30 29
  let width := [16, 32, 64].getD (bits (w 0) 16 15) 0
  let past_ := fun pos len => width < pos + len
  let imgw := bits (w 1) 31 16
  let imgh := bits (w 1) 15 0
  let past := fun unit len => 0x800000 < unit * 64 + len
  bitAt (w 0) 31 &&
    (bits (w 0) 16 15 == 3 || bits (w 6) 23 12 == 0 ||
      (mode == 0 && (past_ (bits (w 1) 31 26) (bits (w 1) 25 22 + 1) || past_ (bits (w 1) 21 16) (bits (w 1) 15 12 + 1) ||
        (bitAt (w 1) 5 && past_ (bits (w 1) 11 6) 1))) ||
      (mode != 0 && (imgw == 0 || imgh == 0 || 4194304 < imgw * imgh)) ||
      (mode == 1 && past (bits (w 3) 31 15) (imgw * imgh)) ||
      (mode == 1 && bitAt (w 3) 14 && past (bits (w 4) 31 15) (2 * ((imgh + 15) / 16) * ((imgw + 15) / 16))) ||
      (mode == 2 && past (bits (w 3) 31 15) (2 * imgw * imgh)) ||
      (bitAt (w 0) 14 && past (bits (w 7) 31 15) (4 * bits (w 7) 14 0)))

/-- TND_ERRSTAT.DESC set while an enabled descriptor is invalid (R394). -/
def State.showDesc (s : State) : State := if (List.range 16).any s.badDesc then s.setBit Reg.TND_ERRSTAT 6 else s

/-- The cores in use by which a HORIZ or PLAN section is judged (R534, R690): those of the image's own PART section, wherever it
stands in the Almanac; a delta image has none of its own, and the active image's hold. None where the PART section itself fails. -/
def State.usedBy (s : State) (j : ImgJob) : Option Nat :=
  if j.delta then some s.img.inUse
  else match (s.almanac j).find? (fun e => e.type == 1) with
    | none => none
    | some e => match s.expand j e with
      | .ok x => if partOk x then some (numAt x 8 128) else none
      | .error _ => none

/-- A section that passed check 8 is checked and applied (R64 order 5, R69): the code on failure. -/
def State.applySection (s : State) (j : ImgJob) (e : AlmEntry) (x : List Byte) : Except Nat (State × ImgJob) :=
  let bad := fun (b : Bool) (r : State × ImgJob) => if b then Except.ok r else .error 0x09
  match e.type with
  | 0x01 => bad (partOk x) (s.applyPartSection x, j)
  | 0x02 => bad (modeOk x) (s, { j with mode := x })
  | 0x03 => bad (keysOk x) ({ s with img := { s.img with tagBits := numAt x 0 1, indexBits := numAt x 1 1 } }, j)
  | 0x09 => bad (horizOk ((s.usedBy j).getD (2 ^ 1024 - 1)) x) (s.applyHoriz x, j)
  | 0x0A => bad (planOk ((s.usedBy j).getD 0) x) ({ s with img := if j.delta then { s.img with planNext := x } else { s.img with plan := x } }, j)
  | 0x0B =>
    match ingressRecs (x.length + 1) j.ranges x with
    | none => .error 0x09
    | some rs => .ok ((rs.foldl (fun s r => s.rawWrite (0x2000000 + r.1) r.2.length r.2) s).showDesc,
        { j with ranges := j.ranges ++ rs.map (fun r => (r.1, r.1 + r.2.length)) })
  | 0x0F => bad (settingsOk (s.srcNum j 24 2) (s.srcNum j 26 2) x) (s, { j with settings := x })
  | 0x04 => .ok (s.deliverSection e (if j.delta then 0x8000 * (1 - s.rf (Reg.RTR_BANK 18) 0 0) else 0) x, j)
  | t => if 128 ≤ t then .ok (s, j) else .ok (s.deliverSection e 0 x, j)

/-- Every routing bank `g` copied into the other bank (R69, R308). -/
def State.copyBank (s : State) (g : Nat) : State :=
  (List.range 1024).foldl (fun s l =>
    let from_ := rtrWin l + 0x4000 + 0x8000 * g
    let to_ := rtrWin l + 0x4000 + 0x8000 * (1 - g)
    let kept := mapClear s.mem to_ (to_ + 0x4000)
    let copy := (s.mem.filter (fun e => from_ ≤ e.1 && e.1 < from_ + 0x4000)).map (fun e => (e.1 - from_ + to_, e.2))
    { s with mem := copy.foldl (fun m e => mapSet 0 m e.1 e.2) kept }) s

/-- The registers of a range set to 0. -/
def State.zeroRegs (s : State) (lo : Nat) : Nat → State
  | 0 => s
  | n + 1 => zeroRegs (if (regRow lo).isSome then s.wr lo 0 else s) (lo + 4) n

/-- A byte of storage that a section type may write, of the table store's reserved ranges (R79), or of the history records of
learning (R64 order 4). -/
def clearedByte (a : Nat) : Bool :=
  if 0x200000000 ≤ a then
    let o := (a - 0x200000000) % 0x2000000
    a < 0x220000000 && (o < 0x1800000 || (0x1FFA000 ≤ o && o < 0x1FFD000))
  else if 0x100000000 ≤ a then
    let o := (a - 0x100000000) % 0x400000
    o < 0x24000 || (0x28000 ≤ o && o < 0x30000)
  else if 0x10000000 ≤ a then
    let o := (a - 0x10000000) % 0x10000
    a < 0x14000000 && ((0x4000 ≤ o && o < 0x8000) || 0xC000 ≤ o)
  else 0x2800000 ≤ a && a < 0x3000000

/-- Everything that a section type may write is cleared (R64 order 4). -/
def State.clearFabric (s : State) : State :=
  let s := { s with mem := s.mem.filter (fun e => !clearedByte e.1), upsets := s.upsets.filter (fun e => !clearedByte e.1),
                    poison := s.poison.filter (fun e => !clearedByte e.1) }
  let s := (List.range 1024).foldl (fun s c =>
    let w := coreWin c
    ((((((s.zeroRegs (w + 0x300010) 8).zeroRegs (w + 0x300100) 64).zeroRegs (w + 0x310010) 8).zeroRegs (w + 0x311000) 512).zeroRegs (w + 0x313000) 256).zeroRegs
      (w + 0x320000) 1).zeroRegs (w + 0x321000) 512) s
  let s := (List.range 16).foldl (fun s p => s.zeroRegs (vltWin p + 0x1FF8100) 64) s
  (((List.range 4).foldl (fun s p => s.zeroRegs (0x2000100 + 64 * p) 2) (s.zeroRegs 0x2000000 1)).zeroRegs 0x2001000 128)

/-- A core's state beyond its registers and memories when a full load clears the fabric; records still held for the host
stay. -/
def CoreInt.cleared (k : CoreInt) : CoreInt :=
  { k with eqHead := 0, eqPresent := 0, poolHead := [], poolTail := [], poolRd := 0, poolFree := [], overflowed := false, cur := none,
           active := [], plan := [], run := none, sweep := 0, stopped := false, timedOut := false, fwdWait := [], relDone := [],
           popped := [], selUp := [], replay := none, tapOn := [] }

/-- What an image declares, taken back; the commands stay. -/
def ImgInt.blank (x : ImgInt) : ImgInt := { ImgInt.init with job := x.job, loaded := x.loaded }

/-- The fabric is cleared, and nothing of an image is left (R64 order 4, R65, R634). -/
def State.clearAll (s : State) : State :=
  let s := { s.clearFabric with cores := (s.cores.map (fun (e : Nat × CoreInt) => (e.1, e.2.cleared))).filter (fun e => e.2 != CoreInt.init) }
  let s := { s with img := s.img.blank }
  (List.range 1024).foldl (fun s l => s.wr (Reg.RTR_BANK l) 0) (s.zeroRegs 0x5000 512)

/-- A segment or axon entry word of vault `p` is in range (R158). -/
def State.segInRange (s : State) (p w : Nat) : Bool :=
  let step := fun (acc : Bool × Nat) j =>
    let y := s.synapse p w j acc.2
    (acc.1 && y.last ≤ 0x1800000 && y.tgt + y.port / 2 ≤ 8191, y.tgt)
  ((List.range (segCount w)).foldl step (true, bits w 50 38)).1

/-- Check 10 (R57): the core and axon index of the first entry out of range. -/
def State.axonBad (s : State) : Option (Nat × Nat) :=
  (List.range 1024).findSome? (fun c => (List.range (s.rf (Reg.NCR_AXLEN c) 14 0)).findSome? (fun a =>
    if 0x1800000 ≤ s.axonOff c a || !s.segInRange (partOf c) (s.axonWord c a) then some (c, a) else none))

/-- The digest of an image (R53). -/
def State.digestOf (s : State) (j : ImgJob) : List Byte := sha256 (s.src j 0 (s.imgLen j - 160))

/-- Check 11 (R54, R55): the code on failure. -/
def State.signatureBad (s : State) (j : ImgJob) : Option Nat :=
  let o := s.imgLen j - 160
  let b := s.src j o 160
  let k := numAt b 4 1
  if 4 ≤ k || s.slotState k ≠ 1 || mapGet 0 s.sec.hashes k ≠ beNat (sha256 ((b.drop 8).take 64)) then some 0x0B
  else if numAt b 0 4 = 0x4E474953 && numAt b 5 1 = 1 && (s.srcNum j 5 1 ≠ 0 || (numAt b 6 2 = 0 && numAt b 136 20 = 0)) &&
      numAt b 156 4 = crc32 (b.take 156) && ecdsaOk ((b.drop 8).take 64) (s.digestOf j) ((b.drop 72).take 64) then none
  else some 0x0A

/-- DATA of a kind 0x0010 entry (R76, R519): the source, coded as SMC_IMGSTAT.SOURCE codes it, which is the model's choice
(assumption log 43), and the first 8 bytes of the image digest. -/
def logData (source : Nat) (digest : List Byte) : List Byte := leBytes 1 source ++ digest.take 8

/-- An image command is recorded (R76, R519). An image that fails at its activation has its digest in SMC_IMGDIG. -/
def State.logImage (s : State) (j : ImgJob) (result : Nat) : State :=
  let src := match j.src with | 0 => Src.pcie | 1 => .smbus | 3 => .jtag | _ => .smc
  s.logAs src 0x10 result j.word (logData (j.source + 1) (if result = 0x0D then s.imgDigest else s.digestOf j))

/-- SMC_IMGSTAT.STATE: 0 EMPTY, 1 LOADING, 2 LOADED, 3 ACTIVE. -/
def State.imgState (s : State) : Nat := s.rf Reg.SMC_IMGSTAT 31 29

/-- SMC_IMGSTAT.BUSY returns to 0, which sends vector 1 (R421). -/
def State.imgIdle (s : State) : State :=
  let s' := s.wf Reg.SMC_IMGSTAT 26 26 0
  if s.bit Reg.SMC_IMGSTAT 26 then s'.msix 1 else s'

/-- A command of the image loader ends with a result. -/
def State.imgDone (s : State) (code entry : Nat) : State :=
  { (s.imgIdle.wf Reg.SMC_IMGSTAT 19 12 code).wf Reg.SMC_IMGSTAT 11 0 entry with img := { s.img with job := none } }

/-- No image is left (R65). -/
def State.imgEmpty (s : State) : State :=
  let s := ((((s.wf Reg.SMC_IMGSTAT 31 27 0).wf Reg.SMC_IMGSTAT 24 24 0).wf Reg.SMC_IMGSTAT 25 25 0).wf Reg.SMC_IMGSTAT 22 22 0).wf Reg.SMC_RUNSTAT 31 29 0
  let s := (List.range 8).foldl (fun s i => s.wr (Reg.SMC_IMGDIG i) 0) s
  { (s.wr Reg.SMC_MODEEXP 0) with img := s.img.blank }

/-- A full load ends before it has cleared anything (R65, R73): STATE is what the load found, and an image that it has stopped is
STOPPED. -/
def State.loadUndone (s : State) (j : ImgJob) : State :=
  let s := s.wf Reg.SMC_IMGSTAT 31 29 j.was
  if j.phase = 1 && j.was = 3 then (s.wf Reg.SMC_RUNSTAT 31 29 5).retarget else s

/-- RESULT of the image loader, where no entry is named. -/
def State.imgResult (s : State) (r : Nat) : State := (s.wf Reg.SMC_IMGSTAT 19 12 r).wf Reg.SMC_IMGSTAT 11 0 0

/-- A load begins (R57, R64, R69): the code and entry of the first check of 1 to 7 that fails. A load from a slot sets the marker
(R60). -/
def State.beginLoad (s : State) (j : ImgJob) : Except (Nat × Nat) State :=
  match s.precheck j with
  | some e => .error e
  | none =>
    let s := s.wf Reg.SMC_IMGSTAT 26 26 1
    if j.delta then
      let s := s.copyBank (s.rf (Reg.RTR_BANK 18) 0 0)
      .ok { s.wf Reg.SMC_IMGSTAT 25 25 0 with img := { s.img with job := some { j with phase := 2 }, planNext := [] } }
    else
      let was := s.imgState
      let s := if j.source < 2 then s.store markerAddr (leBytes 1 (j.source + 1)) else s
      .ok { s.wf Reg.SMC_IMGSTAT 31 29 1 with img := { s.img with job := some { j with phase := if was = 3 then 0 else 1, was := was } } }

/-- A job that loads a slot. -/
def State.slotJob (s : State) (slot : Nat) (fallback own : Bool) (word src : Nat) : ImgJob :=
  let pl := (s.slotPlace slot).getD (0, 0)
  ⟨false, slot, pl.1, pl.2, false, fallback, own, 0, 0, [], [], [], slot, word, src, false, 0⟩

/-- A job that reads the host image that SMC_IMGHADDR and SMC_IMGHLEN name. -/
def State.hostJob (s : State) (install : Bool) (slot word src : Nat) : ImgJob :=
  let a := (s.rd Reg.SMC_IMGHADDR_LO).toNat + 2 ^ 32 * (s.rd Reg.SMC_IMGHADDR_HI).toNat
  let j : ImgJob := ⟨install, 2, a, (s.rd Reg.SMC_IMGHLEN).toNat, false, false, false, 0, 0, [], [], [], slot, word, src, false, 0⟩
  { j with delta := !install && s.srcNum j 14 1 == 1 }

/-- The slot that a start or a fallback from the host loads (R61). -/
def State.bootSlot (s : State) : Option Nat :=
  let p := s.rf Reg.SMC_IMGBOOT 0 0
  if s.slotValid p then some p else if s.slotValid (1 - p) then some (1 - p) else none

/-- The load that follows a failed one (R66), where no image is left. -/
def State.fallback (s : State) (j : ImgJob) : State :=
  let next := if j.fallback then none
              else if j.source < 2 then (if s.slotValid (1 - j.source) then some (1 - j.source) else none)
              else if s.bit Reg.SMC_IMGBOOT 1 then s.bootSlot else none
  match next with
  | none => s.imgEmpty
  | some slot =>
    let k := s.slotJob slot true true j.word 2
    match s.beginLoad k with
    | .ok s => s
    | .error e => ((s.logImage k e.1).imgEmpty).imgDone e.1 e.2

/-- A load fails (R60, R65, R66, R69). -/
def State.imgFail (s : State) (j : ImgJob) (code entry : Nat) : State :=
  let s := (s.logImage j code).imgDone code entry
  if j.delta then { s.wf Reg.SMC_IMGSTAT 25 25 0 with img := { s.img with planNext := [] } }
  else
    let s := if j.source < 2 then (s.slotFail j.source).store markerAddr [0] else s
    s.imgEmpty.clearAll.fallback j

/-- A settings block can be read (R62): empty ones count as readable. -/
def State.settingsBlank (s : State) (i : Nat) : Bool := s.num (settingsAddr i) 8 == 0

/-- Bytes of a settings block without its CRC. -/
def State.settingsBytes (s : State) (i : Nat) : List Byte := s.bytes (settingsAddr i) (8 + min 4084 (s.num (settingsAddr i + 4) 4))

/-- The block of an image may be read by schema version `major`, `minor` (R62): its CRC and major are right, and it holds every
record that the schema marks as required, which the spec does not list (Config.requiredTags, assumption log 43). -/
def State.settingsRead (s : State) (i major minor : Nat) : Bool :=
  let b := s.settingsBytes i
  s.num (settingsAddr i) 2 == major && s.num (settingsAddr i + 4) 4 ≤ 4084 && s.num (settingsAddr i + b.length) 4 == crc32 b &&
    match settingsRecs b 4096 8 with
    | none => false
    | some rs => (Config.requiredTags major minor).all (fun t => rs.any (fun r => r.1 == t))

/-- A settings block written with its CRC; one that 4 KiB cannot hold is not written (R62). -/
def State.settingsWrite (s : State) (i : Nat) (b : List Byte) : State :=
  if b.length ≤ settingsRoom then s.store (settingsAddr i) (b ++ leBytes 4 (crc32 b)) else s

/-- Settings of the image in force. -/
def State.settings (s : State) : List Byte := s.settingsBytes (s.rf Reg.SMC_IMGSTAT 28 27 - 1)

/-- A setting of the image in force (R380). -/
def State.setting (s : State) (tag absent : Nat) : Nat :=
  if s.rf Reg.SMC_IMGSTAT 28 27 = 0 then absent else settingOf s.settings tag absent

/-- Participants of a commit (SMC_MODEEXP, R226): cores in use, routers in service, Temper units, Tundish and Ladle. -/
def State.modeExp (s : State) : Nat :=
  s.usedCores.length + ((List.range 1024).filter (fun l => s.domOn (128 + partOf l))).length + 18

/-- The sections that the copy takes, in order (R598), each as an entry with its stored bytes: of a CTX section the bytes in the
configuration ranges alone. -/
def State.copySections (s : State) (j : ImgJob) : List (AlmEntry × List Byte) :=
  let es := s.almanac j
  let whole := fun (e : AlmEntry) => (e, s.src j e.off e.len)
  let part : AlmEntry → Nat → Nat → List (AlmEntry × List Byte) := fun e lo hi =>
    let a := max e.dest lo
    let z := min (e.dest + e.exp) hi
    if z ≤ a then [] else match s.expand j e with
      | .ok x =>
        let b := (x.drop (a - e.dest)).take (z - a)
        [({ e with enc := 0, dest := a, len := b.length, exp := b.length, crc := crc32 b }, b)]
      | .error _ => []
  let ctx := (es.filter (fun e => e.type == 7)).flatMap (fun e => part e 0x300010 0x300030 ++ part e 0x300100 0x300200)
  ctx ++ (es.filter (fun e => e.type == 5 || e.type == 6 || e.type == 0x0E || e.type == 0x0D)).map whole ++
    (es.filter (fun e => e.type == 8)).map whole

/-- Order 8 of a full load (R64, R689): the image is LOADED, and the SMC keeps what its recovery copy will hold (R74, R598). -/
def State.imgLoaded (s : State) (j : ImgJob) : State :=
  let m := j.mode
  let d := s.digestOf j
  let s := (((s.wf Reg.SMC_IMGSTAT 31 29 2).wf Reg.SMC_IMGSTAT 28 27 (j.source + 1)).wf Reg.SMC_IMGSTAT 24 24 0).wf Reg.SMC_IMGSTAT 25 25 0
  let s := { s.wf Reg.SMC_IMGSTAT 22 22 (if j.fallback then 1 else 0) with img := { s.img with kept := s.copySections j } }
  let s := (List.range 8).foldl (fun s i => s.wr (Reg.SMC_IMGDIG i) (BitVec.ofNat 32 (numAt d (4 * i) 4))) s
  let s := ((s.wf Reg.SMC_STEPCFG 27 24 (numAt m 2 1)).wf Reg.SMC_STEPCFG 23 23 (numAt m 1 1 % 2)).wf Reg.SMC_STEPCFG 15 0 (numAt m 4 2)
  let s := (s.wf Reg.SMC_EPOCH 31 16 (numAt m 8 2)).wf Reg.SMC_EPOCH 15 0 (numAt m 6 2)
  let opt := if numAt m 10 2 = 1 then settingOf (s.settingsBytes j.source) 0x0B01 0 else 0
  let learn := if opt = 0 then numAt m 1 1 / 4 % 2 else opt - 1
  let s := (((s.wf Reg.SMC_RUNSTAT 27 27 (numAt m 1 1 / 2 % 2)).wf Reg.SMC_RUNSTAT 26 26 learn).wf Reg.SMC_RUNSTAT 31 29 1).wr Reg.SMC_MODEEXP (BitVec.ofNat 32 s.modeExp)
  let s := (List.range 1024).foldl (fun s c => (s.setPhase c 5).wr (Reg.RTR_BANK c) 0) s
  (s.logImage j 0).imgDone 0 0

/-- The image's first START has been applied (R60, R68): ACTIVE, the marker cleared, the slot's failures forgotten; an INSTALL
may have emptied the slot meanwhile, and its state stays. -/
def State.imgActive (s : State) : State :=
  if s.imgState ≠ 2 then s
  else
    let src := s.rf Reg.SMC_IMGSTAT 28 27
    let s := (s.wf Reg.SMC_IMGSTAT 31 29 3).store markerAddr [0]
    if src = 1 || src = 2 then s.putSlot (src - 1) (s.rf (Reg.SMC_IMGSLOT (src - 1)) 31 30) 0 else s

end Sys2Proof.Machine
end

