-- ==== Sys2Proof/Machine/Temper.lean ====
section
/-! DEFINITION. The Temper units and checkpoints (R341 to R373, R198 to R203, R591 to R597): pre records, rewards, the
epoch-end pass with its two passes over the plastic synapses, and the checkpoint that runs beside it. -/

namespace Sys2Proof.Machine

/-- Rule set of a Temper unit: a number in it (R353). -/
def State.rule (s : State) (p r off n : Nat) : Nat := s.num (vltWin p + 0x1FFA000 + 0x400 * r + off) n

/-- A rule set may be used: VALID, no reserved bit set (R354). -/
def State.ruleOk (s : State) (p r : Nat) : Bool :=
  let w := fun off => s.rule p r off 4
  bits (w 0) 31 28 == 8 && bits (w 0xC) 31 16 == 0 && bits (w 0x10) 15 4 == 0 && s.rule p r 0x1C 36 == 0 && s.rule p r 0x240 448 == 0

/-- Entry `i` of a curve (R353). -/
def State.curve (s : State) (p r base i : Nat) : Nat := s.rule p r (base + 2 * i) 2

/-- The decay of R345. -/
def State.decay (s : State) (p r v e base ksh : Nat) : Nat := (v * s.curve p r base (min (e / 2 ^ ksh) 63) + 16384) / 2 ^ 15

/-- Window offset of the pre entry at index `i` of the pre range (R344). -/
def State.preOff (s : State) (p i : Nat) : Nat := 16 * s.rf (Reg.TMP_PREBASE p) 20 0 + 16 * i

/-- Word `k` of a pre entry. -/
def State.preWord (s : State) (p i k : Nat) : Nat := s.num (vltWin p + s.preOff p i + 4 * k) 4

/-- A pre entry's trace, stamp and learning generation written (R347, R360). -/
def State.prePut (s : State) (p i trace stamp lgen : Nat) : State :=
  let a := vltWin p + s.preOff p i
  (((s.putNum a 2 trace).putNum (a + 4) 4 stamp).putNum (a + 8) 2 lgen).learnWords p 1

/-- A Temper unit reads `n` bytes of the vault from window offset `off` (R175, R176, R182). -/
def State.tmpRead (s : State) (p off n : Nat) : State := (s.learnWords p (vaultSpan off n)).vaultRead p off n

/-- Learning generation of a unit (R371). -/
def State.lgen (s : State) (p : Nat) : Nat := s.rf (Reg.TMP_STAT p) 15 0

/-- Phase of a unit (TMP_STAT.PHASE): 0 IDLE, 1 PASS1, 2 BETWEEN, 3 PASS2, 4 CHECKPOINT, 5 SAVE_WAIT. -/
def State.tmpPhase (s : State) (p : Nat) : Nat := s.rf (Reg.TMP_STAT p) 31 29
/-- The state with a unit's phase set. -/
def State.setTmpPhase (s : State) (p ph : Nat) : State := s.wf (Reg.TMP_STAT p) 31 29 ph

/-- One pre record applied (R347). A record whose entry cannot be read changes nothing (DESIGN CHOICE, assumption log 45). -/
def State.preApply (s : State) (p n u m : Nat) : State :=
  let i := n - s.rf (Reg.TMP_PRELO p) 21 0
  let w0 := s.preWord p i 0
  let stamp := s.preWord p i 1
  let same := s.preWord p i 2 % 2 ^ 16 == s.lgen p
  let r := bits w0 30 28
  let bad := s.poisoned p (s.preOff p i) 16
  let s := s.tmpRead p (s.preOff p i) 16
  if bad then s
  else if !bitAt w0 31 || (same && stepGe stamp u) then s.bump (Reg.TMP_PREDISCNT p) 1
  else
    let e := if same then stepSub u stamp else 0
    let v := if same then bits w0 15 0 else 0
    let x := s.decay p r v e 0x40 (bits (s.rule p r 0 4) 27 24) + s.rule p r 0 2 * m / 2 ^ 8
    (s.prePut p i (satN 16 x) u (s.lgen p)).bump48 (Reg.TMP_PREREC p) 1

/-- PRE_RECORD_APPLY (R346, R347). -/
def execPreRecordApply (p : Nat) (s : State) : Out :=
  .next <|
    match (s.temper p).pre with
    | [] => s
    | (_, n, u, m) :: rest => (s.setTemper p { s.temper p with pre := rest }).preApply p n u m

/-- A reward judged against the open epoch (R352). -/
def State.rewardAdd (s : State) (p r k : Nat) : State :=
  let ko := (s.temper p).epoch % 2 ^ 32
  if k = ko then
    (s.wr (Reg.TMP_REWCUR p) (s.rd (Reg.TMP_REWCUR p) + BitVec.ofInt 32 (toSigned 16 r))).wf (Reg.TMP_REWSTAT p) 11 0
      (satN 12 (s.rf (Reg.TMP_REWSTAT p) 11 0 + 1))
  else if k = (ko + 1) % 2 ^ 32 then
    (s.wr (Reg.TMP_REWNEXT p) (s.rd (Reg.TMP_REWNEXT p) + BitVec.ofInt 32 (toSigned 16 r))).wf (Reg.TMP_REWSTAT p) 23 12
      (satN 12 (s.rf (Reg.TMP_REWSTAT p) 23 12 + 1))
  else s.bump (Reg.TMP_REWLATECNT p) 1

/-- REWARD_RECEIVE (R329, R351): the unit pops the next message of its reward queue, reads it where it landed and releases it. -/
def execRewardReceive (p : Nat) (s : State) : Out :=
  .next <|
    let c := lcnOf p (s.rf (Reg.TMP_REWQ p) 13 8)
    let q := s.rf (Reg.TMP_REWQ p) 6 0
    let h := s.qHead c q
    if !s.bit (Reg.TMP_REWQ p) 31 || s.consumer c q ≠ 1 || h = s.qTail c q then s
    else
      let w0 := s.num (padAddr c + s.entryOff c q h) 4
      let b := s.bytes (padAddr c + bits w0 14 0) 8
      let s := s.wf (Reg.MSG_QPTR c q) 17 9 ((h + 1) % 512)
      let s := if bits w0 27 23 = 0 then s.bump (Reg.TMP_REWLATECNT p) 1 else s.rewardAdd p (leNat (b.take 2)) (leNat (b.drop 4))
      s.releaseOne c q

/-- One shift step of the random source (R363). -/
def lfsrStep (x : Nat) : Nat := if x % 2 = 1 then (x / 2) ^^^ 0x80200003 else x / 2

/-- The random source after `n` shift steps. -/
def lfsrRun : Nat → Nat → Nat
  | 0, x => x
  | n + 1, x => lfsrRun n (lfsrStep x)

/-- A draw of the random source (R363). -/
def State.lfsrDraw (s : State) (p : Nat) : State × Nat :=
  let x := lfsrRun 16 (s.rd (Reg.TMP_LFSR p)).toNat
  (s.wr (Reg.TMP_LFSR p) (BitVec.ofNat 32 x), x % 2 ^ 16)

/-- Levels of the grid of a core, by code 0x0 to 0xE (R183). -/
def State.levels (s : State) (c : Nat) : List Int := (List.range 15).map (s.level c)

/-- Smallest and largest level of a grid. -/
def lmin (ls : List Int) : Int := ls.foldl min (ls.headD 0)
/-- Largest level of a grid. -/
def lmax (ls : List Int) : Int := ls.foldl max (ls.headD 0)

/-- A weight clamped to what the grid can hold, in sixteenths of a level (R361): the value, and whether it clamped. -/
def clampWeight (ls : List Int) (v : Int) : Int × Bool :=
  let x := max (16 * lmin ls - 2048) (min (16 * lmax ls + 2047) v)
  (x, x != v)

/-- A weight encoded into CODE and FINE (R364). -/
def State.encodeWeight (s : State) (p : Nat) (ls : List Int) (v : Int) : State × Nat × Int :=
  let done := fun (s : State) (l : Int) => (s, (firstIdx (· == l) ls).getD 0, v - 16 * l)
  if v ≤ 16 * lmin ls then done s (lmin ls)
  else if 16 * lmax ls ≤ v then done s (lmax ls)
  else if v % 16 = 0 && ls.contains (v / 16) then done s (v / 16)
  else
    let lo := (ls.filter (fun l => 16 * l < v)).foldl max (lmin ls)
    let hi := (ls.filter (fun l => v < 16 * l)).foldl min (lmax ls)
    let d := s.lfsrDraw p
    let up : Bool := (d.2 : Int) * 16 * (hi - lo) < (v - 16 * lo) * 65536
    let l := if up then hi else lo
    let l := if v - 16 * l < -2048 || 2047 < v - 16 * l then (if up then lo else hi) else l
    done d.1 l

/-- A synapse word with FINE, AGE, FREE and CODE replaced (R160). -/
def synPut (w : Nat) (fine : Int) (age : Nat) (free : Bool) (code : Nat) : Nat :=
  putBits (putBits (putBits (putBits w 31 20 (toPattern 12 fine)) 19 16 age) 15 15 (if free then 1 else 0)) 11 8 code

/-- The words of one SPARSE32 segment from synapse word offset `off` on, with their target contexts, and whether the walk was
cut because a word or target lies out of range (R157, R158). -/
def State.segWords (s : State) (p : Nat) : Nat → Nat → Nat → List (Nat × Nat) × Bool
  | 0, _, _ => ([], false)
  | n + 1, off, prev =>
    let w := s.num (vltWin p + off) 4
    let t := prev + bits w 7 0
    if 0x1800000 < off + 4 || 8191 < t + bits w 13 13 then ([], true)
    else
      let r := segWords s p n (off + 4) t
      ((off, t + bits w 13 13) :: r.1, r.2)

/-- The plastic words of the segments named, in order; a cut ends the entry (R158, R362). -/
def State.segsWords (s : State) (p : Nat) : List Nat → List (Nat × Nat) × Bool
  | [] => ([], false)
  | w :: ws =>
    let r := if bits w 63 62 = 2 then s.segWords p (bits w 13 0) (bits w 37 17 * 16) (bits w 50 38) else ([], false)
    if r.2 then r else
      let t := segsWords s p ws
      (r.1 ++ t.1, t.2)

/-- Core that owns the entry at index `i` of the pre range. -/
def State.preCore (s : State) (p i : Nat) : Nat := lcnOf p (bits (s.preWord p i 0) 27 22)

/-- The SPARSE32 words of a pre entry's segments (R154, R356), and whether they were cut short (R158). -/
def State.preWords (s : State) (p i : Nat) : List (Nat × Nat) × Bool :=
  let c := s.preCore p i
  let n := s.rf (Reg.TMP_PRELO p) 21 0 + i
  let a := n - s.rf (Reg.NCR_AXBASE c) 21 0
  let word := fun k => s.num (vltWin p + 8 * (n + k)) 8
  let idx := List.range (bits (word 0) 55 53 + 1)
  let ok := idx.takeWhile (fun k => a + k < s.rf (Reg.NCR_AXLEN c) 14 0 && 8 * (n + k) + 8 ≤ 0x1800000)
  if s.poisoned p (8 * n) (8 * ok.length) then ([], false)
  else
    let r := s.segsWords p (ok.map word)
    (r.1, r.2 || ok.length < idx.length)

/-- The axon entries of a pre entry are read by the unit (R154, R182); one that cannot be read leaves the segments static, as R362
leaves the synapses of a poisoned word (DESIGN CHOICE, assumption log 45). -/
def State.preAxons (s : State) (p i : Nat) : State :=
  let n := s.rf (Reg.TMP_PRELO p) 21 0 + i
  if 0x1800000 < 8 * n + 8 then s
  else s.tmpRead p (8 * n) (min (8 * (bits (s.num (vltWin p + 8 * n) 8) 55 53 + 1)) (0x1800000 - 8 * n))

/-- Entries of the pre range. -/
def State.preLen (s : State) (p : Nat) : Nat := s.rf (Reg.TMP_PRELEN p) 21 0

/-- Channel and context through which a target is read (R131, R348). -/
def State.readVia (s : State) (c t : Nat) : Nat × Nat :=
  let g := s.govern c t
  (g, (bits (s.ctx c g) 123 116 + (if g = t then 0 else 1)) % 256)

/-- The decayed postsynaptic trace q of a target (R348). -/
def State.postTrace (s : State) (p r c t : Nat) : Nat :=
  let x := s.ctx c (s.govern c t)
  let e := if bitAt x 112 then 65535 else ((s.temper p).eLast + 2 ^ 16 - bits x 111 96) % 2 ^ 16
  s.decay p r (max 0 (ctxS16 x 95 80)).toNat e 0xC0 (bits (s.rule p r 0 4) 23 20)

/-- Address of a target's normalisation entry, where its core has them (R350). -/
def State.normAddr (s : State) (p cip t : Nat) : Option Nat :=
  let mask := (s.rd (Reg.TMP_NORMMASK_LO p)).toNat + 2 ^ 32 * (s.rd (Reg.TMP_NORMMASK_HI p)).toNat
  if bitAt mask cip then
    some (vltWin p + 16 * s.rf (Reg.TMP_NORMBASE p) 20 0 + 8 * (((List.range cip).filter (bitAt mask)).length * 8192 + t))
  else none

/-- A live synapse of magnitude `m` enters its target's sum and its channel's maximum (R361). -/
def State.measure (s : State) (p c t m : Nat) : State :=
  let s := match s.normAddr p (cipOf c) t with
    | some a =>
      let u := s.tmpRead p (a - vltWin p) 8
      if s.poisoned p (a - vltWin p) 8 then u else (u.putNum (a + 4) 4 (satN 32 (s.num (a + 4) 4 + m))).learnWords p 1
    | none => s
  let ch := s.channel c (s.readVia c t).2
  if bitAt ch 31 then
    let x := s.temper p
    s.setTemper p { x with mnew := mapSet 0 x.mnew (bits ch 30 22) (max m (mapGet 0 x.mnew (bits ch 30 22))) }
  else s

/-- The reward of a pass for a rule set (R352). -/
def State.rewardOf (s : State) (p r : Nat) : Int := (s.temper p).reward.getD (toSigned 16 (s.rule p r 0xC 2))

/-- The updated weight of R361 before it is clamped, in sixteenths of a level. -/
def State.newWeight (s : State) (p r : Nat) (v : Int) (trace q : Nat) : Int :=
  let fpre := toSigned 16 (s.curve p r 0x140 (min (trace / 2 ^ 10) 63))
  let fpost := toSigned 16 (s.curve p r 0x1C0 (min (q / 2 ^ 9) 63))
  let h := asr (fpre * fpost) 15
  let gate := fun (k : Nat) (x : Int) => if bitAt (s.rule p r 0 4) (16 + k) then asr (x * s.rewardOf p r) 8 else x
  let th := gate 0 (toSigned 16 (s.rule p r 4 2) * h)
  let tp := gate 1 (toSigned 16 (s.rule p r 6 2) * fpre)
  let tq := gate 2 (toSigned 16 (s.rule p r 8 2) * fpost)
  let td := gate 3 (-((s.rule p r 10 2 : Int) * v) * 256)
  asr (v * 2 ^ 15 + asr (th + tp + tq + td) 8 + 2 ^ 14) 15

/-- A clamp is counted (TMP_WSATCNT). -/
def State.wsat (s : State) (p : Nat) (b : Bool) : State := if b then s.bump (Reg.TMP_WSATCNT p) 1 else s

/-- Exact weight of a word under a grid, in sixteenths (R196). -/
def weightOf (ls : List Int) (w : Nat) : Int := 16 * ls.getD (bits w 11 8) 0 + toSigned 12 (bits w 31 20)

/-- The unit writes a rewritten synapse word whole (R361). -/
def State.synWrite (s : State) (p off w : Nat) : State := (s.putNum (vltWin p + off) 4 w).learnWords p 1

/-- A free slot becomes live where the conditions of R369 hold. -/
def State.tryCreate (s : State) (p r c t off w trace q : Nat) : State :=
  let x := s.temper p
  let lim := s.rf (Reg.TMP_CREATEMAX p) 15 0
  if bits w 11 8 = 15 || s.rule p r 0x1A 2 = 0 || trace < s.rule p r 0x16 2 || q < s.rule p r 0x14 2 then s
  else if lim ≠ 0 && lim ≤ x.created then s.setBit (Reg.TMP_ERRSTAT p) 3
  else
    let d := s.lfsrDraw p
    let s := d.1
    if s.rule p r 0x1A 2 ≤ d.2 then s
    else
      let ls := s.levels c
      let v := clampWeight ls (toSigned 16 (s.rule p r 0x18 2))
      let e := (s.wsat p v.2).encodeWeight p ls v.1
      let s := e.1.synWrite p off (synPut w e.2.2 0 false e.2.1)
      let s := (s.setTemper p { s.temper p with created := x.created + 1, changed := true }).bump (Reg.TMP_CREATECNT p) 1
      s.measure p c t v.1.natAbs

/-- A live synapse is updated, and pruned where it is weak (R361, R368). -/
def State.learnSynapse (s : State) (p r c t off w trace q : Nat) : State :=
  let ls := s.levels c
  let v := clampWeight ls (s.newWeight p r (weightOf ls w) trace q)
  let e := (s.wsat p v.2).encodeWeight p ls v.1
  let s := e.1.bump48 (Reg.TMP_SYNUPD p) 1
  let m := v.1.natAbs
  let lim := s.rule p r 0x10 1 % 16
  let age := if lim = 0 then bits w 19 16 else if m < s.rule p r 0x12 2 then min (bits w 19 16 + 1) 15 else 0
  if lim ≠ 0 && lim ≤ age then
    ((s.synWrite p off (synPut w 0 0 true 0)).bump (Reg.TMP_PRUNECNT p) 1).setTemper p { s.temper p with changed := true }
  else (s.synWrite p off (synPut w e.2.2 age false e.2.1)).measure p c t m

/-- A synapse that the unit cannot read is skipped: in a poisoned vault word, counted once for the word (R362, R382), or where a
context, grid or channel word of its target's core is wrong, to which R82 applies. `fresh`: it is the first of its vault word. The
answer says whether the synapse is treated. -/
def State.synReadable (s : State) (p c t off : Nat) (fresh : Bool) : State × Bool :=
  let bad := s.poisoned p off 4
  let s := if fresh then s.tmpRead p off 4 else s
  if bad then (if fresh then (s.bump (Reg.TMP_POISONCNT p) 1).setBit (Reg.TMP_ERRSTAT p) 0 else s, false)
  else s.eccReads c [(ctxAddr c (s.govern c t), 16), (tableAddr c, 15), (tableAddr c + 0x400 + 4 * (s.readVia c t).2, 4)]

/-- One synapse of pass 1 (R361, R362). -/
def State.pass1At (s : State) (p i off t : Nat) (fresh : Bool) : State :=
  let c := s.preCore p i
  let w0 := s.preWord p i 0
  let r := bits w0 30 28
  let g := s.synReadable p c t off fresh
  let s := g.1
  if !g.2 then s
  else
    let w := s.num (vltWin p + off) 4
    let trace := bits w0 15 0
    let q := s.postTrace p r c t
    if bitAt w 15 then s.tryCreate p r c t off w trace q
    else if bits w 11 8 = 15 then s
    else s.learnSynapse p r c t off w trace q

/-- One synapse of pass 2 (R367). -/
def State.pass2At (s : State) (p i off t : Nat) (fresh : Bool) : State :=
  let c := s.preCore p i
  let g := s.synReadable p c t off fresh
  let s := g.1
  let w := s.num (vltWin p + off) 4
  let f : Nat := match s.normAddr p (cipOf c) t with | some a => s.num (a + 2) 2 | none => 0x4000
  let ch := s.channel c (s.readVia c t).2
  let k : Int := if bitAt ch 31 then mapGet 0 (s.temper p).ks (bits ch 30 22) else 0
  if !g.2 || bitAt w 15 || bits w 11 8 = 15 || (f = 0x4000 && k = 0) then s
  else
    let ls := s.levels c
    let v := clampWeight ls (rsr (weightOf ls w * (f : Int)) (14 + k).toNat)
    let e := (s.wsat p v.2).encodeWeight p ls v.1
    e.1.synWrite p off (synPut w e.2.2 (bits w 19 16) false e.2.1)

/-- Pass 1 reaches a pre entry of the range, VALID or not (R354, R360): its trace is decayed to the epoch's end, unless it cannot be
read (assumption log 45). -/
def State.preRefresh (s : State) (p i : Nat) : State :=
  let w0 := s.preWord p i 0
  let r := bits w0 30 28
  let last := (s.temper p).eLast
  let same := s.preWord p i 2 % 2 ^ 16 == s.lgen p
  let v := if same then s.decay p r (bits w0 15 0) (stepSub last (s.preWord p i 1)) 0x40 (bits (s.rule p r 0 4) 27 24) else 0
  let bad := s.poisoned p (s.preOff p i) 16
  let s := s.tmpRead p (s.preOff p i) 16
  let s := if bad then s else s.prePut p i (satN 16 v) last (s.lgen p)
  if !bitAt w0 31 || s.ruleOk p r then s else s.setBit (Reg.TMP_ERRSTAT p) 2

/-- The plastic words that a pass treats at a pre entry: none where it is not VALID or its rule set is not (R354, R356). -/
def State.passWords (s : State) (p i : Nat) : List (Nat × Nat) :=
  if bitAt (s.preWord p i 0) 31 && s.ruleOk p (bits (s.preWord p i 0) 30 28) then (s.preWords p i).1 else []

/-- A pass moves on to the next pre entry that has words, from index `i` (R356). -/
def State.passSeek (s : State) (p : Nat) (first : Bool) : Nat → Nat → State
  | 0, i => s.setTemper p { s.temper p with n := i, j := 0 }
  | fuel + 1, i =>
    if s.preLen p ≤ i then s.setTemper p { s.temper p with n := i, j := 0 }
    else
      let valid := bitAt (s.preWord p i 0) 31
      let s := if first then s.preRefresh p i else s
      let s := if valid then s.preAxons p i else s
      let s := if valid && (s.preWords p i).2 then s.rangeError p else s
      if (s.passWords p i).isEmpty then passSeek s p first fuel (i + 1)
      else s.setTemper p { s.temper p with n := i, j := 0 }

/-- A pass begins at the first pre entry. -/
def State.passFrom (s : State) (p : Nat) (first : Bool) (i : Nat) : State := s.passSeek p first (s.preLen p + 1 - i) i

/-- Every synapse of the pass has been treated. -/
def State.passOver (s : State) (p : Nat) : Bool := s.preLen p ≤ (s.temper p).n

/-- The unit reads the word of the next synapse (R172): between commands it holds the word that it will write back. -/
def State.readAhead (s : State) (p : Nat) : State :=
  let x := s.temper p
  match (if s.tmpPhase p = 1 || s.tmpPhase p = 3 then (s.passWords p x.n).drop x.j else []) with
  | [] => s.setTemper p { x with ahead := none }
  | (off, _) :: _ => s.setTemper p { x with ahead := some (off / 16 * 16, s.bytes (vltWin p + off / 16 * 16) 16, false) }

/-- The unit treats a synapse of the word at `off` by `f` on what it has read (R172): a window write that reached the word since is
overwritten when the unit writes the word back, and stands where the unit writes nothing. -/
def State.overwriting (s : State) (p off : Nat) (f : State → State) : State :=
  match (s.temper p).ahead with
  | some (o, bs, true) =>
    let a := vltWin p + o
    if o ≠ off / 16 * 16 then f s
    else
      let t := f { s with mem := memPut s.mem a bs }
      if t.bytes a 16 = bs then { t with mem := memPut t.mem a (s.bytes a 16) } else t.setBit (Reg.VLT_ERRSTAT p) 4
  | _ => f s

/-- One synapse is treated by `f`, and the pass moves on. -/
def State.passStep (s : State) (p : Nat) (first : Bool) (f : State → Nat → Nat → Nat → Bool → State) : State :=
  let x := s.temper p
  let ws := s.passWords p x.n
  match ws.drop x.j with
  | [] => s.passFrom p first (x.n + 1)
  | (off, t) :: rest =>
    let fresh := x.j == 0 || (ws.getD (x.j - 1) (0, 0)).1 / 16 != off / 16
    let s := s.overwriting p off (fun s => f s x.n off t fresh)
    if rest.isEmpty then s.passFrom p first (x.n + 1) else s.setTemper p { s.temper p with j := x.j + 1 }

/-- SYNAPSE_UPDATE (R172, R361): the next synapse of pass 1. -/
def execSynapseUpdate (p : Nat) (s : State) : Out :=
  .next <|
    if s.tmpPhase p = 1 && !s.passOver p then (s.passStep p true (fun s i off t fresh => s.pass1At p i off t fresh)).readAhead p else s

/-- The normalisation factor of R365, and whether it is counted. -/
def normFactor (target sum : Nat) : Nat × Bool :=
  let g := 256 * target
  if target = 0 || sum = 0 || (7 * g ≤ 8 * sum && 8 * sum ≤ 9 * g) then (0x4000, false)
  else (min (g * 2 ^ 14 / sum) 0xFFFF, true)

/-- One normalisation entry between the passes (R365); one that cannot be read stays as it is (assumption log 45). -/
def State.normEntry (s : State) (p a : Nat) : State :=
  let f := normFactor (s.num a 2) (s.num (a + 4) 4)
  let bad := s.poisoned p (a - vltWin p) 8
  let s := s.tmpRead p (a - vltWin p) 8
  if bad then s
  else
    let s := ((s.putNum (a + 2) 2 f.1).putNum (a + 4) 4 0).learnWords p 1
    if f.2 then s.bump (Reg.TMP_NORMCNT p) 1 else s

/-- Addresses of the normalisation entries in order (R350). -/
def State.normAll (s : State) (p : Nat) : List Nat :=
  let cores := (List.range 64).filter (fun k => (s.normAddr p k 0).isSome)
  cores.flatMap (fun k => (List.range 8192).map (fun t => (s.normAddr p k 0).getD 0 + 8 * t))

/-- Cores that own a VALID pre entry (R355). -/
def State.ownerCores (s : State) (p : Nat) : List Nat :=
  let owners := ((List.range (s.preLen p)).filter (fun i => bitAt (s.preWord p i 0) 31)).map (s.preCore p)
  ((List.range 64).map (lcnOf p)).filter owners.contains

/-- Learning channels of a core. -/
def State.coreChannels (s : State) (c : Nat) : List (Nat × Nat) :=
  ((List.range 256).filter (fun ch => bitAt (s.channel c ch) 31)).map (fun ch => (c, ch))

/-- Learning channels of the partition, as (core, channel) in order (R198). -/
def State.learnChannels (s : State) (p : Nat) : List (Nat × Nat) := ((List.range 64).map (lcnOf p)).flatMap s.coreChannels

/-- Learning channels of the owning cores (R355, R374). -/
def State.ownChannels (s : State) (p : Nat) : List (Nat × Nat) := (s.ownerCores p).flatMap s.coreChannels

/-- History records that learning channels of the owning cores name (R355, R374), in ascending order. -/
def State.histRecords (s : State) (p : Nat) : List Nat :=
  let own := s.ownChannels p
  (List.range 512).filter (fun h => own.any (fun e => bits (s.channel e.1 e.2) 30 22 == h))

/-- The grids and channels that the derivation reads of the partition's cores (R82). -/
def State.scaleReads (s : State) (p : Nat) : State :=
  ((List.range 64).map (lcnOf p)).foldl (fun s c => (s.eccReads c [(tableAddr c, 15), (tableAddr c + 0x400, 1024)]).1) s

/-- Address of a history record (R342). -/
def histAddr (p h : Nat) : Nat := vltWin p + 0x1FFC000 + 8 * h

/-- The smallest k with mx at most 16 g 2^k (R199), from -11 to 8. -/
def scaleOf (mx g : Nat) : Int :=
  ((List.range 20).map (fun (i : Nat) => (i : Int) - 11)).find? (fun k =>
    if 0 ≤ k then mx ≤ 16 * g * 2 ^ k.toNat else mx * 2 ^ (-k).toNat ≤ 16 * g) |>.getD 8

/-- The scale derivation of one record (R199, R200): the history shifts, and k is kept for pass 2. -/
def State.deriveScale (s : State) (p h : Nat) : State :=
  let a := histAddr p h
  let old := (List.range 3).map (fun i => s.num (a + 2 * i) 2)
  let hs := mapGet 0 (s.temper p).mnew h :: old
  let s := s.store a (hs.flatMap (leBytes 2))
  let mx := hs.foldl max 0
  let chans := (s.learnChannels p).filter (fun e => bits (s.channel e.1 e.2) 30 22 == h)
  let top := fun c => (s.levels c).foldl (fun m l => max m l.natAbs) 0
  let g := (chans.map (fun e => top e.1)).foldl min 128
  let k0 : Int := if mx = 0 || g = 0 then 0 else scaleOf mx g
  let shift := fun (e : Nat × Nat) => (bits (s.channel e.1 e.2) 21 16 : Int)
  let k := chans.foldl (fun k e => max (min k (shift e)) (shift e - 63)) k0
  let lim := if k = k0 then [] else chans.filter (fun e => k == (if k < k0 then shift e else shift e - 63))
  let s := lim.foldl (fun s e => s.setBit (Reg.NCR_GRIDSTAT e.1) 1) s
  s.setTemper p { s.temper p with ks := mapSet 0 (s.temper p).ks h k }

/-- Channel words and history records of rescaled records are written (R201). -/
def State.rescaleChannels (s : State) (p : Nat) : State :=
  (s.histRecords p).foldl (fun s h =>
    let k := mapGet 0 (s.temper p).ks h
    if k = 0 then s
    else
      let a := histAddr p h
      let div := fun (v : Nat) => if 0 < k then (v + 2 ^ k.toNat - 1) / 2 ^ k.toNat else satN 16 (v * 2 ^ (-k).toNat)
      let hs := (List.range 4).map (fun i => div (s.num (a + 2 * i) 2))
      let chans := (s.learnChannels p).filter (fun e => bits (s.channel e.1 e.2) 30 22 == h)
      let s := s.store a (hs.flatMap (leBytes 2))
      chans.foldl (fun s e =>
        let w := s.channel e.1 e.2
        s.putNum (tableAddr e.1 + 0x400 + 4 * e.2) 4 (putBits w 21 16 ((bits w 21 16 : Int) - k).toNat)) s) s

/-- Orders 4 to 6 of the pass have ended. -/
def State.learnEnds (s : State) (p : Nat) : State := (s.rescaleChannels p).setTmpPhase p 4

/-- PASS1_END (R365, R366, R199): factors and scales are derived; pass 2 follows where it has something to do. -/
def execPass1End (p : Nat) (s : State) : Out :=
  .next <|
    if s.tmpPhase p ≠ 1 || !s.passOver p then s
    else
      let s := (s.normAll p).foldl (fun s a => s.normEntry p a) ((s.setTmpPhase p 2).scaleReads p)
      let s := (s.histRecords p).foldl (fun s h => s.deriveScale p h) s
      let need := (s.normAll p).any (fun a => s.num (a + 2) 2 != 0x4000) || (s.histRecords p).any (fun h => mapGet 0 (s.temper p).ks h != 0)
      if !need then s.learnEnds p
      else
        let s := ((s.setTmpPhase p 3).setTemper p { s.temper p with second := true }).passFrom p false 0
        if s.passOver p then s.learnEnds p else s.readAhead p

/-- SYNAPSE_RESCALE (R172, R367): the next synapse of pass 2; the last one brings the channel words (R201). -/
def execSynapseRescale (p : Nat) (s : State) : Out :=
  .next <|
    if s.tmpPhase p = 3 && !s.passOver p then
      let s := (s.passStep p false (fun s i off t fresh => s.pass2At p i off t fresh)).readAhead p
      if s.passOver p then s.learnEnds p else s
    else s

/-- Place of core-in-partition `k`'s contexts in the checkpoint reserve (R592): the part that lies under the register block
has no address of its own, so it lies above the 40-bit space. -/
def ckAddr (p k off : Nat) : Nat :=
  if k = 63 && 0x10000 ≤ off then hiddenReserve p + (off - 0x10000) else vltWin p + 0x1800000 + 0x20000 * k + off

/-- A journal record of the snapshot (R595). -/
def snapRec (cip kind mid : Nat) (words : List Nat) : Nat :=
  cip * 2 ^ 122 + kind * 2 ^ 120 + mid * 2 ^ 64 + words.getD 1 0 * 2 ^ 32 + words.getD 0 0

/-- Entries of a list of words: one or two words each (R90). -/
def splitEntries : Nat → List Nat → List (List Nat)
  | 0, _ => []
  | _ + 1, [] => []
  | fuel + 1, w :: ws => let n := entryWords w; (w :: ws.take (n - 1)) :: splitEntries fuel (ws.drop (n - 1))

/-- The words of a core's event queue from its head on. -/
def State.eqWords (s : State) (c : Nat) : List Nat :=
  (List.range (s.rf (Reg.NCR_EQSTAT c) 12 0)).map (fun i => s.num (eqAddr c + 4 * (((s.core c).eqHead + i) % 4096)) 4)

/-- The words parked in a slot of a core's pool, in order: the chunks of the slot's list (R94). -/
def State.slotWords (s : State) (c : Nat) : Nat → Nat → List Nat
  | 0, _ => []
  | fuel + 1, i =>
    if i = 0xFFFF then []
    else
      let a := s.chunkAddr c i
      let link := s.num a 4
      (List.range (s.chunkUsed c i)).map (fun k => s.num (a + 4 + 4 * k) 4) ++ slotWords s c fuel (bits link 31 16)

/-- Snapshot records of a core at a checkpoint for step `e` (R593, R596): queue, pool in slot order, tap counts. -/
def State.snapshot (s : State) (e c : Nat) : List Nat :=
  let k := cipOf c
  let q := (splitEntries 4096 (s.eqWords c)).map (fun ws => snapRec k 1 e ws)
  let pool := (List.range 128).flatMap (fun slot =>
    let due := (e + (slot + 128 - e % 128) % 128) % 2 ^ 32
    (splitEntries 8192 (s.slotWords c 512 (mapGet 0xFFFF (s.core c).poolHead slot))).map (fun ws => snapRec k 2 due ws))
  let cnt := fun i => s.rf (Reg.NCR_TAPCNT c i) 15 0
  let taps := (List.range ((s.ntaps c + 3) / 4)).map (fun g =>
    let f := 4 * g
    let sat := (List.range 4).foldl (fun acc i => acc + (if s.bit (Reg.NCR_TAPCNT c (f + i)) 16 then 2 ^ i else 0)) 0
    k * 2 ^ 122 + 3 * 2 ^ 120 + f * 2 ^ 112 + sat * 2 ^ 108 + (cnt (f + 3) * 2 ^ 16 + cnt (f + 2)) * 2 ^ 32 + cnt (f + 1) * 2 ^ 16 + cnt f)
  q ++ pool ++ taps

/-- Cores of a partition that are in use. -/
def State.partCores (s : State) (p : Nat) : List Nat := ((List.range 64).map (lcnOf p)).filter (fun c => bitAt s.img.inUse c)

/-- A checkpoint fails (R593, R589). -/
def State.ckFail (s : State) (p : Nat) : State :=
  ((((s.wf (Reg.VLT_CKSTAT p) 30 30 0).wf (Reg.VLT_CKSTAT p) 31 31 0).setBit (Reg.VLT_CKSTAT p) 28).setTemper p
    { s.temper p with ckBusy := false }).vaultFault p 0xE

/-- Uncorrectable words among the cores' bytes that a checkpoint copies. -/
def State.ckWrong (s : State) (p lo n : Nat) : Bool :=
  (s.partCores p).any (fun c => s.upsets.any (fun e => 2 ≤ e.2 && coreWin c + lo ≤ e.1 && e.1 < coreWin c + lo + n))

/-- A checkpoint of a partition for step `e` begins (R591, R593): the one in force ends, the journal is emptied and takes the
snapshot records. -/
def State.ckBegin (s : State) (p e gen : Nat) : State :=
  let s := ((s.wf (Reg.VLT_CKSTAT p) 31 31 0).wf (Reg.VLT_CKSTAT p) 30 29 2).wf (Reg.VLT_JUSED p) 20 0 0
  let s := s.setTemper p { s.temper p with ckBusy := true, ckStep := e, ckGen := gen, ckBegan := s.time }
  if s.ckWrong p 0x24000 0xC000 then s.ckFail p
  else (s.partCores p).foldl (fun s c => (s.snapshot e c).foldl (fun s w => s.journal p w) s) s

/-- The contexts of a core copied into the checkpoint reserve. -/
def State.ckCopy (s : State) (p c : Nat) : State :=
  let w := coreWin c
  let k := cipOf c
  let block := fun {α : Type} (m : List (Nat × α)) =>
    mapClear (mapClear m (ckAddr p k 0) (ckAddr p k 0 + 0x10000)) (ckAddr p k 0x10000) (ckAddr p k 0x10000 + 0x10000)
  let copy := s.mem.filter (fun e => w ≤ e.1 && e.1 < w + 0x20000)
  { s with mem := copy.foldl (fun m e => mapSet 0 m (ckAddr p k (e.1 - w)) e.2) (block s.mem), upsets := block s.upsets, poison := block s.poison }

/-- Vault cycles since a time. -/
def State.vaultCycles (s : State) (p t : Nat) : Nat := satN 32 ((s.time - t) * domMhz (144 + p) (s.rf (Reg.PWR_DSTAT (144 + p)) 24 23) / 1000)

/-- CHECKPOINT_COMPLETE (R593): the contexts have been copied, or an uncorrectable word ends the checkpoint. -/
def execCheckpointComplete (p : Nat) (s : State) : Out :=
  .next <|
    let x := s.temper p
    if !x.ckBusy then s
    else if s.ckWrong p 0 0x20000 then s.ckFail p
    else
      let s := (s.partCores p).foldl (fun s c => s.ckCopy p c) s
      let s := s.ckWords p (8192 * (s.partCores p).length)
      let s := ((s.wf (Reg.VLT_CKSTAT p) 31 30 2).wr (Reg.VLT_CKSTEP p) (BitVec.ofNat 32 x.ckStep)).bump (Reg.VLT_CKCNT p) 1
      (s.wr (Reg.VLT_CKTIME p) (BitVec.ofNat 32 (s.vaultCycles p x.ckBegan))).setTemper p { x with ckBusy := false }

/-- Every core in use of a partition has sealed step `t`. -/
def State.partSealed (s : State) (p t : Nat) : Bool :=
  !(s.partCores p).isEmpty && (s.partCores p).all (fun c => stepGe (s.rd (Reg.NCR_SEALED c)).toNat t)

/-- A save copy of the partition stands between its last pass and its next (order 1 of R355, R377). -/
def State.saveHolds (s : State) (p : Nat) : Bool := s.keep.busy && s.keep.left.contains p && !s.keep.wait.contains p

/-- The reward of the ending epoch is latched, and the open epoch advances (R352). -/
def State.rewardLatch (s : State) (p : Nat) : State :=
  let n := s.rf (Reg.TMP_REWSTAT p) 11 0
  let r := if n = 0 then none else some (satS 16 (toSigned 32 (s.rd (Reg.TMP_REWCUR p)).toNat))
  let s := (s.wr (Reg.TMP_REWCUR p) (s.rd (Reg.TMP_REWNEXT p))).wr (Reg.TMP_REWNEXT p) 0
  let s := (s.wf (Reg.TMP_REWSTAT p) 11 0 (s.rf (Reg.TMP_REWSTAT p) 23 12)).wf (Reg.TMP_REWSTAT p) 23 12 0
  s.setTemper p { s.temper p with reward := r, epoch := (s.temper p).epoch + 1 }

/-- EPOCH_PASS_BEGIN (R355, R370, R373): every core has sealed the epoch's last step and every pre record has been applied. A pass
that waits for a save copy is in progress: it goes on in a recovery, which awaits it. -/
def execEpochPassBegin (p : Nat) (s : State) : Out :=
  .next <|
    let x := s.temper p
    let last := ((x.epoch + 1) * s.epochLen + 2 ^ 32 - 1) % 2 ^ 32
    let ph := s.tmpPhase p
    if (ph ≠ 0 && ph ≠ 5) || !s.partSealed p last || !x.pre.isEmpty || x.ckBusy || (ph = 0 && (s.pwr.pwrfail || s.recovering p)) || s.heldPart p then s
    else if s.saveHolds p then s.setTmpPhase p 5
    else
      let s := (s.rewardLatch p).ckBegin p ((last + 1) % 2 ^ 32) 0
      let learns := s.learning p
      let s := s.setTemper p { s.temper p with eLast := last, n := 0, j := 0, created := 0, mnew := [], ks := [], learns := learns, second := false, changed := false, began := s.time }
      if learns then ((s.setTmpPhase p 1).passFrom p true 0).readAhead p else s.setTmpPhase p 4

end Sys2Proof.Machine
end

