-- ==== Sys2Proof/Machine/Keep.lean ====
section
/-! DEFINITION. Saving and restoring learned state (R374 to R380), and the end of an epoch-end pass, which may notify the
host (R355, R379). -/

namespace Sys2Proof.Machine

/-- Base of a weight-keep set (R375). -/
def keepBase (half : Nat) : Nat := if half = 0 then 0x301000000 else 0x302800000

/-- Bytes of a set. -/
def keepSize : Nat := 0x1800000

/-- The chunk of a partition in a set has its commit record and a correct CRC (R375), where the header asks for one. -/
def State.chunkGood (s : State) (half p : Nat) : Bool :=
  let b := keepBase half
  let off := s.num (b + 44 + 8 * p) 4
  let len := s.num (b + 48 + 8 * p) 4
  !bitAt (s.num (b + 10) 2) p ||
    (decide (36 ≤ len) && decide (4096 ≤ off) && decide (off + len ≤ keepSize) && s.num (b + off + len - 16) 4 == 0x54494D43 &&
      s.num (b + off + len - 4) 4 == crc32 (s.bytes (b + off) (len - 4)))

/-- A set may be used: COMPLETE, with a correct header and correct chunks (R375, R376). -/
def State.keepComplete (s : State) (half : Nat) : Bool :=
  let b := keepBase half
  s.num b 4 == 0x5045454B && s.num (b + 8) 1 == 2 && s.num (b + 4092) 4 == crc32 (s.bytes b 4092) && (List.range 16).all (s.chunkGood half)

/-- The half that holds the COMPLETE set of highest SEQ. -/
def State.keepBest (s : State) : Option Nat :=
  let ok := [0, 1].filter s.keepComplete
  match ok with
  | [] => none
  | [h] => some h
  | _ => some (if s.num (keepBase 0 + 4) 4 < s.num (keepBase 1 + 4) 4 then 1 else 0)

/-- Window offsets of the words of a partition's plastic segments, free slots included, in the order of R356 (R374). -/
def State.plasticWords (s : State) (p : Nat) : List Nat :=
  (List.range (s.preLen p)).flatMap (fun i => if bitAt (s.preWord p i 0) 31 then (s.preWords p i).1.map (·.1) else [])

/-- A partition has learned state. -/
def State.hasLearned (s : State) (p : Nat) : Bool := (List.range (s.preLen p)).any (fun i => bitAt (s.preWord p i 0) 31)

/-- The chunk of a partition (R375). -/
def State.keepChunk (s : State) (p : Nat) : List Byte :=
  let hs := s.histRecords p
  let cs := s.ownChannels p
  let ws := s.plasticWords p
  let k := (s.rd (Reg.TMP_EPOCHDONE p)).toNat
  let body := leBytes 4 k ++ leBytes 4 (s.rd (Reg.TMP_LFSR p)).toNat ++
    leBytes 4 hs.length ++ hs.flatMap (fun h => leBytes 2 h ++ s.bytes (histAddr p h) 8) ++
    leBytes 4 cs.length ++ cs.flatMap (fun e => leBytes 1 e.2 ++ leBytes 1 (cipOf e.1) ++ leBytes 4 (s.channel e.1 e.2)) ++
    leBytes 4 ws.length ++ ws.flatMap (fun o => s.bytes (vltWin p + o) 4)
  let rec12 := leBytes 4 0x54494D43 ++ leBytes 4 k ++ leBytes 4 (body.length + 16)
  body ++ rec12 ++ leBytes 4 (crc32 (body ++ rec12))

/-- The header of a set being built (R375), without its CRC. -/
def KeepInt.header (k : KeepInt) (digest : List Byte) (state : Nat) : List Byte :=
  let dir := fun p => match k.dir.find? (fun e => e.1 == p) with | some e => leBytes 4 e.2.1 ++ leBytes 4 e.2.2 | none => zeros 8
  leBytes 4 0x5045454B ++ leBytes 4 k.seq ++ leBytes 1 state ++ leBytes 1 0 ++
    leBytes 2 ((k.parts.map (2 ^ ·)).sum) ++ fitBytes 32 digest ++ (List.range 16).flatMap dir ++ zeros 3920

/-- The weight-keep save is chosen (R380). -/
def State.saves (s : State) : Bool := bitAt (s.setting 0x0B02 0) 0

/-- A save occasion arrives (R377): it joins a build under way. A periodic one waits for each partition's next pass. -/
def State.saveOccasion (s : State) (every : Bool) : State :=
  if !s.saves then s
  else if s.keep.busy then (if every then s else { s with keep := { s.keep with wait := [] } })
  else { s with keep := { s.keep with due := true, every := every && (s.keep.every || !s.keep.due) } }

/-- WEIGHT_SAVE_BEGIN (R376, R377): the header is written INCOMPLETE into the set that is not the newest COMPLETE one. -/
def execWeightSaveBegin (s : State) : Out :=
  .next <|
    if !s.keep.due || s.keep.busy || s.smcHalted then s
    else if s.domState 175 = 4 then { s with keep := .init }
    else
      let half := match s.keepBest with | some h => 1 - h | none => 0
      let ps := (List.range 16).filter s.hasLearned
      let other := keepBase (1 - half)
      let seq := (if s.num other 4 = 0x5045454B then s.num (other + 4) 4 else 0) + 1
      let k : KeepInt := ⟨false, s.keep.every, true, half, seq, ps, ps, if s.keep.every then ps else [], 4096, []⟩
      { s.store (keepBase half) (k.header s.imgDigest 1 ++ zeros 4) with keep := k }

/-- The last chunk has been written: the set becomes COMPLETE (R376). -/
def State.keepEnd (s : State) : State :=
  let h := s.keep.header s.imgDigest 2
  { s.store (keepBase s.keep.half) (h ++ leBytes 4 (crc32 h)) with keep := .init }

/-- WEIGHT_SAVE_CHUNK (R376, R377): one partition's chunk, as soon as it is not in a pass and its next pass, where it waits for
one, has ended; under PWRFAIL_N in ascending partition number. -/
def execWeightSaveChunk (p : Nat) (s : State) : Out :=
  .next <|
    let k := s.keep
    let ph := s.tmpPhase p
    if !k.busy || s.smcHalted then s
    else if k.left.isEmpty then s.keepEnd.requestAll [175]
    else if !k.left.contains p || (s.pwr.pwrfail && k.left.head? != some p) || k.wait.contains p || (ph ≠ 0 && ph ≠ 5) then s
    else
      let c := s.keepChunk p
      if keepSize < k.next + c.length then { s with keep := .init }
      else
        let k' := { k with left := k.left.filter (· != p), next := k.next + (c.length + 63) / 64 * 64, dir := k.dir ++ [(p, k.next, c.length)] }
        let s := { s.store (keepBase k.half + k.next) c with keep := k' }
        (if k'.left.isEmpty then s.keepEnd else s).requestAll (175 :: partDoms p)

/-- A message of the SMC (R379, R633): to a system block where the key says so. -/
def State.smcSend (s : State) (key land type alarm : Nat) (data : List Byte) : State :=
  let s := s.inject 1060 4 key (s.smc.seq % 256 * 2 ^ 24 + Config.smcDesc % 32 * 2 ^ 19 + land) (type * 2 ^ 12 + data.length / 16) 0 data
  { s with smc := { s.smc with seq := (s.smc.seq + 1) % 256, flying := s.smc.flying ++ [(s.smc.seq % 256, alarm)] } }

/-- A message to the SMC of another device (R466, R600), under the firmware's own protocol (assumption log 23). -/
def State.smcTell (s : State) (d : Nat) (ns : List Nat) : State :=
  let b := Config.smcBody ns
  s.smcSend (homeKey d 18 + 2 ^ 17) 0 (b.1 % 16) 64 (fitBytes (16 * ((min 256 b.2.length + 15) / 16)) b.2)

/-- This device runs the commits of a system of several (R465, R466). -/
def State.leads (s : State) : Bool := 1 < s.rf Reg.SPL_SYSSTAT 28 24 && s.dev == 0

/-- A message to every other device of the system. -/
def State.smcTellAll (s : State) (ns : List Nat) : State :=
  ((List.range 16).filter (fun d => s.bit Reg.SPL_SYSSTAT d && d != s.dev)).foldl (fun s d => s.smcTell d ns) s

/-- Key of a message to a host queue (R322, R324). -/
def State.hostQueueKey (s : State) (q : Nat) : Nat := homeKey s.dev (14 + q % 4) + 2 ^ 17 + q * 2 ^ 5

/-- The notification of a learning pass (R379). -/
def State.learnNotify (s : State) (p k : Nat) (second changed : Bool) : State :=
  if !bitAt (s.setting 0x0B02 0) 1 then s
  else
    let data := leBytes 4 k ++ leBytes 1 p ++ leBytes 1 ((if second then 1 else 0) + (if changed then 2 else 0)) ++ zeros 2 ++
      leBytes 4 (s.rd (Reg.TMP_SYNUPD p)).toNat ++ zeros 4
    s.smcSend (s.hostQueueKey (s.setting 0x0B05 0)) 0 1 64 data

/-- EPOCH_PASS_END (R355 order 7, R379): once orders 1 to 6 have ended. -/
def execEpochPassEnd (p : Nat) (s : State) : Out :=
  .next <|
    let x := s.temper p
    if s.tmpPhase p ≠ 4 || x.ckBusy then s
    else
      let k := x.epoch - 1
      let cyc := s.vaultCycles p x.began
      let s := ((s.wr (Reg.TMP_EPOCHDONE p) (BitVec.ofNat 32 k)).setTmpPhase p 0).wr (Reg.TMP_PASSCYC p) (BitVec.ofNat 32 cyc)
      let s := if (s.rd (Reg.TMP_PASSMAX p)).toNat < cyc then s.wr (Reg.TMP_PASSMAX p) (BitVec.ofNat 32 cyc) else s
      let s := { s with keep := { s.keep with wait := s.keep.wait.filter (· != p) } }
      (if x.learns then s.learnNotify p k x.second x.changed else s).requestAll (partDoms p)

/-- The chunk of a partition in a set matches the image (R378): its CRC and the counts n_h, n_c and n_s. -/
def State.chunkOk (s : State) (half p : Nat) : Option (List Byte) :=
  let b := keepBase half
  let off := s.num (b + 44 + 8 * p) 4
  let len := s.num (b + 48 + 8 * p) 4
  if len < 36 || off < 4096 || keepSize < off + len then none
  else
    let c := s.bytes (b + off) len
    let nh := numAt c 8 4
    let nc := numAt c (12 + 10 * nh) 4
    let ns := numAt c (16 + 10 * nh + 6 * nc) 4
    if numAt c (len - 4) 4 = crc32 (c.take (len - 4)) && numAt c (len - 16) 4 = 0x54494D43 && nh = (s.histRecords p).length &&
        nc = (s.ownChannels p).length && ns = (s.plasticWords p).length && len = 36 + 10 * nh + 6 * nc + 4 * ns then some c
    else none

/-- One partition's learned state written back from its chunk (R378). -/
def State.restoreChunk (s : State) (p : Nat) (c : List Byte) : State :=
  let nh := numAt c 8 4
  let nc := numAt c (12 + 10 * nh) 4
  let ws := s.plasticWords p
  let s := s.wr (Reg.TMP_LFSR p) (BitVec.ofNat 32 (numAt c 4 4))
  let s := (List.range nh).foldl (fun s i => s.store (histAddr p (numAt c (12 + 10 * i) 2 % 512)) ((c.drop (14 + 10 * i)).take 8)) s
  let s := (List.range nc).foldl (fun s i =>
    let o := 16 + 10 * nh + 6 * i
    s.store (tableAddr (lcnOf p (numAt c (o + 1) 1 % 64)) + 0x400 + 4 * numAt c o 1) ((c.drop (o + 2)).take 4)) s
  (List.range ws.length).foldl (fun s i =>
    s.store (vltWin p + ws.getD i 0) ((c.drop (20 + 10 * nh + 6 * nc + 4 * i)).take 4)) s

/-- Weight restoration at order 7 of a full load (R63, R378). -/
def State.restoreWeights (s : State) (digest settings : List Byte) : State :=
  let fits := fun h => s.keepComplete h && s.bytes (keepBase h + 12) 32 == digest
  let best := if fits 0 && fits 1 then some (if s.num (keepBase 0 + 4) 4 < s.num (keepBase 1 + 4) 4 then 1 else 0)
              else if fits 0 then some 0 else if fits 1 then some 1 else none
  if settingOf settings 0x0B04 0 ≠ 1 then s
  else match best with
    | none => s
    | some h =>
      ((List.range 16).filter s.hasLearned).foldl (fun s p =>
        match s.chunkOk h p with
        | some c => s.restoreChunk p c
        | none => s.secLog ⟨0x12, 0, 2, 0xFF, 0, p, digest.take 8⟩) s

end Sys2Proof.Machine
end

