-- ==== Sys2Proof/Machine/Tundish.lean ====
section
/-! DEFINITION. The Tundish (R385 to R415): camera packets, stream decoding, row queues, its steps, and the records of windows
and count taps. -/

namespace Sys2Proof.Machine

/-- Parity masks of the camera packet header over its 26 data bits (R388): word, type, channel and VCX (assumption log 14). -/
def eccMasks : List Nat := [0x1F12CB7, 0x2F2555B, 0x3749A6D, 0x3B8E38E, 0x3DF03F0, 0x3EFFC00]

/-- Number of ones of the low `n` bits. -/
def ones (x : Nat) : Nat → Nat
  | 0 => 0
  | n + 1 => x / 2 ^ n % 2 + ones x n

/-- The 26 data bits of a header: bits [23:0] and VCX. -/
def hdrData (h : Nat) : Nat := h % 2 ^ 24 + bits h 31 30 * 2 ^ 24

/-- ECC computed over a header's data bits. -/
def hdrEcc (d : Nat) : Nat := (List.zip (List.range 6) eccMasks).foldl (fun acc e => acc + ones (d &&& e.2) 26 % 2 * 2 ^ e.1) 0

/-- A header after correction (R389): its data bits and whether a bit was corrected; none where it cannot be. -/
def hdrFix (h : Nat) : Option (Nat × Bool) :=
  let d := hdrData h
  let syn := hdrEcc d ^^^ bits h 29 24
  if syn = 0 then some (d, false)
  else if (List.range 6).any (fun i => syn == 2 ^ i) then some (d, true)
  else ((List.range 26).find? (fun i => hdrEcc (2 ^ i) == syn)).map (fun i => (d ^^^ 2 ^ i, true))

/-- Payload CRC-16 of a camera packet (R388): polynomial 0x1021 reflected, initial value 0xFFFF. -/
def crcCsi (bs : List Byte) : Nat := bs.foldl (fun c b => crcStepLsb 0x8408 (c ^^^ b.toNat) 8) 0xFFFF

/-- Long data types of R388. -/
def csiType (dt : Nat) : Bool := dt = 0x1E || (0x2A ≤ dt && dt ≤ 0x2C) || (0x30 ≤ dt && dt ≤ 0x37)

/-- Packets in a port's input buffer. -/
def State.tndBuf (s : State) (p : Nat) : List TndItem := mapGet [] s.tnd.bufs p

/-- TND_PnSTAT.FILL follows the buffer. -/
def State.showFill (s : State) (p : Nat) : State :=
  s.wf (Reg.TND_PSTAT p) 15 0 ((((s.tndBuf p).map (fun i => i.len)).sum + 1023) / 1024)

/-- A port's input buffer replaced. -/
def State.setTndBuf (s : State) (p : Nat) (l : List TndItem) : State :=
  { s with tnd := { s.tnd with bufs := mapSet [] s.tnd.bufs p l } }.showFill p

/-- Input was lost: the error bit, and the open window INCOMPLETE (R389, R390, R409). -/
def State.tndLost (s : State) (errBit : Nat) : State :=
  let s := s.setBit Reg.TND_ERRSTAT errBit
  { s with tnd := { s.tnd with broken := true, counts := mapSet 0 s.tnd.counts 5 (satN 32 (mapGet 0 s.tnd.counts 5 + 1)) } }

/-- Device address of an offset in the Tundish SRAM. -/
def tndSram (off : Nat) : Nat := 0x2800000 + off % 0x800000

/-- Bytes written into the Tundish SRAM, whose offsets wrap. -/
def State.sramPut (s : State) (off : Nat) (bs : List Byte) : State :=
  if bs.isEmpty then s
  else
    let k := 0x800000 - off % 0x800000
    let s := s.store (tndSram off) (bs.take k)
    if (bs.drop k).isEmpty then s else s.store (tndSram 0) (bs.drop k)

/-- The bytes of a packet in its port's input buffer, which goes round from its base (R390; the place in it is that of assumption
log 17). -/
def State.bufPut (s : State) (p : Nat) (data : List Byte) : State :=
  let size := s.rf (Reg.TND_PBUF p) 14 0 * 1024
  let base := s.rf (Reg.TND_PBUF p) 31 15 * 64
  let o := mapGet 0 s.tnd.wrote p % size
  let s := (s.sramPut (base + o) (data.take (size - o))).sramPut base (data.drop (size - o))
  { s with tnd := { s.tnd with wrote := mapSet 0 s.tnd.wrote p ((o + data.length) % size) } }

/-- A long packet whose channel and type are known is lost: the line that it held keeps its number (R390, R392). -/
def State.lineLost (s : State) (p vc dt : Nat) : State := s.setTndBuf p (s.tndBuf p ++ [⟨3, vc, dt, 0, 0, false⟩])

/-- A long packet that passed its checks is written into the input buffer, or discarded (R390). -/
def State.tndAccept (s : State) (p vc dt : Nat) (data : List Byte) : State :=
  let used := ((s.tndBuf p).map (fun i => i.len)).sum
  let size := s.rf (Reg.TND_PBUF p) 14 0 * 1024
  if size < used + data.length then ((s.bump (Reg.TND_PDROPCNT p) 1).tndLost 0).lineLost p vc dt
  else ((s.bufPut p data).setTndBuf p (s.tndBuf p ++ [⟨0, vc, dt, mapGet 0 s.tnd.wrote p % size, data.length, false⟩])).bump (Reg.TND_PPKTCNT p) 1

/-- `n` bytes of a packet in a port's input buffer from byte `o` of it on (R387, R390): what the SRAM holds there now. -/
def State.itemBytes (s : State) (p : Nat) (it : TndItem) (o n : Nat) : List Byte :=
  let base := s.rf (Reg.TND_PBUF p) 31 15 * 64
  (List.range n).map (fun i => if o + i < it.len then s.byte (tndSram (base + (it.pos + o + i) % (s.rf (Reg.TND_PBUF p) 14 0 * 1024))) else 0)

/-- Checks of a long packet at a receiver (R388, R389). -/
def State.csiLong (s : State) (p header : Nat) (payload : List Byte) (crc : Nat) : State :=
  match hdrFix header with
  | none => (s.bump (Reg.TND_PHDRCNT p) 1).tndLost 1
  | some (d, fixed) =>
    let s := if fixed then s.bump (Reg.TND_PECCCNT p) 1 else s
    let dt := bits d 5 0
    let vc := bits d 7 6 + 4 * bits d 25 24
    if dt = 0x12 then s
    else if bits d 23 8 ≠ payload.length || crcCsi payload ≠ crc then ((s.bump (Reg.TND_PCRCCNT p) 1).tndLost 2).lineLost p vc dt
    else if !csiType dt then (s.bump (Reg.TND_PUNSUPCNT p) 1).tndLost 3
    else s.tndAccept p vc dt payload

/-- A port receives: it is enabled and its source is up (R391, R412). -/
def State.csiOn (s : State) (p : Nat) : Bool := p < 4 && s.bit (Reg.TND_PCFG p) 31 && s.domOn 163 && (p < 3 || s.vrn.live)

/-- CSI_LONG_PACKET (R389, R390). -/
def execCsiLongPacket (p header : Nat) (payload : List Byte) (crc : Nat) (s : State) : Out :=
  .next <| if s.csiOn p && p < 3 then s.csiLong p header payload crc else s

/-- A packet that the Vernier receiver has accepted enters port 3 (R391). -/
def State.csi3 (s : State) (d : Nat) (payload : List Byte) : State :=
  if !s.csiOn 3 then s else s.tndAccept 3 (bits d 7 6 + 4 * bits d 25 24) (bits d 5 0) payload

/-- CSI_FRAME_START (R390, R392): it passes through the buffer in order. -/
def execCsiFrameStart (p vc _frame : Nat) (s : State) : Out :=
  .next <| if s.csiOn p then (s.setTndBuf p (s.tndBuf p ++ [⟨1, vc, 0, 0, 0, false⟩])).wf (Reg.TND_PSTAT p) 29 29 1 else s

/-- CSI_FRAME_END (R390, R392, R396). -/
def execCsiFrameEnd (p vc _frame : Nat) (s : State) : Out :=
  .next <| if s.csiOn p then (s.setTndBuf p (s.tndBuf p ++ [⟨2, vc, 0, 0, 0, false⟩])).wf (Reg.TND_PSTAT p) 29 29 0 else s

/-- CSI_LINK_STATE_CHANGE (R412): a disabled port shows 0b00. -/
def execCsiLinkStateChange (p link : Nat) (s : State) : Out :=
  .next <| if p < 4 && s.domOn 163 then s.wf (Reg.TND_PSTAT p) 31 30 (if s.bit (Reg.TND_PCFG p) 31 || link = 3 then link % 4 else 0) else s

/-- A stream descriptor word. -/
def State.desc (s : State) (n k : Nat) : Nat := (s.rd (Reg.TND_DESC n k)).toNat

/-- The descriptor that takes a long packet (R392). -/
def State.descFor (s : State) (p vc dt : Nat) : Option Nat :=
  (List.range 16).find? (fun n =>
    let w := s.desc n 0
    bitAt w 31 && !s.badDesc n && bits w 28 27 == p && bits w 26 23 == vc && bits w 22 17 == dt)

/-- Descriptors that a frame packet applies to (R392). -/
def State.frameDescs (s : State) (p vc : Nat) : List Nat :=
  (List.range 16).filter (fun n => bitAt (s.desc n 0) 31 && bits (s.desc n 0) 28 27 == p && bits (s.desc n 0) 26 23 == vc)

/-- Key of an event of coordinates (x, y) and polarity p (R397); none where it is discarded. -/
def State.keyOf (s : State) (n x y p : Nat) : Option Nat :=
  let w6 := s.desc n 6
  let xb := x / 2 ^ bits w6 31 28
  let yb := y / 2 ^ bits w6 27 24
  let i := yb * bits w6 23 12 + xb
  let pol := fun key => if bitAt w6 2 then key ||| (p * 2 ^ bits w6 7 3) % 2 ^ 32 else key
  if bits w6 23 12 ≤ xb then none
  else if !bitAt (s.desc n 0) 14 then some (pol ((s.desc n 5 + i * 2 ^ bits w6 11 8) % 2 ^ 32))
  else if bits (s.desc n 7) 14 0 ≤ i then none
  else
    let key := s.num (tndSram (bits (s.desc n 7) 31 15 * 64 + 4 * i)) 4
    if key = 0xFFFFFFFF then none else some (pol key)

/-- Row queue of an event (R398). -/
def State.rowOf (s : State) (n key : Nat) : Nat :=
  let w := s.desc n 0
  if !bitAt w 13 && bits key 31 28 == s.dev then homeLcn key / 32 else bits w 12 8

/-- A row queue. -/
def State.row (s : State) (r : Nat) : List TndEvent := mapGet [] s.tnd.rows r

/-- A row queue replaced; TND_STAT.HELDQ says that events wait while nothing may be injected (R400). -/
def State.setRow (s : State) (r : Nat) (l : List TndEvent) : State :=
  let s := { s with tnd := { s.tnd with rows := mapSet [] s.tnd.rows r l } }
  s.wf Reg.TND_STAT 28 28 (if !s.tnd.isOpen && !s.tnd.rows.isEmpty then 1 else 0)

/-- What one element of a packet does: the bytes it writes in the SRAM, and its event's coordinates, polarity and payload. -/
structure TndElem where
  put     : Option (Nat × List Byte)
  event   : Option (Nat × Nat × Nat)
  graded  : Bool
  payload : Nat
  other   : Bool

/-- Bytes of a word of EVENT_WORDS. -/
def wordBytes (w0 : Nat) : Nat := [2, 4, 8].getD (bits w0 16 15) 2

/-- Elements of a packet: words, or pixels of its data type. -/
def State.elems (s : State) (n dt len : Nat) : Nat :=
  let w := s.desc n 0
  if bits w 30 29 = 0 then len / wordBytes w
  else match bits w 16 15 with
    | 1 => len / 5 * 4
    | 2 => len / 3 * 2
    | _ => if dt = 0x1E then len / 2 else len

/-- The byte of a packet that holds pixel `i` reduced to 8 bits (R395). -/
def pixelAt (width dt i : Nat) : Nat :=
  match width with | 1 => 5 * (i / 4) + i % 4 | 2 => 3 * (i / 2) + i % 2 | _ => if dt = 0x1E then 2 * i + 1 else i

/-- Element `i` of a packet of stream `n` in the buffer of port `p` (R395, R396). -/
def State.elem (s : State) (n p : Nat) (it : TndItem) (i : Nat) : TndElem :=
  let w0 := s.desc n 0
  let w1 := s.desc n 1
  let w2 := s.desc n 2
  let none_ : TndElem := ⟨none, none, false, 0, false⟩
  let imgw := bits w1 31 16
  let imgh := max 1 (bits w1 15 0)
  let y := mapGet 0 s.tnd.line n
  let v := leNat (s.itemBytes p it (pixelAt (bits w0 16 15) it.dt i) 1)
  let base := bits (s.desc n 3) 31 15 * 64
  match bits w0 30 29 with
  | 0 =>
    let b := wordBytes w0
    let x := leNat (s.itemBytes p it (b * i) b)
    if x / 2 ^ (8 * b - 8) &&& bits w2 31 24 ≠ bits w2 23 16 then { none_ with other := true }
    else
      let fld := fun pos len => x / 2 ^ pos % 2 ^ len
      { none_ with event := some (fld (bits w1 31 26) (bits w1 25 22 + 1), fld (bits w1 21 16) (bits w1 15 12 + 1),
                                  if bitAt w1 5 then fld (bits w1 11 6) 1 else 1) }
  | 1 =>
    if imgw ≤ i || imgh ≤ y then none_
    else
      let a := tndSram (base + y * imgw + i)
      let r := (s.byte a).toNat
      let m := tndSram (bits (s.desc n 4) 31 15 * 64 + 2 * (y / 16 * ((imgw + 15) / 16) + i / 16))
      let on := if bitAt (s.desc n 3) 14 then (s.byte m).toNat else bits w2 31 24
      let off := if bitAt (s.desc n 3) 14 then (s.byte (m + 1)).toNat else bits w2 23 16
      let put := some (a, leBytes 1 v)
      if !mapGet false s.tnd.seen n then { none_ with put := put }
      else if r + on < v then { none_ with put := put, event := some (i, y, 1) }
      else if v + off < r then { none_ with put := put, event := some (i, y, 0) }
      else none_
  | 2 =>
    if imgw ≤ i then none_
    else
      let a := tndSram (base + 2 * (i + imgw * (y % imgh)))
      let acc := s.num a 2 + v * bits w2 15 0 / 256
      if 65536 ≤ acc then { none_ with put := some (a, leBytes 2 (min (acc - 65536) 65535)), event := some (i, y % imgh, 1) }
      else { none_ with put := some (a, leBytes 2 acc) }
  | _ =>
    if imgw ≤ i then none_
    else { none_ with event := some (i, y % imgh, 1), graded := true, payload := min (v * bits w2 15 0 / 256) 32767 }

/-- An element's writes made. -/
def State.elemPut (s : State) (e : TndElem) : State :=
  let s := match e.put with | some (a, b) => s.store a b | none => s
  if e.other then s.bump Reg.TND_OTHERCNT 1 else s

/-- An event without a key is discarded (R397). -/
def State.roiDrop (s : State) : State :=
  let s := (s.bump Reg.TND_ROICNT 1).setBit Reg.TND_ERRSTAT 4
  { s with tnd := { s.tnd with counts := mapSet 0 s.tnd.counts 6 (satN 32 (mapGet 0 s.tnd.counts 6 + 1)) } }

/-- One element decoded (R395 to R398): none where its row queue is full. -/
def State.decodeElem (s : State) (n p : Nat) (it : TndItem) (i : Nat) : Option State :=
  let e := s.elem n p it i
  match e.event with
  | none => some (s.elemPut e)
  | some (x, y, pol) =>
    match s.keyOf n x y pol with
    | none => some ((s.elemPut e).roiDrop)
    | some key =>
      let r := s.rowOf n key
      if 256 ≤ (s.row r).length then none
      else some ((s.elemPut e).setRow r (s.row r ++ [⟨key, e.payload, e.graded, p, it.old⟩]))

/-- Elements decoded from `i` on, up to `fuel`: the state and the first element not decoded. -/
def State.decodeFrom (s : State) (n p : Nat) (it : TndItem) : Nat → Nat → State × Nat
  | 0, i => (s, i)
  | fuel + 1, i => match s.decodeElem n p it i with
    | none => (s, i)
    | some s' => decodeFrom s' n p it fuel (i + 1)

/-- The first packet of a port's buffer is done with. -/
def State.popItem (s : State) (p : Nat) : State :=
  let s := s.setTndBuf p (s.tndBuf p).tail
  { s with tnd := { s.tnd with pos := mapSet 0 s.tnd.pos p 0 } }

/-- The next line of a stream. -/
def State.nextLine (s : State) (n : Nat) : State := { s with tnd := { s.tnd with line := mapSet 0 s.tnd.line n (mapGet 0 s.tnd.line n + 1) } }

/-- STREAM_DECODE (R392, R395 to R399): the first packet of a port's buffer, as far as the row queues have room. -/
def execStreamDecode (p : Nat) (s : State) : Out :=
  .next <|
    match s.tndBuf p with
    | [] => s
    | it :: _ =>
      let t := s.tnd
      match it.kind with
      | 1 => { s with tnd := { t with line := (s.frameDescs p it.vc).foldl (fun m n => mapSet 0 m n 0) t.line } }.popItem p
      | 2 => { s with tnd := { t with seen := (s.frameDescs p it.vc).foldl (fun m n => mapSet false m n true) t.seen } }.popItem p
      | 3 => (match s.descFor p it.vc it.dt with | some n => s.nextLine n | none => s).popItem p
      | _ =>
        match s.descFor p it.vc it.dt with
        | none => ((s.bump (Reg.TND_PUNSUPCNT p) 1).setBit Reg.TND_ERRSTAT 3).popItem p
        | some n =>
          let k := s.elems n it.dt it.len
          let from_ := mapGet 0 t.pos p
          let (s, i) := s.decodeFrom n p it (k - from_) from_
          if i < k then { s with tnd := { s.tnd with pos := mapSet 0 s.tnd.pos p i } }
          else (s.nextLine n).popItem p

/-- A counter of the open window. -/
def State.tndCount (s : State) (k : Nat) : State :=
  { s with tnd := { s.tnd with counts := mapSet 0 s.tnd.counts k (satN 32 (mapGet 0 s.tnd.counts k + 1)) } }

/-- The current step of the Tundish. -/
def State.tndStep (s : State) : Nat := (s.rd Reg.TND_STEP).toNat

/-- A row's attachment has room for a packet. -/
def State.rowRoom (s : State) (r : Nat) : Bool := s.wireFlits (s.injWire (1024 + r)) < 17

/-- The event that a row injects next, with those left (R209, R398): the oldest; in free-run the oldest of those that stood in the
row queue, or came from input that stood in a buffer, at the admission. -/
def State.nextEvent (s : State) (r : Nat) : Option (TndEvent × List TndEvent) :=
  if s.bit Reg.SMC_STEPCFG 23 then ((s.row r).find? (fun e => e.old)).map (fun e => (e, (s.row r).erase e))
  else match s.row r with | [] => none | e :: t => some (e, t)

/-- TUNDISH_INJECT (R209, R398, R400). -/
def execTundishInject (r : Nat) (s : State) : Out :=
  .next <|
    match s.nextEvent r with
    | none => s
    | some (e, t) =>
      if !s.tnd.isOpen || !s.rowRoom r then s
      else
        let s := (s.setRow r t).inject (1024 + r) (if e.graded then 1 else 0) e.key e.payload (s.tndStep % 2 ^ 16) s.tndStep []
        (s.bump48 (Reg.TND_PEVCNT e.port) 1).tndCount e.port

/-- What holds the Tundish back from step `t` (R218, R219, R467), in the codes of R215. -/
def State.tndBlockAt (s : State) (t : Nat) : Nat :=
  let q := s.part 2064
  let downs := (List.range 8).filter (fun n => s.bit (Reg.TND_HZDOWN n) 31 && (!q.lock || s.crossGroup (s.rf (Reg.TND_HZDOWN n) 7 0)))
  if q.holds t then 5
  else if q.waits t then 4
  else if !s.bit Reg.SMC_STEPCFG 23 && !s.tickPassed t then 1
  else if q.lock && !horizonOk s.tnd.devHz t 1 then 2
  else if downs.any (fun n => !horizonOk (mapGet 0xFFFFFFFF s.tnd.hz n) t (s.aheadLimit + 1)) then 3
  else 0

/-- The Tundish has sealed its step and waits for the next. -/
def State.tndWaiting (s : State) : Bool := s.runActive && s.rd Reg.TND_STEP == s.rd Reg.TND_SEALED

/-- TND_STAT.BLOCK. -/
def State.tndBlock (s : State) : Nat :=
  if !s.runActive then 0
  else if s.tndWaiting then s.tndBlockAt ((s.tndStep + 1) % 2 ^ 32)
  else if s.tnd.isOpen then 0 else 7

/-- TUNDISH_ADMIT (R218, R209). -/
def execTundishAdmit (s : State) : Out :=
  .next <|
    if !s.tndWaiting || s.loadStops then s
    else
      let s := s.applyDue 2064 ((s.tndStep + 1) % 2 ^ 32)
      let t := (s.tndStep + 1) % 2 ^ 32
      if s.tndBlockAt t ≠ 0 then s
      else
        let x := s.tnd
        let s := { s with tnd := { x with
          isOpen := true, ran := true,
          bufs := x.bufs.map (fun (e : Nat × List TndItem) => (e.1, e.2.map (fun (i : TndItem) => { i with old := true }))),
          rows := x.rows.map (fun (e : Nat × List TndEvent) => (e.1, e.2.map (fun (i : TndEvent) => { i with old := true }))) } }
        (s.wr Reg.TND_STEP (BitVec.ofNat 32 t)).wf Reg.TND_STAT 28 28 0

/-- TUNDISH_INJECTION_END (R209): with pacing at the next tick, in free-run once what stood at the admission is injected. -/
def execTundishInjectionEnd (s : State) : Out :=
  .next <|
    let x := s.tnd
    let done := if s.bit Reg.SMC_STEPCFG 23
      then x.rows.all (fun e => e.2.all (fun i => !i.old)) && x.bufs.all (fun e => e.2.all (fun i => !i.old))
      else s.tickPassed ((s.tndStep + 1) % 2 ^ 32)
    if x.isOpen && done then { s with tnd := { x with isOpen := false } }.wf Reg.TND_STAT 28 28 (if x.rows.isEmpty then 0 else 1) else s

/-- WINDOW records held are offered to the Ladle in order (R410): a refusal as FULL keeps them, any other discards one. -/
def State.tndOffer (s : State) : List (List Byte) → State
  | [] => { s with tnd := { s.tnd with held := [] } }
  | r :: t =>
    match s.hqAccept (s.rf Reg.TND_CTRL 11 0) [r] with
    | (s', 4) => { s' with tnd := { s'.tnd with held := r :: t } }
    | (s', 0) => s'.tndOffer t
    | (s', _) => ({ s' with tnd := { s'.tnd with lost := s'.tnd.lost + 1 } }.bump Reg.TND_RECLOST 1).tndOffer t

/-- The Tundish closes its window after `steps` of its steps (R405, R409, R410): the next one opens, and where TND_CTRL.RESEN is 1
a record of it is held. -/
def State.tndClose (s : State) (steps : Nat) (partly : Bool) : State :=
  let x := s.tnd
  if !s.bit Reg.TND_CTRL 31 then { s.wr Reg.TND_WIN (s.rd Reg.TND_WIN + 1) with tnd := { x with broken := false, counts := [] } }
  else
    let c := fun k => leBytes 4 (mapGet 0 x.counts k)
    let rec64 := fitBytes 64 ([2] ++ leBytes 1 ((if partly then 1 else 0) + (if x.broken then 2 else 0)) ++ leBytes 2 0xFFFF ++
      leBytes 4 (s.rd Reg.TND_WIN).toNat ++ [0, 0, 0] ++ leBytes 1 (min 255 x.lost) ++ leBytes 4 steps ++ c 0 ++ c 1 ++ c 2 ++ c 3 ++ c 4 ++ c 5 ++ c 6)
    let s := s.wr Reg.TND_WIN (s.rd Reg.TND_WIN + 1)
    let full := 2 ≤ x.held.length
    let s := if full then s.bump Reg.TND_RECLOST 1 else s
    let held := (if full then x.held.tail else x.held) ++ [rec64]
    { s with tnd := { x with broken := false, counts := [], lost := if full then 1 else 0 } }.tndOffer held

/-- WINDOW_RECORD_RETRY (R410). -/
def execWindowRecordRetry (s : State) : Out := .next (s.tndOffer s.tnd.held)

/-- TUNDISH_STEP_SEAL (R209, R212, R401, R410). -/
def execTundishStepSeal (s : State) : Out :=
  .next <|
    let t := s.tndStep
    if s.tnd.isOpen || s.rd Reg.TND_SEALED == s.rd Reg.TND_STEP || !s.tnd.ran || (List.range 32).any (fun r => s.unretired (1024 + r) t) then s
    else
      let s := s.wr Reg.TND_SEALED (BitVec.ofNat 32 t)
      let gs := reportGroups ((List.range 8).map (fun n => (s.rd (Reg.TND_HZRPT n)).toNat))
      let s := gs.foldl (fun s g => s.reportInto 1024 t g) s
      let s := if s.windowLast (s.rd Reg.TND_WIN).toNat t then s.tndClose s.windowLen false else s
      s.applyDue 2064 ((t + 1) % 2 ^ 32)

/-- Key of a message to a system block behind router `l` (R322, R324). -/
def sysKey (dev l queue sender : Nat) : Nat := homeKey dev l + 2 ^ 17 + queue * 2 ^ 5 + sender * 4

/-- A COUNT record leaves as a message with sequence number `seq` (R406). -/
def State.countSend (s : State) (c seq : Nat) (data : List Byte) : State :=
  let q := s.rf (Reg.NCR_TAPCTRL c) 11 0
  s.inject c 4 (sysKey s.dev (14 + q % 4) q 6) (seq * 2 ^ 24) (2 * 2 ^ 12 + 4) (s.stepOf c) data

/-- A COUNT record as the core tells them apart: its window and its first tap. -/
def recordId (r : Nat × Nat × List Byte) : Nat := r.1 * 256 + r.2.1

/-- The first record that is not in flight; with `again`, the first of those that were refused. -/
def CoreInt.tapNext (k : CoreInt) (again : Bool) : Option (Nat × Nat × List Byte) :=
  k.taps.find? (fun r => !k.tapOut.any (fun o => o.2 == recordId r) && (!again || k.tapFull.contains (recordId r)))

/-- The core sends a COUNT record where fewer than 4 are in flight (R406). -/
def State.countNext (s : State) (c : Nat) (again : Bool) : State :=
  let k := s.core c
  match k.tapNext again with
  | none => s
  | some r =>
    if 4 ≤ k.tapOut.length then s
    else ((s.countSend c (k.tapSeq % 256) r.2.2).setCore c
      { k with tapOut := k.tapOut ++ [(k.tapSeq % 256, recordId r)], tapSeq := k.tapSeq + 1 }).showTaps c

/-- COUNT_RECORD_SEND (R406): a refusal as FULL holds later records back until the refused record is accepted. -/
def execCountRecordSend (c : Nat) (s : State) : Out := .next <| if (s.core c).tapFull.isEmpty then s.countNext c false else s

/-- COUNT_RECORD_RETRY (R406): a refused record is sent again. -/
def execCountRecordRetry (c : Nat) (s : State) : Out := .next <| if (s.core c).tapFull.isEmpty then s else s.countNext c true

/-- A reply to a COUNT record (R406): OK retires it, FULL keeps it, anything else discards it as a lost window. -/
def State.countReply (s : State) (c seq status : Nat) : State :=
  let k := s.core c
  match k.tapOut.find? (fun o => o.1 == seq) with
  | none => s.setBit (Reg.MSG_STAT c) 3
  | some o =>
    let k := { k with tapOut := k.tapOut.filter (fun x => x.1 != seq) }
    let gone := { k with taps := k.taps.filter (fun r => recordId r != o.2), tapFull := k.tapFull.filter (· != o.2) }
    (match status with
     | 0 => s.setCore c gone
     | 4 => s.setCore c { k with tapFull := if k.tapFull.contains o.2 then k.tapFull else k.tapFull ++ [o.2] }
     | _ => (s.setCore c { gone with tapLost := gone.tapLost + 1 }).bump (Reg.NCR_TAPLOST c) 1).showTaps c

end Sys2Proof.Machine
end

