-- ==== Sys2Proof/Machine/Meridian.lean ====
section
/-! DEFINITION. Run control and mode commits (R224 to R235, R649, R651): the commands, PREPARE, COMMIT and ABORT, the hold of
a run, and its stop. -/

namespace Sys2Proof.Machine

/-- The participant takes part in commits (R226). -/
def State.isParticipant (s : State) (n : Nat) : Bool :=
  if n < 1024 then s.inUse n else if n < 2048 then s.domOn (128 + partOf (n - 1024)) else n ≤ 2065

/-- The SMC answers for the units of a partition (R228, R606, R651). -/
def State.behalf (s : State) (p : Nat) : Bool := s.recovering p || s.heldPart p

/-- The SMC puts a MODE packet on the broadcast tree (R253): the spec gives its class and kind; how it spells the change is a free
value (assumption log 39), and what it says stands in `runc.cast`. -/
def State.modeCast (s : State) (ch : Change) : State :=
  s.draw.inject 1060 7 (2 * 2 ^ 28 + Config.freeNat s.draws % 2 ^ 28) (Config.freeNat s.draws / 2 ^ 28 % 2 ^ 32) (ch.c % 2 ^ 16) ch.c []

/-- What a participant does with the next MODE packet (R226, R253): a core takes the copy that its router delivered, its wrapper
discarding it while closed (R574); routers and the units outside the mesh see the broadcast itself. -/
def State.onMode (s : State) (n : Nat) (f : State → State) : State :=
  if 1024 ≤ n then f s
  else match s.ctrlHead n 2 with
    | none => s
    | some (v, p) =>
      if s.wrapped n then s.wrapDrop n v p
      else if p.good then f ((s.takeInbox n v).retire p.ret)
      else (s.takeInbox n v).crcFail n p

/-- Every participant has yet to answer. -/
def State.clearAcks (s : State) : State :=
  { s with parts := (s.parts.map (fun (e : Nat × Part) => (e.1, { e.2 with acked := false }))).filter (fun e => e.2 != Part.init) }

/-- Acknowledgements and NAKs that the SMC gives for partitions under recovery and held ones. -/
def State.behalfAcks (s : State) (c : Nat) : Nat × Nat :=
  ((List.range 16).filter s.behalf).foldl (fun acc p =>
    let n := (s.partUnits p).length
    if s.recovering p && !stepGt c (mapGet 0 s.recv.replay p + 2 ^ 32 - 1) then (acc.1, acc.2 + n) else (acc.1 + n, acc.2)) (0, 0)

/-- The commit of a START, or of a change that continues the run: what COMMIT does at the SMC (R207, R232 to R235, R309). -/
def State.commitKind (s : State) (ch : Change) (k : ChangeKind) : State :=
  let len := s.rf Reg.SMC_STEPCFG 15 0
  let anchor := fun (s : State) => { s with runc := { s.runc with anchorC := ch.c, tstart := s.time + 20000, oldLen := len } }
  match k with
  | .start =>
    let m := s.lowestMember 255
    let s := (anchor s).wf Reg.SMC_RUNSTAT 31 29 2
    let s := { s with runc := { s.runc with hold := none, stopping := false } }
    let s := (s.wr Reg.SMC_DEVHZ 0xFFFFFFFF).wr Reg.SMC_DEVHZSRC (BitVec.ofNat 32 (bits m 14 14 * 2 ^ 31 + bits m 13 10 * 2 ^ 16 + bits m 9 0))
    (s.imgActive.wf Reg.PWR_DEVSTAT 15 14 (s.img.plan.getD 2 0).toNat).retarget
  | .hold => { s with runc := { s.runc with hold := some ch.c } }.wf Reg.SMC_RUNSTAT 31 29 3
  | .stop => { s with runc := { s.runc with hold := some ch.c, stopping := true } }.wf Reg.SMC_RUNSTAT 31 29 3
  | .resume => ({ anchor s with runc := { (anchor s).runc with hold := none } }.wf Reg.SMC_RUNSTAT 31 29 2).retarget
  | .step n => ({ anchor s with runc := { (anchor s).runc with hold := some ((ch.c + n) % 2 ^ 32) } }.wf Reg.SMC_RUNSTAT 31 29 3).retarget
  | .stepLen us =>
    let steps := toSigned 32 (stepSub ch.c s.runc.anchorC)
    let t : Int := (s.runc.tstart : Int) + steps * (s.lenNs : Int)
    { s with runc := { s.runc with anchorC := ch.c, tstart := t.toNat, oldLen := len } }.wf Reg.SMC_STEPCFG 15 0 us
  | .bankSwap =>
    let links := ((List.range 8).filter (fun k => s.rf (Reg.SPL_LSTAT k) 31 29 == 2 || s.rf (Reg.SPL_LSTAT k) 31 29 == 3)).length
    let ps := (s.ports.map (fun (e : Nat × Port) => (e.1, { e.2 with drained := false }))).filter (fun e => e.2 != Port.init)
    let ls := (s.spr.links.map (fun (e : Nat × LinkInt) => (e.1, { e.2 with fresh := false }))).filter (fun e => e.2 != LinkInt.init)
    let s := { s with runc := { s.runc with swapC := ch.c, swapGen := ch.gen }, ports := ps, spr := { s.spr with links := ls } }
    ((s.wf Reg.SMC_IMGSTAT 25 23 3).wf Reg.SMC_DRAIN 31 16 (s.usedCores.length + 2 + links)).wf Reg.SMC_DRAIN 15 0 0
  | .learn _ => s
  | .lock _ => s
  | .profile _ => s.wf Reg.PWR_DEVSTAT 24 16 0

/-- A delta commit is recorded (R76): the command word with its ARG, the host as source. Which digest the entry holds is the
model's choice (assumption log 43): that of the active full image. -/
def State.logDelta (s : State) (result : Nat) : State := s.logAs .smc 0x10 result (4 * 2 ^ 24 + s.runc.minDist % 2 ^ 16) (logData 3 s.imgDigest)

/-- The change is a run profile, whose command is PWR_DEVCMD PROFILE (R536). -/
def Change.isProfile (ch : Change) : Bool := ch.kinds.any (fun k => match k with | .profile _ => true | _ => false)

/-- A change as a list of numbers in a message between SMCs. -/
def ChangeKind.code : ChangeKind → List Nat
  | .start => [1, 0] | .hold => [2, 0] | .resume => [3, 0] | .stop => [4, 0]
  | .step n => [5, n] | .learn b => [6, b.toNat] | .lock b => [7, b.toNat] | .stepLen us => [8, us]
  | .bankSwap => [9, 0] | .profile p => [10, p]

/-- The changes that such numbers name. -/
def kindsOf : List Nat → List ChangeKind
  | k :: v :: t =>
    (match k with
     | 1 => [ChangeKind.start] | 2 => [.hold] | 3 => [.resume] | 4 => [.stop] | 5 => [.step v] | 6 => [.learn (v == 1)]
     | 7 => [.lock (v == 1)] | 8 => [.stepLen v] | 9 => [.bankSwap] | 10 => [.profile v] | _ => []) ++ kindsOf t
  | _ => []

/-- Device 0 sends the outcome of a commit to the other devices (R466): with T_START after a COMMIT. -/
def State.tellOutcome (s : State) (ch : Change) (done : Bool) : State :=
  if s.leads then s.smcTellAll [3, ch.gen, done.toNat, if done then s.runc.tstart else 0] else s

/-- The SMC broadcasts COMMIT (R226): the generation advances, and held partitions count as having applied (R651). -/
def State.commit (s : State) (ch : Change) : State :=
  let s := { s with runc := { s.runc with change := none, phase := 0, again := false, cast := [(1, ch)] } }
  let s := ch.kinds.foldl (fun s k => s.commitKind ch k) (s.wr Reg.SMC_MODEGEN (BitVec.ofNat 32 ch.gen))
  let s := (List.range 16).foldl (fun s p =>
    if s.heldPart p then s.wf (Reg.SMC_PARTGEN (p / 2)) (16 * (p % 2) + 15) (16 * (p % 2)) ch.gen else s) s
  let s := if ch.kinds.contains .bankSwap then (s.logDelta 0).imgIdle.imgResult 0 else s
  (s.showBusy.tellOutcome ch true).modeCast ch

/-- The steps that have passed by `dt` ns from now on, counted from the anchor and rounded up. -/
def State.stepsBy (s : State) (dt : Nat) : Int :=
  let d : Int := (s.time : Int) + (dt : Int) - (s.runc.tstart : Int)
  if 0 ≤ d then (d + (s.lenNs : Int) - 1) / (s.lenNs : Int) else -((-d) / ((max 1 s.runc.oldLen * 1000 : Nat) : Int))

/-- The commit step of R225: at least 2 ms and `dist` steps away, and the first step of an epoch where the change asks for it;
after a NAK in free-run `more` steps later than that (R229). -/
def State.commitStep (s : State) (dist more : Nat) (epoch : Bool) : Nat :=
  let a : Int := (s.runc.anchorC : Int) + s.stepsBy 2000000
  let b : Int := max 0 ((s.runc.anchorC : Int) + s.sinceAnchor) + (dist : Int)
  let n := (max 0 (max a b)).toNat
  let e := s.epochLen
  ((if epoch then (n + e - 1) / e * e else n) + more) % 2 ^ 32

/-- PREPARE is broadcast (R226 order 1); while the SMC is halted no commit begins (R655). The participants of this commit are
those that SMC_MODEEXP counts now; routers out of service are not among them (R228, assumption log 46). -/
def State.prepare (s : State) (ch : Change) : State :=
  let s := { s with runc := { s.runc with change := some ch } }
  if s.smcHalted then { s with runc := { s.runc with phase := 0 } }.wf Reg.SMC_RUNSTAT 28 28 1
  else
    let a := s.behalfAcks ch.c
    let s := { s.clearAcks with runc := { s.runc with phase := 1, cast := (0, ch) :: s.runc.cast.filter (fun b => b.1 == 2), expect := s.rf Reg.SMC_MODEEXP 15 0 } }
    let s := ((List.range 1024).filter (fun l => !s.domOn (128 + partOf l))).foldl (fun s l => s.setPart (1024 + l) { s.part (1024 + l) with acked := true }) s
    let s := ((s.wr Reg.SMC_COMMITSTEP (BitVec.ofNat 32 ch.c)).wr Reg.SMC_MODEACK (BitVec.ofNat 32 (a.2 * 2 ^ 16 + a.1))).wf Reg.SMC_RUNSTAT 28 28 1
    let s := { s with spr := { s.spr with totals := [], owes := s.rf Reg.SPL_SYSSTAT 28 24 > 1 && s.dev != 0 } }.modeCast ch
    if s.leads then s.smcTellAll (1 :: ch.gen :: ch.c :: ch.kinds.flatMap ChangeKind.code) else s

/-- A change is put to commit with commit step `c`. -/
def State.startCommit (s : State) (kinds : List ChangeKind) (c dist : Nat) : State :=
  let s := { s with runc := { s.runc with again := false, minDist := dist } }
  s.prepare ⟨kinds, c, (s.rf Reg.SMC_MODEGEN 15 0 + 1) % 2 ^ 16⟩

/-- The change must commit at the first step of an epoch (R224). -/
def Change.atEpoch (ch : Change) : Bool := ch.kinds.any (fun k => match k with | .learn _ => true | _ => false)

/-- A second abort ends the command (R229, R68). -/
def State.commitEnds (s : State) (ch : Change) : State :=
  let s := { s with runc := { s.runc with change := none, phase := 0, again := false } }
  let s := (s.bump Reg.SMC_ABORTCNT 1).showBusy
  if ch.isProfile then s.wf Reg.PWR_DEVSTAT 24 16 0x0D
  else if ch.kinds.contains .bankSwap then (s.logDelta 0x0D).imgIdle.imgResult 0x0D
  else
    let s := s.wf Reg.SMC_RUNSTAT 23 16 0x0D
    match s.img.loaded with
    | some j => if ch.kinds.contains .start && s.imgState = 2 then s.imgFail j 0x0D 0 else s
    | none => s

/-- A commit ends by PWRFAIL_N, without a repeat (R230): what was broadcast is aborted. No result is stated for its command, so it
is a free value (assumption log 44); nothing is counted and no image fails. -/
def State.commitDropped (s : State) (ch : Change) : State :=
  let code := Config.freeNat s.draws % 256
  let sent := s.runc.phase = 1
  let s := { s.draw with runc := { s.runc with cast := if sent then [(2, ch)] else s.runc.cast, change := none, phase := 0, again := false } }
  let s := if sent then s.modeCast ch else s
  let s := (s.tellOutcome ch false).showBusy
  if ch.isProfile then s.wf Reg.PWR_DEVSTAT 24 16 code
  else if ch.kinds.contains .bankSwap then (s.logDelta code).imgIdle.imgResult code
  else s.wf Reg.SMC_RUNSTAT 23 16 code

/-- ABORT is broadcast (R226 order 4, R229): the commit is repeated once. -/
def State.abort (s : State) (ch : Change) (nak : Bool) : State :=
  let s := ({ s with runc := { s.runc with cast := [(2, ch)] } }.tellOutcome ch false).modeCast ch
  if s.runc.again then s.commitEnds ch
  else
    let s := { s with runc := { s.runc with again := true } }
    let c := if ch.kinds.contains .start || s.runState = 4 then ch.c
             else s.commitStep s.runc.minDist (if nak && s.bit Reg.SMC_STEPCFG 23 then 1024 else 0) ch.atEpoch
    s.prepare { ch with c := c }

/-- Another device runs the commits (R465). -/
def State.notFirst (s : State) : Bool := 1 < s.rf Reg.SPL_SYSSTAT 28 24 && s.dev != 0

/-- A device other than device 0 answers a system PREPARE with its total once every participant has, or one has refused (R466). -/
def State.sendTotal (s : State) (ch : Change) : State :=
  let n := s.rf Reg.SMC_MODEACK 31 16
  let a := s.rf Reg.SMC_MODEACK 15 0
  if s.spr.owes && (0 < n || a == s.runc.expect) then { s with spr := { s.spr with owes := false } }.smcTell 0 [2, ch.gen, a, n] else s

/-- The SMC decides the commit under way (R226 order 4). -/
def State.decide (s : State) : State :=
  match s.runc.change with
  | none => s
  | some ch =>
    if s.runc.phase ≠ 1 then s
    else if s.notFirst then s.sendTotal ch
    else if 0 < s.rf Reg.SMC_MODEACK 31 16 then s.abort ch true
    else if s.rf Reg.SMC_MODEACK 15 0 = s.runc.expect then s.commit ch
    else s

/-- PWRFAIL_N before COMMIT aborts without a repeat (R230); a device other than device 0 never aborts by itself (R466). -/
def State.commitDrop (s : State) : State :=
  if s.notFirst then s else
  match s.runc.change with
  | some ch => if s.runc.phase = 1 && s.runc.again then s.abort ch false else s.commitDropped ch
  | none => s

/-- A participant still stands before step `c` (R226 order 2). -/
def State.before (s : State) (n : Nat) (ch : Change) : Bool :=
  let at_ := fun (x : Nat) => stepGt ch.c x
  ch.kinds.contains .start ||
    (if n < 1024 then at_ (s.stepOf n)
     else if n < 2048 then true
     else if n < 2064 then (((List.range 64).map (lcnOf (n - 2048))).filter s.inUse).all (fun c => at_ (s.stepOf c))
     else at_ s.tndStep)

/-- The broadcast of a kind that reaches participants now. -/
def State.castOf (s : State) (k : Nat) : Option Change := (s.runc.cast.find? (fun b => b.1 == k)).map (·.2)

/-- The port through which a participant answers (R226, R245). -/
def ackPort (n : Nat) : Nat :=
  if n < 1024 then n else if n < 2048 then n - 1024 else if n < 2064 then lcnOf (n - 2048) 0 else if n = 2064 then 1024 else 1056

/-- The partition that must still checkpoint before its units acknowledge a START (R591). -/
def State.startWaits (s : State) (n : Nat) (ch : Change) : Option Nat :=
  match unitPart n with
  | some p =>
    if ch.kinds.contains .start && !(s.partCores p).isEmpty && !((s.temper p).ckGen == ch.gen + 1 && s.bit (Reg.VLT_CKSTAT p) 31) then some p
    else none
  | none => none

/-- A router that has gone out of service since PREPARE: the SMC acknowledges on its behalf (R228). -/
def State.routerGone (s : State) (n : Nat) : State :=
  let q := s.part n
  if n < 1024 || 2048 ≤ n || s.isParticipant n || q.acked || s.runc.phase ≠ 1 then s
  else ((s.setPart n { q with acked := true }).wf Reg.SMC_MODEACK 15 0 (s.rf Reg.SMC_MODEACK 15 0 + 1)).decide

/-- MODE_PREPARE (R226 order 2, R228, R591): the participant holds the change and acknowledges, or sends a NAK; at a START its
partition first writes a checkpoint. -/
def execModePrepare (n : Nat) (s : State) : Out :=
  .next <|
    match s.castOf 0 with
    | some ch =>
      let q := s.part n
      if q.acked || q.prepared.isSome || !s.isParticipant n || (unitPart n).any s.behalf then s.onMode n (fun s => s.routerGone n)
      else match s.startWaits n ch with
      | some p => if (s.temper p).ckGen = ch.gen + 1 || (s.temper p).ckBusy then s else s.ckBegin p 0 (ch.gen + 1)
      | none => s.onMode n (fun s =>
        let ok := s.before n ch
        let s := s.setPart n { q with acked := true, prepared := if ok then some ch else none }
        let p := ackPort n
        s.inject p (if p < 1024 then 3 else 7) (3 * 2 ^ 28 + ch.gen) (if ok then 1 else 2 ^ 16) (ch.c % 2 ^ 16) ch.c [])
    | none => s

/-- MODE_ACK_RECEIVE (R226 orders 3 and 4). -/
def execModeAckReceive (s : State) : Out :=
  .next <|
    match s.ctrlHead 1060 3 with
    | none => s
    | some (v, p) =>
      let s := s.takeInbox 1060 v
      if !p.good then s.crcFail 18 p
      else
        let s := s.retire p.ret
        match s.runc.change with
        | none => s
        | some ch =>
          if s.runc.phase ≠ 1 || bits p.key 15 0 ≠ ch.gen || p.step ≠ ch.c % 2 ^ 16 then s
          else ((s.wf Reg.SMC_MODEACK 15 0 (s.rf Reg.SMC_MODEACK 15 0 + bits p.payload 15 0)).wf Reg.SMC_MODEACK 31 16
            (s.rf Reg.SMC_MODEACK 31 16 + bits p.payload 31 16)).decide

/-- MODE_COMMIT_TIMEOUT (R226 order 4): 1 ms has passed since the PREPARE broadcast. -/
def execModeCommitTimeout (s : State) : Out :=
  .next <|
    match s.runc.change with
    | some ch => if s.runc.phase = 1 && !s.smcHalted && !s.notFirst then s.abort ch false else s
    | none => s

/-- A router takes up a routing bank swap (R309). -/
def State.routerSwap (s : State) (l gen : Nat) : State :=
  (s.wr (Reg.RTR_BANK l) (BitVec.ofNat 32 (gen * 2 ^ 16 + 2 + (1 - s.rf (Reg.RTR_BANK l) 0 0)))).showPort l

/-- Step that a participant has sealed, for the units that run steps. -/
def State.sealedOf (s : State) (n : Nat) : Nat :=
  if n < 1024 then (s.rd (Reg.NCR_SEALED n)).toNat else (s.rd Reg.TND_SEALED).toNat

/-- The participant has reached its commit step when COMMIT arrives (R230): it waits for admission to it; a router and the
Ladle keep no step. -/
def State.reached (s : State) (n : Nat) (ch : Change) : Bool :=
  ch.kinds.contains .start ||
    (if n < 1024 then s.waiting n && s.nextStep n == ch.c
     else if n < 2048 then true
     else if n < 2064 then (((List.range 64).map (lcnOf (n - 2048))).filter s.inUse).all (fun c => stepGe (s.sealedOf c + 1) ch.c)
     else if n = 2064 then s.tndWaiting && (s.sealedOf n + 1) % 2 ^ 32 == ch.c
     else true)

/-- A router in service whose partition the SMC answers for takes up a swap at COMMIT like every other (R309). -/
def State.routerJoins (s : State) (n : Nat) (ch : Change) : Bool :=
  1024 ≤ n && n < 2048 && s.isParticipant n && (unitPart n).any s.behalf && ch.kinds.contains .bankSwap && (s.part n).gen != ch.gen

/-- MODE_COMMIT_RECEIVE (R226 order 5, R227, R309). -/
def execModeCommitReceive (n : Nat) (s : State) : Out :=
  .next <|
    match s.castOf 1 with
    | some ch => s.onMode n (fun s =>
      if (s.part n).prepared ≠ some ch && !s.routerJoins n ch then s
      else
        let s := s.setPart n { s.part n with prepared := none, committed := some ch }
        let s := if 1024 ≤ n && n < 2048 && ch.kinds.contains .bankSwap then s.routerSwap (n - 1024) ch.gen else s
        if s.reached n ch then s.applyPart n else s)
    | none => s

/-- MODE_ABORT_RECEIVE (R226 order 6). -/
def execModeAbortReceive (n : Nat) (s : State) : Out :=
  .next <|
    match s.castOf 2 with
    | some ch => s.onMode n (fun s => if (s.part n).prepared = some ch then s.setPart n { s.part n with prepared := none } else s)
    | none => s

/-- Word of a run command. -/
def runWord (cmd arg : Nat) : Nat := cmd * 2 ^ 24 + arg

/-- Result of a run command shown in SMC_RUNSTAT. -/
def State.runResult (s : State) (r : Nat) : State := s.wf Reg.SMC_RUNSTAT 23 16 r

/-- The device cannot take run commands (R649). -/
def State.runBarred (s : State) : Bool :=
  s.rf Reg.PWR_DEVSTAT 31 30 != 0 || s.bit Reg.PWR_DEVSTAT 28 || s.bit Reg.PWR_DEVSTAT 29 || s.notFirst

/-- A run command (R231, R649): refused as DENIED, then BUSY, then STATE; otherwise its commit begins. -/
def State.runGo (s : State) (src : Src) (word dist : Nat) (inst ok : Bool) (kinds : List ChangeKind) (c : State → Nat) : State :=
  if inst && !s.installer src then (s.runResult 0x02).logRefusal src 0x02 Reg.SMC_RUNCMD word
  else if s.commitOpen then s.runResult 0x01
  else if s.runBarred || !ok then (s.runResult 0x12).logRefusal src 0x12 Reg.SMC_RUNCMD word
  else
    let s := if inst then s.touchSession else s
    let s := s.runResult 0
    (s.logAs src 0x13 0 word (leBytes 4 (c s))).startCommit kinds (c s) dist

/-- A run command written to SMC_RUNCMD, in the states of the run that it needs; `dist` is the least distance of its commit
(R225, R238). -/
def State.runCmd (s : State) (src : Src) (cmd arg dist : Nat) (inst : Bool) (states : List Nat) (ok : Bool) (kinds : List ChangeKind)
    (c : State → Nat) : State :=
  s.cmdAt src Reg.SMC_RUNCMD (fun s => s.runGo src (runWord cmd arg) dist inst (states.contains s.runState && ok) kinds c)

/-- Commit step of a command: the held step while HELD (R231), else that of R225. -/
def State.cmdStep (s : State) (dist : Nat) (epoch : Bool) : Nat :=
  if s.runState = 4 then s.runc.hold.getD 0 else s.commitStep dist 0 epoch

/-- START written with ARG, the least distance of its commit (R225, R231, R232). -/
def State.runStart (s : State) (src : Src) (arg : Nat) : State := s.runCmd src 0x01 arg arg false [1, 5] true [.start] (fun _ => 0)

/-- HOLD written with ARG (R233). -/
def State.runHold (s : State) (src : Src) (arg : Nat) : State := s.runCmd src 0x02 arg arg false [2] true [.hold] (fun s => s.cmdStep arg false)

/-- RESUME written with ARG (R234). -/
def State.runResume (s : State) (src : Src) (arg : Nat) : State :=
  s.runCmd src 0x03 arg arg false [4] (!s.runc.stopping) [.resume] (fun s => s.cmdStep arg false)

/-- STOP written with ARG (R235). -/
def State.runStop (s : State) (src : Src) (arg : Nat) : State :=
  s.runCmd src 0x05 arg arg false [2, 4] (!s.runc.stopping) [.stop] (fun s => s.cmdStep arg false)

/-- The hold, where there is one, stands at the first step of an epoch (R649). -/
def State.heldAtEpoch (s : State) : Bool := s.runState != 4 || s.runc.hold.getD 0 % s.epochLen == 0

/-- LEARN_ON or LEARN_OFF written with ARG (R224, R231, R649). -/
def State.runLearn (s : State) (src : Src) (on : Bool) (arg : Nat) : State :=
  s.runCmd src (if on then 0x06 else 0x07) arg arg true [2, 4] s.heldAtEpoch [.learn on] (fun s => s.cmdStep arg true)

/-- LOCKSTEP or HORIZON written with ARG (R219, R231). -/
def State.runLock (s : State) (src : Src) (on : Bool) (arg : Nat) : State :=
  s.runCmd src (if on then 0x08 else 0x09) arg arg true [2, 4] true [.lock on] (fun s => s.cmdStep arg false)

/-- START (R231, R232). This row and those like it stand for the word with ARG 0, which asks for no least distance (assumption log 11). -/
def execStartRun (src : Src) (s : State) : Out := .next (s.runStart src 0)

/-- HOLD (R233). -/
def execHoldRun (src : Src) (s : State) : Out := .next (s.runHold src 0)

/-- RESUME (R234). -/
def execResumeRun (src : Src) (s : State) : Out := .next (s.runResume src 0)

/-- STEP (R231, R234). -/
def execStepRun (src : Src) (arg : Nat) (s : State) : Out :=
  .next (s.runCmd src 0x04 arg 0 false [4] (arg != 0 && !s.runc.stopping) [.step arg] (fun s => s.cmdStep 0 false))

/-- STOP (R235). -/
def execStopRun (src : Src) (s : State) : Out := .next (s.runStop src 0)

/-- LEARN_ON (R224, R231, R649). -/
def execLearnOn (src : Src) (s : State) : Out := .next (s.runLearn src true 0)

/-- LEARN_OFF (R224, R231, R649). -/
def execLearnOff (src : Src) (s : State) : Out := .next (s.runLearn src false 0)

/-- LOCKSTEP (R219, R231). -/
def execLockstepMode (src : Src) (s : State) : Out := .next (s.runLock src true 0)

/-- HORIZON (R219, R231). -/
def execHorizonMode (src : Src) (s : State) : Out := .next (s.runLock src false 0)

/-- STEPLEN (R207, R231). -/
def execSteplen (src : Src) (arg : Nat) (s : State) : Out :=
  .next (s.runCmd src 0x0A arg 0 true [2, 4] (arg != 0) [.stepLen arg] (fun s => s.cmdStep 0 false))

/-- Every epoch-end pass that is due before step `c` has ended (R370, R651). -/
def State.passesDone (s : State) (c : Nat) : Bool :=
  (List.range 16).all (fun p => s.rf (Reg.TMP_STAT p) 31 29 == 0 &&
    (s.heldPart p || (((List.range 64).map (lcnOf p)).filter s.inUse).isEmpty || s.passDone p c))

/-- A core is stopped (R235, R405): its open window closes, its event queue, pool and input accumulators are cleared. -/
def State.coreStopRun (s : State) (c : Nat) : State :=
  let t := (s.rd (Reg.NCR_SEALED c)).toNat
  let open_ := s.windowFirst (s.rd (Reg.NCR_TAPWIN c)).toNat
  let s := if stepGe t open_ then s.tapClose c (stepSub (t + 1) open_) true else s
  let s := (List.range 8192).foldl (fun s i => if bits (s.ctx c i) 79 32 = 0 then s else s.putNum (ctxAddr c i) 16 (putBits (s.ctx c i) 79 32 0)) s
  let s := ((s.wf (Reg.NCR_EQSTAT c) 12 0 0).setPhase c 5).poolRebuild c
  s.setCore c { s.core c with eqHead := 0, eqPresent := 0, cur := none, active := [] }

/-- The Tundish closes its open window early (R405). -/
def State.tndStopRun (s : State) : State :=
  let t := (s.rd Reg.TND_SEALED).toNat
  let open_ := s.windowFirst (s.rd Reg.TND_WIN).toNat
  if stepGe t open_ then s.tndClose (stepSub (t + 1) open_) true else s

/-- A stop of the run ends it (R71, R235). -/
def State.stopFinish (s : State) : State :=
  let s := (s.usedCores.foldl State.coreStopRun s).tndStopRun
  let s := { s with runc := { s.runc with stopping := false, hold := none }, img := { s.img with planNext := [] } }
  let s := s.saveOccasion false
  ((s.wf Reg.SMC_IMGSTAT 25 25 0).wf Reg.SMC_RUNSTAT 31 29 5).retarget

/-- Every unit has sealed the step before the hold (R233, R651): by the device horizon, or, while a partition is held isolated,
by the sealed steps of the others and of the Tundish. -/
def State.allSealed (s : State) (t : Nat) : Bool :=
  if (List.range 16).any s.heldPart then
    (s.usedCores.filter (fun c => !s.heldPart (partOf c))).all (fun c => stepGe (s.rd (Reg.NCR_SEALED c)).toNat t) && stepGe (s.rd Reg.TND_SEALED).toNat t
  else stepGe (s.rd Reg.SMC_DEVHZ).toNat t

/-- RUN_HELD (R233, R235): the run becomes HELD, and a STOP ends it once every pass has ended. -/
def execRunHeld (s : State) : Out :=
  .next <|
    match s.runc.hold with
    | none => s
    | some c =>
      let s' := if s.runState = 3 && s.allSealed ((c + 2 ^ 32 - 1) % 2 ^ 32) then (s.wf Reg.SMC_RUNSTAT 31 29 4).retarget else s
      if s'.runState = 4 && s'.runc.stopping && s'.passesDone c then s'.stopFinish else s'

/-- HORIZON_TIMEOUT (R223): the core's counted wait has reached TMO; a device without a suspension counts it (State.waitCounts). -/
def execHorizonTimeout (c : Nat) (s : State) : Out :=
  .next <|
    let b := s.blockOf c
    let held := s.runState = 3 || s.runState = 4
    let tmo := s.rf (Reg.NCR_HZCFG c) 15 0
    if tmo = 0 || (s.core c).hzWait < tmo || s.bit Reg.SMC_RUNSTAT 25 || held || (s.core c).timedOut || s.replaying (partOf c) (s.nextStep c) then s
    else if b.1 = 2 || b.1 = 3 || b.1 = 7 then
      let w := if b.1 = 7 then 2 ^ 15 + s.dev * 2 ^ 10 + c
               else if b.2.1 then (s.core c).devSrc else mapGet 0 (s.core c).hzSrc b.2.2
      let key := 4 * 2 ^ 28 + 2 ^ 24 + bits w 13 10 * 2 ^ 20 + (if bitAt w 14 then 4 * 2 ^ 17 else bits w 9 0 * 2 ^ 7)
      let s := s.inject c 3 key 1 (s.stepOf c % 2 ^ 16) (s.stepOf c) []
      (s.bump (Reg.NCR_HZTOCNT c) 1).setCore c { s.core c with timedOut := true }
    else s

end Sys2Proof.Machine
end

