-- ==== Sys2Proof/Machine/ImageRows.lean ====
section
/-! DEFINITION. The commands and phases of the image loader (R57 to R77): loads, installs, delta images and settings. -/

namespace Sys2Proof.Machine

/-- Word of an image command (R77). -/
def imgWord (cmd slot arg : Nat) : Nat := cmd * 2 ^ 24 + slot % 2 * 2 ^ 16 + arg % 2 ^ 16

/-- The device cannot take image commands (R649). -/
def State.imgBarred (s : State) : Bool := s.rf Reg.PWR_DEVSTAT 31 30 != 0 || s.bit Reg.PWR_DEVSTAT 28 || s.bit Reg.PWR_DEVSTAT 29


/-- An image command (R72, R649): refused as DENIED, then BUSY. -/
def State.imgCmd (s : State) (src : Src) (word : Nat) (inst : Bool) (go : State → State) : State :=
  s.cmdAt src Reg.SMC_IMGCMD (fun s =>
    if inst && !s.installer src then (s.imgResult 0x02).logRefusal src 0x02 Reg.SMC_IMGCMD word
    else if s.bit Reg.SMC_IMGSTAT 26 || s.imgBarred then s.imgResult 0x01
    else go (if inst then s.touchSession else s))

/-- A load begins, or fails one of checks 1 to 7 (R65, R66). -/
def State.startLoad (s : State) (j : ImgJob) : State :=
  match s.beginLoad j with
  | .ok s => s.retarget
  | .error e =>
    let had := 2 ≤ s.imgState
    let s := (s.logImage j e.1).imgDone e.1 e.2
    if had || j.delta then s else s.fallback j

/-- LOAD_SLOT (R57, R64, R72, R77): any role. -/
def execLoadSlot (src : Src) (slot : Nat) (s : State) : Out :=
  .next <|
    let w := imgWord 1 slot 0
    s.imgCmd src w false (fun s => s.startLoad (s.slotJob (slot % 2) false (src == .smc) w (srcCode src)))

/-- LOAD_HOST (R64, R69, R71): a full or delta image; a delta is refused while a drain is pending. -/
def execLoadHost (src : Src) (s : State) : Out :=
  .next <|
    let w := imgWord 2 0 0
    s.imgCmd src w true (fun s =>
      let j := s.hostJob false 0 w (srcCode src)
      if j.delta && s.bit Reg.SMC_IMGSTAT 23 then s.imgResult 0x01 else s.startLoad j)

/-- The job in progress, where it is a full load in the given phase. -/
def State.loadPhase (s : State) (ph : Nat) : Option ImgJob := s.img.job.filter (fun j => !j.install && j.phase == ph)

/-- The state with the job in progress replaced. -/
def State.setJob (s : State) (j : ImgJob) : State := { s with img := { s.img with job := some j } }

/-- A partition holds a LOST core (R571). -/
def State.partLost (s : State) (p : Nat) : Bool := (List.range 64).any (fun k => s.lost (lcnOf p k))

/-- A full load ends the isolation of held partitions (R612), but for one that holds a LOST core; ERR_N follows. -/
def State.releaseHeld (s : State) : State :=
  let s := ((List.range 16).filter (fun p => s.heldPart p && !s.partLost p)).foldl (fun s p =>
    ((s.wf Reg.SMC_RECSTAT p p 0).wf Reg.RST_ISO (16 + p) (16 + p) 0).wf Reg.RST_ISO p p 0) s
  { s with rst := { s.rst with errN := s.rst.errN && (s.rf Reg.SMC_RECSTAT 15 0 != 0 || s.bit Reg.PWR_DEVSTAT 29) } }

/-- Every core in use has ended its current step, or cannot, and no pass is under way. -/
def State.imageStopped (s : State) : Bool :=
  s.rf Reg.SMC_RECSTAT 31 16 == 0 && s.usedCores.all (fun c => (s.core c).stopped || s.waiting c || s.phase c == 5) && (!s.runActive || s.tndWaiting || s.runState == 5) &&
    (List.range 16).all (fun p => s.tmpPhase p == 0)

/-- IMAGE_STOP_FOR_LOAD (R64 order 2, R71, R377): the active image stops; its weights are saved where that is chosen. -/
def execImageStopForLoad (s : State) : Out :=
  .next <|
    match s.loadPhase 0 with
    | none => s
    | some j =>
      if !s.imageStopped then s
      else
        let s := (s.commitDrop.usedCores.foldl State.coreStopRun s.commitDrop).tndStopRun
        let s := if s.bit Reg.SMC_RUNSTAT 26 then s.saveOccasion false else s
        let s := { s with runc := { s.runc with stopping := false, hold := none }, img := { s.img with planNext := [] }, parts := [] }
        (((s.wf Reg.SMC_IMGSTAT 25 25 0).wf Reg.SMC_RUNSTAT 31 29 0).setJob { j with phase := 1 }).retarget

/-- Power domains that a section targets (R64 order 3). -/
def AlmEntry.domains (e : AlmEntry) : List Nat :=
  if 128 ≤ e.type then []
  else match e.scope with
    | 1 => e.targets.map rowDom
    | 2 => e.targets.map (fun t => 128 + partOf t)
    | 3 => e.targets.map (144 + ·)
    | 4 => e.targets.map (144 + ·)
    | 5 => [163]
    | _ => []

/-- Every domain that a section targets is ON; one marked failed never will be. -/
def State.targetsOn (s : State) (j : ImgJob) : Bool :=
  (s.almanac j).all (fun e => e.domains.all (fun d => s.domOn d || s.domState d == 4))

/-- CONFIG packets still on their way. -/
def State.configFlying (s : State) : Bool :=
  s.wires.any (fun e => e.2.any (fun p => p.cls == 6)) ||
    s.routers.any (fun e => e.2.bufs.any (fun b => b.2.any (fun h => h.pkt.cls == 6))) ||
    s.ports.any (fun e => e.1 < 1024 && e.2.inbox.any (fun b => b.2.any (fun p => p.cls == 6)))

/-- IMAGE_CLEAR_DONE (R64 orders 3 and 4, R343, R634): once the domains are ON and no save is waiting. With a host image the load
of the slot's image that it replaces has ended, and its marker is cleared (R60). -/
def execImageClearDone (s : State) : Out :=
  .next <|
    match s.loadPhase 1 with
    | none => s
    | some j =>
      if !s.targetsOn j || s.keep.busy || s.keep.due || s.configFlying then s
      else
        (if j.source = 2 then s.store markerAddr [0] else s).clearAll.releaseHeld.setJob { j with phase := 2, next := 0 }

/-- Streaming fails at the present section, once the contents already sent have arrived; 0x0E names none. -/
def State.streamFail (s : State) (j : ImgJob) (code : Nat) : State :=
  if s.configFlying then s else s.imgFail j code (if code = 0x0E then 0 else j.next)

/-- IMAGE_SECTION_STREAMED (R64 order 5, R69): the next section, in Almanac order. -/
def execImageSectionStreamed (s : State) : Out :=
  .next <|
    match s.loadPhase 2 with
    | none => s
    | some j =>
      let e := s.alm j j.next
      match if j.gone then .error 0x0E else s.expand j e with
      | .error code => s.streamFail j code
      | .ok x =>
        match s.applySection j e x with
        | .error code => s.streamFail j code
        | .ok (s, j') =>
          if j.next + 1 < s.almCount j then s.setJob { j' with next := j.next + 1 }
          else s.setJob { j' with next := j.next + 1, phase := 3 }

/-- CONFIG_WRITE (R252, R256, R281): the network interface writes the payload of a CONFIG packet into its own window. -/
def execConfigWrite (c : Nat) (s : State) : Out :=
  .next <|
    match s.headOf c 3 6 with
    | none => s
    | some p =>
      let s := s.takeInbox c 3
      if !p.good then s.crcFail c p
      else if !configTarget p.key c then s
      else s.rawWrite ((if bitAt p.key 1 then rtrWin c else coreWin c) + p.payload) p.data.length p.data

/-- The SYN section that wrote the axon entry `a` of core `c` (R57). -/
def State.synSection (s : State) (j : ImgJob) (c a : Nat) : Nat :=
  let off := s.axonOff c a
  (firstIdx (fun (e : AlmEntry) => e.type == 8 && e.targets.contains (partOf c) && e.dest ≤ off && off < e.dest + e.exp) (s.almanac j)).getD 0

/-- Order 7 of a full load (R62, R63): the settings block is read or created; none where it cannot be read. -/
def State.settingsStep (s : State) (j : ImgJob) : Option State :=
  if s.settingsBlank j.source then some (s.settingsWrite j.source j.settings)
  else if s.settingsRead j.source (s.srcNum j 24 2) (s.srcNum j 26 2) then some s
  else none

/-- A settings block cannot be read (R63). -/
def State.settingsBad (s : State) (j : ImgJob) : State :=
  let s := s.secLog ⟨0x11, 0, 2, 0xFF, 0, j.source, (s.digestOf j).take 8⟩
  let s := if j.source < 2 then s.putSlot j.source 3 (s.rf (Reg.SMC_IMGSLOT j.source) 29 28) else s
  s.imgFail j 0x0C 0

/-- Seeds of the random sources (R363), and the installer's ceilings (R540). -/
def State.loadSeeds (s : State) (b : List Byte) : State :=
  let s := (List.range 16).foldl (fun s p => s.wr (Reg.TMP_LFSR p) (if s.rd (Reg.TMP_SEED p) = 0 then 1 else s.rd (Reg.TMP_SEED p))) s
  (s.wf Reg.PWR_CEIL 31 24 (settingOf b 0x1101 0)).wf Reg.PWR_CEIL 17 16 (settingOf b 0x1102 0)

/-- The SMC issues the first START of an image that it has loaded by itself (R66, R68, R465). -/
def State.autoStart (s : State) (j : ImgJob) : State :=
  if j.own && s.bit Reg.SMC_IMGBOOT 2 && !s.notFirst && s.spr.loaded.length + 1 = max 1 (s.rf Reg.SPL_SYSSTAT 28 24) then s.runGo .smc (runWord 1 0) 0 false true [.start] (fun _ => 0) else s

/-- A device other than device 0 reports its image LOADED with its participants (R465, R466). -/
def State.loadedReport (s : State) : State := if s.notFirst then s.smcTell 0 [5, s.rf Reg.SMC_MODEEXP 15 0] else s

/-- Device 0 counts the participants of every device (R466). -/
def State.systemExp (s : State) : State :=
  if s.leads then s.wf Reg.SMC_MODEEXP 15 0 (s.modeExp + (s.spr.loaded.map (·.2)).sum) else s

/-- A full load passes check 12 and becomes LOADED (R64 orders 7 and 8). -/
def State.loadEnds (s : State) (j : ImgJob) : State :=
  let b := s.settingsBytes j.source
  let s := ((s.loadSeeds b).restoreWeights (s.digestOf j) b).imgLoaded j
  ({ s with img := { s.img with loaded := some j } }.retarget).loadedReport.systemExp.autoStart j

/-- A delta image passes its checks: it waits in the shadow banks (R69). -/
def State.deltaStaged (s : State) (j : ImgJob) : State := ((s.logImage j 0).setBit Reg.SMC_IMGSTAT 25).imgDone 0 0

/-- The checks after the streaming of a full load (R57 checks 10 to 12, R64 orders 6 to 8), once every router has copied bank 0
into bank 1 (R308). -/
def State.fullVerify (s : State) (j : ImgJob) : State :=
  match s.axonBad with
  | some (c, a) => s.imgFail j 0x11 (s.synSection j c a)
  | none =>
    match s.signatureBad j with
    | some code => s.imgFail j code 0
    | none =>
      match s.settingsStep j with
      | none => s.settingsBad j
      | some s => s.loadEnds j

/-- IMAGE_VERIFY_DONE (R57, R64, R69, R308): nothing streamed is still on its way. -/
def execImageVerifyDone (s : State) : Out :=
  .next <|
    match s.loadPhase 3 with
    | none => s
    | some j =>
      if s.configFlying then s
      else if j.gone then s.imgFail j 0x0E 0
      else if j.delta then
        (match s.signatureBad j with
         | some code => s.imgFail j code 0
         | none => s.deltaStaged j)
      else (s.copyBank 0).fullVerify j

/-- The slot directory that the first INSTALL writes where neither copy is valid (R58). -/
def State.makeDirectory (s : State) : State :=
  match s.directory with
  | some _ => s
  | none =>
    let size := min 0x3FFF0000 ((Config.flashSize - 0x10000) / 2 / 0x10000 * 0x10000)
    let b := leBytes 4 0x544C5344 ++ leBytes 2 1 ++ leBytes 2 0 ++ leBytes 4 0x10000 ++ leBytes 4 (0x10000 + size) ++ leBytes 4 size ++ zeros 40
    let d := b ++ leBytes 4 (crc32 b)
    (s.store flashBase d).store (flashBase + 0x8000) d

/-- The first 64 KiB of a slot are erased, which leaves it EMPTY; without a directory there is no slot. -/
def State.slotErase (s : State) (slot : Nat) : State :=
  match s.slotPlace slot with
  | none => s
  | some pl => { s with mem := mapClear s.mem (flashBase + pl.1) (flashBase + pl.1 + 0x10000) }.slotDerive slot

/-- An installation ends with a failure: the slot's first 64 KiB are erased (R75). -/
def State.installFails (s : State) (j : ImgJob) (code entry : Nat) : State := ((s.slotErase j.slot).logImage j code).imgDone code entry

/-- INSTALL (R75): checks 1 to 7 on the host image, then the slot is erased and programmed. -/
def execInstall (src : Src) (slot : Nat) (s : State) : Out :=
  .next <|
    let w := imgWord 3 slot 0
    s.imgCmd src w true (fun s =>
      let j := s.hostJob true (slot % 2) w (srcCode src)
      match s.precheck j with
      | some e => s.installFails j e.1 e.2
      | none =>
        let s := s.makeDirectory
        let pl := (s.slotPlace (slot % 2)).getD (0, 0)
        if pl.2 < s.imgLen j then s.installFails j 0x10 0
        else
          let a := flashBase + pl.1
          ({ s with mem := mapClear s.mem a (a + pl.2) }.wf Reg.SMC_IMGSTAT 26 26 1).setJob { j with phase := 4 })

/-- Checks 8 and 9 over an image that is not applied (R75): the code and entry of the first failure. -/
def State.sectionsBad (s : State) (j : ImgJob) : Nat → List AlmEntry → Option (Nat × Nat)
  | _, [] => none
  | i, e :: t =>
    match s.expand j e with
    | .error code => some (code, i)
    | .ok x =>
      match s.applySection j e x with
      | .error code => some (code, i)
      | .ok (s, j) => sectionsBad s j (i + 1) t

/-- The slot that holds an installed image, as a job that reads it back. -/
def State.readBack (s : State) (j : ImgJob) : ImgJob :=
  let pl := (s.slotPlace j.slot).getD (0, 0)
  { j with source := j.slot, base := pl.1, size := pl.2 }

/-- INSTALL_PROGRAM_DONE (R59, R75): the slot is read back; checks 8, 9 and 11 are made. A flash that does not take what is
programmed gives STORAGE. -/
def execInstallProgramDone (s : State) : Out :=
  .next <|
    match s.img.job.filter (fun j => j.install && j.phase == 4) with
    | none => s
    | some j =>
      let b := s.readBack j
      if s.flashBad then s.installFails j 0x10 0
      else
      let s := s.store (flashBase + b.base) (s.src j 0 (s.imgLen j))
      match s.sectionsBad b 0 (s.almanac b) with
      | some e => s.installFails j e.1 e.2
      | none =>
        match s.signatureBad b with
        | some code => s.installFails j code 0
        | none =>
          let s := s.store (slotRec j.slot) (leBytes 4 (s.srcNum b 92 4) ++ [1, 0])
          ((s.slotDerive j.slot).logImage j 0).imgDone 0 0

/-- ACTIVATE_DELTA (R70, R224): a staged delta goes to a mode commit at least `arg` steps away; without one the result is not
stated. -/
def execActivateDelta (src : Src) (arg : Nat) (s : State) : Out :=
  .next <|
    s.imgCmd src (imgWord 4 0 arg) true (fun s =>
      if !s.bit Reg.SMC_IMGSTAT 25 then (s.draw).imgResult (Config.freeNat s.draws % 256)
      else if s.commitOpen then s.imgResult 0x01
      else (s.setBit Reg.SMC_IMGSTAT 26).startCommit [.bankSwap] (s.cmdStep arg false) arg)

/-- DISCARD_DELTA (R71, R77). -/
def execDiscardDelta (src : Src) (s : State) : Out :=
  .next <|
    s.imgCmd src (imgWord 5 0 0) true (fun s =>
      { (s.wf Reg.SMC_IMGSTAT 25 25 0).imgResult 0 with img := { s.img with planNext := [] } })

/-- Contents of the SETTINGS section of a slot's image. The spec names no RESULT for a slot without a usable image or section; the
model's choice (assumption log 43) is the code of the check of R57 that the slot's image would fail: SOURCE, ALMANAC, SECTION or
DECODE. -/
def State.slotSettings (s : State) (j : ImgJob) : Except Nat (List Byte) :=
  if !s.check2 j then .error 0x0E
  else match (s.almanac j).find? (fun e => e.type == 0x0F) with
    | none => .error 0x07
    | some e => match s.expand j e with
      | .error c => .error c
      | .ok x => if settingsOk (s.srcNum j 24 2) (s.srcNum j 26 2) x then .ok x else .error 0x09

/-- SETTINGS_RESET (R63, R76): the block is rewritten from the slot's image, and the slot returns to VALID. -/
def execSettingsReset (src : Src) (slot : Nat) (s : State) : Out :=
  .next <|
    let w := imgWord 6 slot 0
    s.imgCmd src w true (fun s =>
      let j := s.slotJob (slot % 2) false false w (srcCode src)
      match s.slotSettings j with
      | .error c => (s.logImage j c).imgResult c
      | .ok x =>
        let s := s.settingsWrite (slot % 2) x
        let st := Reg.SMC_IMGSLOT (slot % 2)
        let s := if s.rf st 31 30 = 3 then s.putSlot (slot % 2) 1 (s.rf st 29 28) else s
        (s.logImage j 0).imgResult 0)

end Sys2Proof.Machine
end

