-- ==== Sys2Proof/Machine/Ladle.lean ====
section
/-! DEFINITION. The Ladle (R424 to R436): descriptor channels, host queues as the host and the fabric use them, host-lost
state; host events (R402, R403); and what a reply does at its requester (R333 to R335). -/

namespace Sys2Proof.Machine

/-- Host memory with bytes written from `a` up. -/
def State.hostPut (s : State) (a : Nat) (bs : List Byte) : State := { s with host := State.memPut s.host a bs }

/-- A Ladle channel. -/
def State.chan (s : State) (n : Nat) : ChInt := mapGet .init s.ldl.chans n
/-- The state with a Ladle channel replaced. -/
def State.setChan (s : State) (n : Nat) (x : ChInt) : State :=
  { s with ldl := { s.ldl with chans := mapSet .init s.ldl.chans n x } }

/-- log2 of a channel's rings (LDL_CHnCFG.LOG2): 4 to 16. -/
def State.chLog2 (s : State) (n : Nat) : Nat := max 4 (min 16 (s.rf (Reg.LDL_CHCFG n) 28 24))

/-- A 64-bit host address in a pair of registers. -/
def State.rd64 (s : State) (lo : Nat) : Nat := (s.rd lo).toNat + 2 ^ 32 * (s.rd (lo + 4)).toNat

/-- STATE of a channel: 0 IDLE, 1 RUNNING, 2 HALTED, 3 STOPPED. -/
def State.chState (s : State) (n : Nat) : Nat := s.rf (Reg.LDL_CHSTAT n) 31 30

/-- Host-lost state is in force (R434). -/
def State.hostGone (s : State) : Bool := s.bit Reg.HIF_STAT 0

/-- The next descriptor to be fetched, and the end of the ring. -/
def State.chHead (s : State) (n : Nat) : Nat := s.rf (Reg.LDL_CHHEAD n) 15 0
/-- Descriptors are ready. -/
def State.chReady (s : State) (n : Nat) : Bool := s.chHead n != s.rf (Reg.LDL_CHTAIL n) 15 0

/-- LDL_CHnSTAT.STATE of a channel that is neither halted nor stopped shows whether it has work; a disabled one with none
left is stopped. -/
def State.chShow (s : State) (n : Nat) : State :=
  let x := s.chan n
  let work := x.cur.isSome || !x.ents.isEmpty
  if s.bit (Reg.LDL_CHCFG n) 31 then
    (if 2 ≤ s.chState n then s else s.wf (Reg.LDL_CHSTAT n) 31 30 (if work || s.chReady n then 1 else 0))
  else if work then s else s.wf (Reg.LDL_CHSTAT n) 31 30 3

/-- LADLE_DOORBELL (R424). -/
def execLadleDoorbell (src : Src) (n tail : Nat) (s : State) : Out :=
  .next <| s.cmdAt src (Reg.LDL_CHTAIL n) (fun s => (s.regWrite src (Reg.LDL_CHTAIL n) tail).chShow n)

/-- A descriptor ends with a status (R427, R428): its entry waits to be written; BADDESC and HOSTERR halt the channel. -/
def State.chEnd (s : State) (n : Nat) (j : ChJob) (count status detail : Nat) (wait : Option (Nat × Nat)) : State :=
  let x := s.chan n
  let e : ChEnt := ⟨j.p, j.tag, count, status, detail, bitAt j.flags 0, wait⟩
  let s := s.setChan n { cur := none, ents := x.ents ++ [e], evs := [] }
  if status = 2 || status = 5 then (s.wf (Reg.LDL_CHSTAT n) 31 30 2).setBit Reg.LDL_ERRSTAT 1 else s

/-- LADLE_CHANNEL_DISABLE (R424): the descriptor in progress ends at its 4 KiB boundary as ABORTED, and so does a MSG whose
reply is pending; then the channel stops. -/
def State.chStop (s : State) (n : Nat) : State :=
  let x := s.chan n
  let ents := x.ents.map (fun (e : ChEnt) => if e.wait.isSome then { e with status := 4, wait := none } else e)
  let s := s.setChan n { x with ents := ents }
  let s := match x.cur with
    | some j => s.chEnd n j (if j.op = 3 then j.done - x.evs.length else j.done) 4 0 none
    | none => s
  (if s.chState n = 2 then s.wf (Reg.LDL_CHSTAT n) 31 30 1 else s).chShow n

/-- A write to LDL_CHnCFG (R424): EN from 0 to 1 sets HEAD to TAIL; in host-lost state EN stays 0 (R435). -/
def State.chCfg (s : State) (src : Src) (n cfg : Nat) : State :=
  let was := s.bit (Reg.LDL_CHCFG n) 31
  let s := s.regWrite src (Reg.LDL_CHCFG n) (if s.hostGone then putBits cfg 31 31 0 else cfg)
  let now := s.bit (Reg.LDL_CHCFG n) 31
  if now && !was then
    ((s.wf (Reg.LDL_CHHEAD n) 15 0 (s.rf (Reg.LDL_CHTAIL n) 15 0)).wf (Reg.LDL_CHSTAT n) 31 30 0).chShow n
  else if was && !now then s.chStop n
  else s

/-- LADLE_CHANNEL_ENABLE (R424): a write with EN = 1. -/
def execLadleChannelEnable (src : Src) (n cfg : Nat) (s : State) : Out :=
  .next <| s.cmdAt src (Reg.LDL_CHCFG n) (fun s => s.chCfg src n (putBits cfg 31 31 1))

/-- LADLE_CHANNEL_DISABLE (R424): a write with EN = 0. -/
def execLadleChannelDisable (src : Src) (n cfg : Nat) (s : State) : Out :=
  .next <| s.cmdAt src (Reg.LDL_CHCFG n) (fun s => s.chCfg src n (putBits cfg 31 31 0))

/-- A descriptor as it lies in host memory (R425). -/
structure Desc where
  op    : Nat
  flags : Nat
  sel   : Nat
  len   : Nat
  haddr : Nat
  daddr : Nat
  tag   : Nat
  rsv   : Nat

/-- The descriptor at HEAD. -/
def State.chDesc (s : State) (n : Nat) : Desc :=
  let b := s.hostBytes (s.rd64 (Reg.LDL_CHDRING_LO n) + 32 * (s.chHead n % 2 ^ s.chLog2 n)) 32
  ⟨numAt b 0 1, numAt b 1 1, numAt b 2 2, numAt b 4 4, numAt b 8 8, numAt b 16 8, numAt b 24 4, numAt b 28 4⟩

/-- A descriptor keeps the rules of R425, R426 and R321. -/
def State.descOk (s : State) (d : Desc) : Bool :=
  let land := Reg.LDL_SDLAND d.sel
  let slots := s.sdSlots land
  d.op ≤ 5 && d.flags < 4 && d.rsv = 0 &&
  (match d.op with
   | 4 => d.sel < 32 && d.daddr = 0 && d.len % 16 = 0 && d.len ≤ 256 && slots != 0 &&
       (slots = 1 || d.len ≤ 16 * min 32 (s.rf land 22 17))
   | 5 => d.sel < 4096 && d.daddr = 0 && 1 ≤ d.len && d.len ≤ 4096 && d.haddr % 64 = 0 &&
       s.bit (Reg.LDL_HQCFG d.sel) 31 && !s.bit (Reg.LDL_HQCFG d.sel) 30
   | 3 => d.sel = 0 && d.daddr = 0 && d.len % 16 = 0 && 16 ≤ d.len && d.len ≤ 2 ^ 20
   | 0 => d.sel = 0 && d.daddr = 0
   | _ => d.sel = 0 && d.daddr < 2 ^ 40 && 1 ≤ d.len && d.len ≤ 2 ^ 24 &&
       (!touchesReg d.daddr d.len || (d.daddr % 4 = 0 && d.len % 4 = 0)))

/-- The channel may begin the descriptor at HEAD: it runs, nothing is in progress, and a FENCE finds every earlier descriptor
completed (R425). -/
def State.chMay (s : State) (n : Nat) : Bool :=
  let x := s.chan n
  s.domOn 162 && !s.hostGone && s.bit (Reg.LDL_CHCFG n) 31 && s.chState n ≤ 1 && x.cur.isNone && s.chReady n &&
    (!bitAt (s.chDesc n).flags 1 || x.ents.isEmpty)

/-- The descriptor at HEAD is fetched, where its OP is one of `ops`: a bad one ends as BADDESC, a good one goes on. -/
def State.chFetch (s : State) (n : Nat) (ops : Nat → Bool) (go : State → Desc → ChJob → State) : State :=
  let d := s.chDesc n
  if !s.chMay n || !ops d.op then s
  else
    let j : ChJob := ⟨s.chHead n, d.op, d.flags, d.len, d.haddr, d.daddr, d.tag, 0, false⟩
    let s' := s.wf (Reg.LDL_CHHEAD n) 15 0 ((s.chHead n + 1) % 65536)
    (if s.descOk d then go s' d j else s'.chEnd n j 0 5 0 none).chShow n

/-- LADLE_NOP (R425): also the fetch of a descriptor whose OP is invalid. -/
def execLadleNop (n : Nat) (s : State) : Out :=
  .next <| s.chFetch n (fun op => op = 0 || 6 ≤ op) (fun s _ j => s.chEnd n j 0 0 0 none)

/-- A transfer in segments begins (R426, R429). -/
def State.chBegin (s : State) (n : Nat) (j : ChJob) : State := s.setChan n { s.chan n with cur := some j }

/-- LADLE_H2D (R426): the copy begins; its segments follow. -/
def execLadleH2d (n : Nat) (s : State) : Out := .next <| s.chFetch n (fun op => op = 1) (fun s _ j => s.chBegin n j)

/-- LADLE_D2H (R426): the copy begins; its segments follow. -/
def execLadleD2h (n : Nat) (s : State) : Out := .next <| s.chFetch n (fun op => op = 2) (fun s _ j => s.chBegin n j)

/-- LADLE_EVENTS (R426): records are read in segments and handed to the Tundish in order. -/
def execLadleEvents (n : Nat) (s : State) : Out := .next <| s.chFetch n (fun op => op = 3) (fun s _ j => s.chBegin n j)

/-- LADLE_MSG (R426, R321): one request leaves through the send descriptor once it has a credit and its attachment has room;
the entry waits for the reply. -/
def execLadleMsg (n : Nat) (s : State) : Out :=
  .next <|
    let d := s.chDesc n
    let st := Reg.LDL_SDSTAT d.sel
    let at_ := 1056 + d.sel % 4
    if s.chMay n && d.op = 4 && s.descOk d && s.sdSlots (Reg.LDL_SDLAND d.sel) ≤ s.rf st 19 15 then
      s.bump (Reg.LDL_SDSTALL d.sel) 1
    else if s.chMay n && d.op = 4 && s.descOk d && 17 < s.wireFlits (s.injWire at_) + 1 + d.len / 16 then s
    else s.chFetch n (fun op => op = 4) (fun s d j =>
      let seq := s.rf st 31 24
      let s := s.sdSend (Reg.LDL_SDKEY d.sel) (s.hostBytes d.haddr d.len) (fun s key pl step data =>
        s.inject at_ 4 key pl step (s.rd Reg.TND_STEP).toNat data)
      (s.chEnd n j d.len 0 0 (some (d.sel, seq))).bump48 (Reg.LDL_CHBYTES n) d.len)

/-- LADLE_READQ (R426, R431): the oldest records of the queue, then NONE records; the records are removed. -/
def execLadleReadq (n : Nat) (s : State) : Out :=
  .next <| s.chFetch n (fun op => op = 5) (fun s d j =>
    let m := min d.len (s.hqCount d.sel)
    let s := ((s.hostPut d.haddr (s.hqPeek d.sel 0 d.len)).hqDrop d.sel m).bump48 (Reg.LDL_CHBYTES n) (64 * d.len)
    s.chEnd n j m 0 0 none)

/-- The 16 bytes of a completion entry (R427). -/
def ChEnt.bytes (e : ChEnt) (log2 : Nat) : List Byte :=
  leBytes 4 e.tag ++ leBytes 4 e.count ++ leBytes 1 e.status ++ leBytes 1 e.detail ++ leBytes 2 e.p ++ zeros 3 ++
    leBytes 1 (1 - e.p / 2 ^ log2 % 2)

/-- LADLE_COMPLETION (R427, R428): the oldest entry is written once no reply holds it back, then the vector is sent. -/
def execLadleCompletion (n : Nat) (s : State) : Out :=
  .next <|
    let x := s.chan n
    match x.ents with
    | [] => s
    | e :: t =>
      if e.wait.isSome || s.hostGone || !s.domOn 162 then s
      else
        let k := s.chLog2 n
        let s := (s.setChan n { x with ents := t }).hostPut (s.rd64 (Reg.LDL_CHCRING_LO n) + 16 * (e.p % 2 ^ k)) (e.bytes k)
        let s := s.bump (Reg.LDL_CHDESCCNT n) 1
        let s := if e.status = 0 then s else s.bump (Reg.LDL_CHERRCNT n) 1
        (if e.status ≠ 0 || e.irq then s.msix (8 + n) else s).chShow n

/-- LADLE_READ_TIMEOUT (R428): a read of data, or of the descriptor at HEAD, is not answered in time. The TAG of a descriptor
that was not read is a free value (assumption log 20). -/
def execLadleReadTimeout (n : Nat) (s : State) : Out :=
  .next <|
    match (s.chan n).cur with
    | some j => if j.op = 2 then s else (s.chEnd n j (if j.op = 3 then j.done - (s.chan n).evs.length else j.done) 2 0 none).chShow n
    | none =>
      if !s.chMay n then s
      else
        let d := s.chDesc n
        let tag := if d.op = 4 then d.tag else Config.freeNat s.draws % 2 ^ 32
        let j : ChJob := ⟨s.chHead n, d.op, if d.op = 4 then d.flags else 0, 0, 0, 0, tag, 0, false⟩
        ((s.draw.wf (Reg.LDL_CHHEAD n) 15 0 ((s.chHead n + 1) % 65536)).chEnd n j 0 2 0 none).chShow n

/-- HOST_EVENT_INJECT (R402, R403): the channel's first record is injected in the Tundish's step, waits for its STEP, or is
discarded as late. -/
def execHostEventInject (n : Nat) (s : State) : Out :=
  .next <|
    let x := s.chan n
    match x.evs, x.cur with
    | r :: t, some j =>
      let key := numAt r 0 4
      let fl := numAt r 6 1
      let row := if bitAt fl 2 then numAt r 7 1 % 32 else homeLcn key / 32
      let at_ := s.tndStep
      let due := numAt r 8 4
      let next := fun (s : State) =>
        let s := s.setChan n { x with evs := t }
        if t.isEmpty && j.done * 16 = j.len then (s.chEnd n j j.done 0 0 none).chShow n else s
      if stepGt due at_ then s
      else if due ≠ at_ && bitAt fl 1 then next ((s.bump Reg.TND_HLATECNT 1).setBit Reg.TND_ERRSTAT 5)
      else if !s.tnd.isOpen || !s.rowRoom row then s
      else
        let s := s.inject (1024 + row) (if bitAt fl 0 then 1 else 0) key (if bitAt fl 0 then numAt r 4 2 else 0) (at_ % 2 ^ 16) at_ []
        next ((s.bump48 Reg.TND_HEVCNT 1).tndCount 4)
    | _, _ => s

/-- Records that a request becomes (R432). -/
def State.hqRecords (s : State) (p : Packet) : List (List Byte) :=
  let type := bits p.step 15 12
  let len := p.step % 32
  let land := bits p.payload 14 0
  let data := fitBytes (16 * len) p.data
  if type = 2 && len = 4 && !bitAt land 14 then [data]
  else
    let more := (16 * len - 48 + 59) / 60
    let head := [0x10] ++ leBytes 1 (if bitAt land 14 then 1 else 0) ++
      leBytes 2 (p.srcLcn + p.srcDev * 2 ^ 10 + (if p.sysSrc then 2 ^ 14 else 0)) ++ leBytes 1 type ++ leBytes 1 len ++
      leBytes 1 (bits p.payload 31 24) ++ leBytes 1 (bits p.payload 23 19) ++ leBytes 2 land ++ leBytes 2 (1 + more) ++
      leBytes 4 (s.time % 2 ^ 32) ++ fitBytes 48 data
    head :: (List.range more).map (fun i => [0x11] ++ leBytes 1 (i + 1) ++ zeros 2 ++ fitBytes 60 (data.drop (48 + 60 * i)))

/-- The first request at a Ladle attachment (R324): the Ladle attaches at LCN 14 to 17. -/
def State.ladleReq (s : State) (at_ : Nat) : Option Packet := if s.domOn 162 && at_ < 4 then s.headOf (1056 + at_) 3 4 else none

/-- HOST_QUEUE_ACCEPT (R430, R432, R334): a request is placed or refused, and answered. -/
def execHostQueueAccept (at_ : Nat) (s : State) : Out :=
  .next <|
    match s.ladleReq at_ with
    | none => s
    | some p =>
      if bits p.key 4 2 = 5 then s
      else
        let s := s.takeInbox (1056 + at_) 3
        if !p.good then s.crcFail (14 + at_) p
        else
          let r := s.hqAccept (bits p.key 16 5) (s.hqRecords p)
          r.1.replyTo (1056 + at_) p r.2

/-- LADLE_SELECTOR_SIGNAL (R422). -/
def execLadleSelectorSignal (at_ : Nat) (s : State) : Out :=
  .next <|
    match s.ladleReq at_ with
    | none => s
    | some p =>
      if bits p.key 4 2 ≠ 5 then s
      else
        let s := s.takeInbox (1056 + at_) 3
        if !p.good then s.crcFail (14 + at_) p
        else (s.msix (1024 + p.srcLcn)).replyTo (1056 + at_) p 0

/-- HOST_QUEUE_POP_READ (R431): a PCIe read of a pop window. -/
def execHostQueuePopRead (q off len : Nat) (s : State) : Out :=
  .next <|
    match s.accKind .pcie false (0x1400000 + 512 * q + off) with
    | some k => (s.accErr .pcie false k (0x1400000 + 512 * q + off)).answer (zeros len)
    | none =>
      if off ≠ 0 || len % 64 ≠ 0 || 512 < len || s.bit (Reg.LDL_HQCFG q) 30 then s.answer (zeros len)
      else (s.hqDrop q (min (len / 64) (s.hqCount q))).answer (s.hqPeek q 0 (len / 64))

/-- Room in a queue's host ring (R433). -/
def State.ringRoom (s : State) (q : Nat) : Nat :=
  2 ^ min 20 (s.rf (Reg.LDL_HQCFG q) 28 24) - (s.rf (Reg.LDL_HQTAIL q) 20 0 + 2 ^ 21 - s.rf (Reg.LDL_HQHEAD q) 20 0) % 2 ^ 21

/-- Records written into a queue's host ring from slot `p` up. -/
def State.ringPut (s : State) (q p : Nat) : Nat → State
  | 0 => s
  | n + 1 =>
    let s' := s.hostPut (s.rd64 (Reg.LDL_HQRING_LO q) + 64 * (p % 2 ^ min 20 (s.rf (Reg.LDL_HQCFG q) 28 24))) (s.hqPeek q 0 1)
    ringPut (s'.hqDrop q 1) q (p + 1) n

/-- HOST_RING_TRANSFER (R433): a batch moves to the host ring, TAIL advances and is written back, and the records count
toward the signal. -/
def execHostRingTransfer (q : Nat) (s : State) : Out :=
  .next <|
    let n := min (s.hqCount q) (s.ringRoom q)
    if !s.domOn 162 || s.hostGone || !s.bit (Reg.LDL_HQCFG q) 30 || n = 0 then s
    else
      let t := s.rf (Reg.LDL_HQTAIL q) 20 0
      let s := (s.ringPut q t n).wf (Reg.LDL_HQTAIL q) 20 0 ((t + n) % 2 ^ 21)
      let wb := s.rd64 (Reg.LDL_HQWB_LO q)
      (if wb = 0 then s else s.hostPut wb (leBytes 4 ((t + n) % 2 ^ 21))).hqEntered q n

/-- HOST_QUEUE_IRQ_DELAY (R433): DELAY has passed since the oldest record that no signal has announced. -/
def execHostQueueIrqDelay (q : Nat) (s : State) : Out :=
  .next <|
    if s.bit (Reg.LDL_HQCFG q) 29 && (s.hq q).since ≠ 0 then (s.setHq q { s.hq q with since := 0 }).hqSend q else s

/-- HOST_QUEUE_LOCAL_WRITE (R444): the local ring is emptied. -/
def execHostQueueLocalWrite (src : Src) (q data : Nat) (s : State) : Out :=
  .next <| s.cmdAt src (Reg.LDL_HQLOCAL q) (fun s => (s.hqClear q).regWrite src (Reg.LDL_HQLOCAL q) data)

/-- Registers of an address range for which a test holds and that differ from their reset value. -/
def State.live (s : State) (p : Nat → Bool) : List Nat := (s.regs.map Prod.fst).filter p

/-- A host load, or an install from the host, ends because the host is gone (R73, R75): a load at check 1 before streaming, under
R65 and R66, else with SOURCE. -/
def State.loadHostGone (s : State) : State :=
  match s.img.job with
  | none => s
  | some j =>
    if j.source ≠ 2 then s
    else if j.install then s.installFails j 0x0E 0
    else if j.phase ≤ 1 then
      let s := (s.logImage j 0x0E).imgDone 0x0E 0
      if 2 ≤ j.was then s.loadUndone j else s.fallback j
    else if s.configFlying then s.setJob { j with gone := true }
    else s.imgFail j 0x0E 0

/-- What PCIE_PERST_N, hot reset, link disable and FLR reset beside what host-lost state does (R418): configuration space, the MSI-X
table with its masks and pending bits, and the HIF registers; HIF_LOSTCNT, HIF_STAT and the link's own state follow R434
(assumption log 50). -/
def State.pcieReset (s : State) : State :=
  ({ s with regs := resetRegs s.regs 0x1800000 0x1808100, cfg := [], ldl := { s.ldl with soft := false } }.wr Reg.HIF_SMBPECCNT 0).wr Reg.HIF_CPLTO 0x2710

/-- Host-lost state begins (R434, R435); a reset that comes while it lasts has its own effects (R418). -/
def State.hostLost (s : State) (cause : LostCause) : State :=
  let s := if cause = .linkDown || cause = .flr then s.pcieReset else s
  if s.hostGone then (if cause = .linkDown then (s.wr Reg.HIF_LINK 0).setBit Reg.HIF_STAT 2 else if cause = .flr then s.setBit Reg.HIF_STAT 2 else s)
  else
    let s := ((s.setBit Reg.HIF_STAT 0).setBit Reg.HIF_STAT 1).bump Reg.HIF_LOSTCNT 1
    let s := if cause = .linkDown then (s.wr Reg.HIF_LINK 0).setBit Reg.HIF_STAT 2 else s.setBit Reg.HIF_STAT 2
    let s := (List.range 32).foldl (fun s n => (s.wf (Reg.LDL_CHCFG n) 31 31 0).wf (Reg.LDL_CHSTAT n) 31 30 3) s
    let soft := cause = .busMasterClear || cause = .d3hot
    let s := { s with ldl := { s.ldl with chans := [], soft := soft } }
    let s := (s.live (fun a => 0x1100000 ≤ a && a < 0x1140000 && a % 64 = 0)).foldl (fun s a => s.wf a 30 30 0) s
    (s.endSession .pcie 3).loadHostGone

/-- HOST_LOST_ENTRY (R434, R435). -/
def execHostLostEntry (cause : LostCause) (s : State) : Out := .next (if s.domOn 162 then s.hostLost cause else s)

/-- Bus Master Enable is set and the function is in D0, as configuration space shows them (assumption log 21). -/
def State.busMaster (s : State) : Bool := bitAt (mapGet 0 s.cfg 0x04).toNat 2 && getF (mapGet 0 s.cfg 0x44) 1 0 == 0

/-- Host-lost state ends once the link is up, Bus Master Enable is set and the function is in D0 (R436). -/
def State.hostBack (s : State) : State :=
  let s := s.wf Reg.HIF_STAT 2 2 (if s.busMaster then 0 else 1)
  if !s.hostGone || !s.bit Reg.HIF_LINK 31 || !s.busMaster then s
  else
    let s := s.wf Reg.HIF_STAT 0 0 0
    let s := { s with regs := resetRegs s.regs 0x1020000 0x1022000, cfg := if s.ldl.soft then s.cfg.filter (fun e => e.1 == 4) else s.cfg,
                      ldl := { s.ldl with soft := false } }
    let ring := fun a => 0x1100000 ≤ a && a < 0x1140000 && 8 ≤ a % 64 && a % 64 < 28
    (s.live ring).foldl (fun s a => s.wr a 0) s

/-- HOST_LOST_EXIT (R436): the data link layer is up at a speed and width (R440). -/
def execHostLostExit (speed width : Nat) (s : State) : Out :=
  .next <|
    if !s.domOn 162 then s
    else (s.wr Reg.HIF_LINK (BitVec.ofNat 32 (2 ^ 31 + speed % 8 * 2 ^ 28 + width % 16 * 2 ^ 24))).hostBack

/-- A reply to a request of a Ladle send descriptor (R333 to R335, R426): the waiting entry may be written. -/
def State.ladleReply (s : State) (d seq status detail : Nat) : State :=
  let ends := fun (e : ChEnt) => if e.wait = some (d, seq) then { e with wait := none, status := status, detail := detail } else e
  let chans := s.ldl.chans.map (fun (c : Nat × ChInt) => (c.1, { c.2 with ents := c.2.ents.map ends }))
  { s with ldl := { s.ldl with chans := chans } }

/-- A reply reaches the Ladle: OK, or a status that the entry reports as MSGSTAT. -/
def State.ladleRsp (s : State) (d seq status : Nat) : State :=
  let sd := Reg.LDL_SDKEY d
  if !s.sdOldest sd seq then s
  else
    let s := s.sdCredit sd
    let s := if status = 0 then s else s.sdStatus sd status
    s.ladleReply d seq (if status = 0 then 0 else 3) status

/-- A reply to a message of the SMC (R633): an alarm whose message was not accepted shows ERR. -/
def State.smcRsp (s : State) (seq status : Nat) : State :=
  match s.smc.flying.find? (fun (e : Nat × Nat) => e.1 == seq) with
  | none => s
  | some e =>
    let s := { s with smc := { s.smc with flying := s.smc.flying.filter (fun (x : Nat × Nat) => x.1 != seq) } }
    if e.2 < 64 && status ≠ 0 then s.setBit (Reg.SMC_EPHSTAT e.2) 30 else s

/-- MSG_REPLY_RECEIVE (R333): at a core, at a Ladle attachment (1056 to 1059) or at the SMC (1060). -/
def execMsgReplyReceive (who : Nat) (s : State) : Out :=
  .next <|
    match s.headOf who 4 5 with
    | none => s
    | some p =>
      let s := s.takeInbox who 4
      let seq := bits p.payload 31 24
      let desc := bits p.payload 23 19
      let st := bits p.payload 18 15
      if !p.good then s.crcFail (portLcn who) p
      else if who < 1024 then
        (match bits p.key 4 2 with
         | 0 => s.sdReply who desc seq st
         | 4 => s.forwardReply who seq st
         | 5 => s
         | 6 => s.countReply who seq st
         | _ => s.setBit (Reg.MSG_STAT who) 3)
      else if who = 1060 then s.smcRsp seq st
      else s.ladleRsp desc seq st

/-- MSG_REPLY_TIMEOUT (R335): at a core, or at the Ladle. -/
def execMsgReplyTimeout (who desc : Nat) (s : State) : Out :=
  .next <|
    let sd := if who < 1024 then Reg.MSG_SDKEY who desc else Reg.LDL_SDKEY desc
    let out := s.rf (sd + 12) 19 15
    if s.rf (sd + 8) 15 0 = 0 || out = 0 then s
    else
      let seq := (s.rf (sd + 12) 31 24 + 256 - out) % 256
      let s := (s.sdCredit sd).sdStatus sd 0xF
      if who < 1024 then s.setBit (Reg.MSG_STAT who) 4 else s.ladleReply desc seq 3 0xF

end Sys2Proof.Machine
end

