-- ==== Sys2Proof/Machine/Reset.lean ====
section
/-! DEFINITION. Resets (R557 to R560, R583, R586, R673): what each one clears and keeps, the release order after it, and the
SMC firmware slots (R576 to R585). -/

namespace Sys2Proof.Machine

/-- Storage that keeps its contents over every reset: the Vernier window and sealed MRAM (R18, R474), the MRAM, the boot flash. -/
def keptAddr (a : Nat) : Bool :=
  (0x4000000 ≤ a && a < 0x5000000) || (0x300000000 ≤ a && a < 0x304000000) || (0x20000000000 ≤ a && a < 0x20800000000) || 0x21000000000 ≤ a

/-- Registers after a reset (R557): all but the Vernier partition's own, with the bits that MRAM and fuses hold. -/
def resetAllRegs (m : List (Nat × Word)) : List (Nat × Word) :=
  resetRegs (resetRegs (resetRegs m 0 0x4000000) 0x4001004 0x400100C) 0x5000000 0x10000000000

/-- RST_FWSLOT.STATE of a firmware slot (R578): 0 EMPTY, 1 VALID, 2 TRIAL, 3 ABANDONED, 4 SETTINGS_INCOMPATIBLE. -/
def State.fwState (s : State) (k : Nat) : Nat := s.rf (Reg.RST_FWSLOT k) 31 29
/-- The state with a firmware slot's state set in the boot record. -/
def State.setFwState (s : State) (k v : Nat) : State := s.wf (Reg.RST_FWSLOT k) 31 29 v
/-- Boot attempts of a slot without confirmation. -/
def State.fwTries (s : State) (k : Nat) : Nat := s.rf (Reg.RST_FWSLOT k) 28 27
/-- The state with the boot attempts of a slot set. -/
def State.setFwTries (s : State) (k n : Nat) : State := s.wf (Reg.RST_FWSLOT k) 28 27 n
/-- The firmware slot in use. -/
def State.runSlot (s : State) : Nat := s.rf Reg.RST_FWSTAT 30 30

/-- A boot abandoned by a reset other than the watchdog's is not counted (R558, R583). -/
def State.bootAbandoned (s : State) (cause : Nat) : State :=
  if s.rst.fwRuns && !s.rst.confirm && cause ≠ 4 then s.setFwTries s.runSlot (s.fwTries s.runSlot - 1) else s

/-- Vaults whose domain is marked failed (R569). -/
def State.failedVaults (s : State) : List Nat := (List.range 16).filter (fun p => s.domState (144 + p) == 4)

/-- A reset of R557 that leads to a start: cause 1 PORST_N, 2 SYSRST_N, 3 software, 4 watchdog, 5 wake from DEEP; `full` has
every vault tested. The latches of wide counters go back to 0 at PORST_N alone (R14, R624). -/
def State.resetAll (s : State) (cause : Nat) (full : Bool) : State :=
  let s := (s.endSession .smc 7).bootAbandoned cause
  let hist := if cause = 1 then 1 else s.rf Reg.RST_CAUSE 4 0 ||| 2 ^ (cause - 1)
  let sec := s.rf Reg.SEC_STAT 26 24
  let rst : RstInt := { RstInt.init with porst := s.rst.porst, sysrst := s.rst.sysrst, aon := s.rst.aon, perst := s.rst.perst,
                                         full := full || cause == 1, vltFail := s.failedVaults, began := if cause = 1 then 0 else s.time }
  let t : State := { State.reset with
    pending := s.pending, draws := s.draws, time := if cause = 1 then 0 else s.time, regs := resetAllRegs s.regs,
    latches := if cause = 1 then [] else s.latches,
    mem := s.mem.filter (fun (e : Nat × Byte) => keptAddr e.1), upsets := s.upsets.filter (fun (e : Nat × Nat) => keptAddr e.1),
    rdata := s.rdata, host := s.host, flashBad := s.flashBad, msgs := s.msgs, sec := { s.sec with nonce := none, fails := 0, prog := none, revoke := none, waits := [] },
    pwr := { PwrInt.init with pwrfail := s.pwr.pwrfail }, rst := rst, recv := { RecInt.init with totals := s.recv.totals }, vrn := s.vrn }
  let t := (t.wf Reg.SEC_STAT 26 24 sec).wr Reg.RST_CAUSE (BitVec.ofNat 32 (cause * 2 ^ 28 + hist))
  let t := (List.range 4).foldl (fun t i =>
    let v := s.recv.totals.getD i 0
    (t.wr (Reg.SMC_AVRUN + 8 * i) (BitVec.ofNat 32 v)).wf (Reg.SMC_AVRUN + 8 * i + 4) 15 0 (v / 2 ^ 32)) t
  t.wf Reg.RST_STAT 25 25 (if cause = 1 then 1 else 0)

/-- A reset is held by a pin or by the supply monitor (R673). -/
def State.inReset (s : State) : Bool := s.rst.porst || s.rst.sysrst || s.rst.aon

/-- PORST_ASSERT (R557). -/
def execPorstAssert (s : State) : Out := .next ({ s with rst := { s.rst with porst := true } }.resetAll 1 true)

/-- AON_SUPPLY_LOW (R673): the device is held in reset exactly as under PORST_N. -/
def execAonSupplyLow (s : State) : Out := .next ({ s with rst := { s.rst with aon := true } }.resetAll 1 true)

/-- SYSRST_ASSERT (R557, R558): under PORST_N or the supply monitor's hold the stronger reset governs. -/
def execSysrstAssert (s : State) : Out :=
  .next <|
    let t := { s with rst := { s.rst with sysrst := true } }
    if s.rst.porst || s.rst.aon then t else t.resetAll 2 false

/-- The end of a reset is the moment from which the start is timed (R559, R563); PORST_N holds the timebase at 0 (R621). -/
def State.released (s : State) : State :=
  let s := if s.rf Reg.RST_CAUSE 31 28 = 1 then { s with time := 0 } else s
  { s with rst := { s.rst with began := s.time } }

/-- PORST_RELEASE (R559). -/
def execPorstRelease (s : State) : Out :=
  .next <| if s.rst.porst then { s with rst := { s.rst with porst := false } }.released else s

/-- AON_SUPPLY_RETURN (R673). -/
def execAonSupplyReturn (s : State) : Out :=
  .next <| if s.rst.aon then { s with rst := { s.rst with aon := false } }.released else s

/-- SYSRST_RELEASE (R559). -/
def execSysrstRelease (s : State) : Out :=
  .next <| if s.rst.sysrst then { s with rst := { s.rst with sysrst := false } }.released else s

/-- Word of RST_CMD. -/
def rstWord (cmd : Nat) : Nat := cmd * 2 ^ 24

/-- A command written to RST_CMD (R586): refused with DENIED outside an installer session. -/
def State.rstCmd (s : State) (src : Src) (cmd : Nat) (go : State → State) : State :=
  s.cmdAt src Reg.RST_CMD (fun s =>
    if !s.installer src then (s.wf Reg.RST_STAT 7 0 0x02).logRefusal src 0x02 Reg.RST_CMD (rstWord cmd)
    else go s)

/-- WARM (R557, R586). -/
def execWarmReset (src : Src) (s : State) : Out := .next (s.rstCmd src 1 (fun s => s.resetAll 3 false))

/-- WARM_FULL (R569, R586). -/
def execWarmFull (src : Src) (s : State) : Out := .next (s.rstCmd src 2 (fun s => s.resetAll 3 true))

/-- WATCHDOG_EXPIRY (R583, R655): paused while the SMC is halted. -/
def execWatchdogExpiry (s : State) : Out :=
  .next <| if s.rst.fwRuns && !s.smcHalted && !s.inReset then s.resetAll 4 false else s

/-- TAP_RESET (R557, R681): the TAP's instruction register takes IDCODE; nothing else changes. -/
def execTapReset (s : State) : Out := .next { s with rst := { s.rst with tapIr := 1 } }

/-- An SMC boot restart (R557, R581): the SMC domain is reset, and stage 2 begins again. The SEC block's session goes on. -/
def State.bootRestart (s : State) : State :=
  let s := { s with regs := resetRegs (resetRegs s.regs 0x2000 0x3000) 0x4000 0x6000, smc := .init, img := .init, runc := .init, keep := .init,
                    rst := { s.rst with rel := 2, fwRuns := false, confirm := false } }
  let s := ((s.domRest 161).setDomState 161 3).setClock 161 false 0
  (s.wf Reg.RST_STAT 31 28 2).wf Reg.RST_FWSTAT 29 29 0

/-- SMC_BOOT_RESTART (R557): only during stage 2. -/
def execSmcBootRestart (s : State) : Out := .next (if s.rf Reg.RST_STAT 31 28 = 2 && s.rst.rel = 4 then s.bootRestart else s)

/-- The order of release (R559) moves on. -/
def State.setRel (s : State) (n : Nat) : State := { s with rst := { s.rst with rel := n } }

/-- A slot may be started by the ROM (R579). -/
def State.fwMay (s : State) (k : Nat) : Bool := s.fwState k == 1 || s.fwState k == 2

/-- The ROM's choice of a firmware slot (R579, R583): one with 3 attempts without confirmation is abandoned first. -/
def State.romChoice (s : State) : State × Option Nat :=
  let s := [0, 1].foldl (fun s k => if s.fwMay k && s.fwTries k = 3 then s.setFwState k 3 else s) s
  let pref := if s.bit (Reg.RST_FWSLOT 1) 26 then 1 else 0
  (s, if s.fwMay pref then some pref else if s.fwMay (1 - pref) then some (1 - pref) else none)

/-- RSTOUT_N is released once 10 ms have passed and, where OUTHOLD is set, the start has reached READY or ROM recovery (R560). -/
def State.outRelease (s : State) : State :=
  let up := s.bit Reg.RST_STAT 27 || s.rf Reg.RST_STAT 31 28 = 0xB
  if s.rst.outDone && (!s.bit Reg.RST_CFG 30 || up) then { s with rst := { s.rst with rstout := false } } else s

/-- RSTOUT_RELEASE (R560): 10 ms have passed since the always-on logic was released. -/
def execRstoutRelease (s : State) : Out :=
  .next <| if s.inReset || s.rst.rel = 0 then s else { s with rst := { s.rst with outDone := true } }.outRelease

/-- ROM recovery (R584): the PCIe and MRAM domains are woken; vector 0 is sent once the link is up. -/
def State.romRecovery (s : State) : State :=
  let s := ((s.wf Reg.RST_STAT 31 28 0xB).wf Reg.RST_FWSTAT 29 29 1).retarget
  (if s.bit Reg.HIF_LINK 31 then s.msix 0 else s).outRelease

/-- The ROM takes a slot, or enters recovery where none can be started. -/
def State.romSelect (s : State) : State :=
  match s.romChoice with
  | (s, none) => s.romRecovery
  | (s, some k) => s.wf Reg.RST_FWSTAT 30 30 k

/-- RELEASE_ORDER_STEP (R559): the gap of 4,096, 256 or 64 crystal cycles has elapsed. -/
def execReleaseOrderStep (s : State) : Out :=
  .next <|
    if s.inReset then s
    else if s.rst.rel = 0 then (s.setRel 1).wf Reg.CLK_REFSTAT 31 29 7
    else if s.rst.rel = 2 then (s.setRel 3).requestAll [161]
    else if s.rst.rel = 3 && s.domOn 161 then
      let s := (s.setRel 4).retarget
      if s.rf Reg.RST_STAT 31 28 = 2 then s.romSelect else s
    else s

/-- FUSE_LOAD_DONE (R559). -/
def execFuseLoadDone (s : State) : Out := .next (if s.rst.rel = 1 && !s.inReset then s.setRel 2 else s)

/-- PCIE_PERST_RELEASE (R564): link training may begin. -/
def execPciePerstRelease (s : State) : Out := .next { s with rst := { s.rst with perst := false } }

/-- Device address of a firmware slot (R576). -/
def fwBase (k : Nat) : Nat := 0x300000000 + 0x100000 * k

/-- CODE_LEN of the package at an address. -/
def State.codeLen (s : State) (a : Nat) : Nat := s.num (a + 8) 4

/-- Digest of a package (R576). -/
def State.pkgDigest (s : State) (a : Nat) : List Byte := sha256 (s.bytes a 64 ++ s.bytes (a + 256) (s.codeLen a))

/-- The header of a package is correct (R577). -/
def State.pkgHeader (s : State) (a : Nat) : Bool :=
  s.num a 4 == 0x46434D53 && 1 ≤ s.codeLen a && s.codeLen a ≤ 1048320 && s.num (a + 17) 1 == 1 && s.num (a + 252) 4 == crc32 (s.bytes a 252)

/-- Validity of a package (R577): 0, or 3 HEADER, 0xB KEY, 0xA SIGNATURE. -/
def State.pkgCheck (s : State) (a : Nat) : Nat :=
  let k := s.num (a + 16) 1
  let pub := s.bytes (a + 64) 64
  if !s.pkgHeader a then 3
  else if 1 < k || !s.keyMatches (4 + k) pub then 0xB
  else if ecdsaOk pub (s.pkgDigest a) (s.bytes (a + 128) 64) then 0
  else 0xA

/-- A firmware command is recorded (R519, R585). -/
def State.logFw (s : State) (src : Src) (result a : Nat) : State :=
  s.logAs src 0x14 result (s.num (a + 4) 4) ((s.pkgDigest a).take 8)

/-- Word of RST_FWCMD. -/
def fwWord (cmd slot : Nat) : Nat := cmd * 2 ^ 24 + slot % 2 * 2 ^ 16

/-- RST_FWSTAT.RESULT set. -/
def State.fwResult (s : State) (r : Nat) : State := s.wf Reg.RST_FWSTAT 23 16 r

/-- A command written to RST_FWCMD (R586). -/
def State.fwCmd (s : State) (src : Src) (word : Nat) (go : State → State) : State :=
  s.cmdAt src Reg.RST_FWCMD (fun s =>
    if !s.installer src then (s.fwResult 0x02).logRefusal src 0x02 Reg.RST_FWCMD word
    else go s.touchSession)

/-- A firmware command ends. -/
def State.fwDone (s : State) (src : Src) (slot r : Nat) : State := (s.fwResult r).logFw src r (fwBase slot)

/-- An FW_INSTALL fails: the slot is left EMPTY (R585). -/
def State.fwFails (s : State) (src : Src) (slot r : Nat) : State :=
  (s.fwDone src slot r).setFwState slot 0 |>.setFwTries slot 0 |>.wr (Reg.RST_FWVER slot) 0

/-- In ROM recovery a success restarts the SMC (R584). -/
def State.afterFw (s : State) : State := if s.bit Reg.RST_FWSTAT 29 then s.bootRestart else s

/-- Host address of the package for FW_INSTALL. -/
def State.fwHost (s : State) : Nat := (s.rd (Reg.RST_FWHADDR 0)).toNat + 2 ^ 32 * (s.rd (Reg.RST_FWHADDR 1)).toNat

/-- FW_INSTALL (R585). -/
def execFwInstall (src : Src) (slot : Nat) (s : State) : Out :=
  .next <|
    let k := slot % 2
    let w := fwWord 1 slot
    s.fwCmd src w (fun s =>
      let h := s.fwHost
      let len := 256 + leNat (s.hostBytes (h + 8) 4)
      if s.rst.fwRuns && s.runSlot = k then ((s.fwResult 0x12).logRefusal src 0x12 Reg.RST_FWCMD w).logFw src 0x12 (fwBase k)
      else if !s.bit Reg.HIF_LINK 31 || s.hostGone || h % 16 ≠ 0 then s.fwFails src k 0x0E
      else if (s.rd Reg.RST_FWHLEN).toNat < 256 || (s.rd Reg.RST_FWHLEN).toNat < len then s.fwFails src k 0x03
      else if 0x100000 < len || s.domState 175 = 4 then s.fwFails src k 0x10
      else
        let s := s.store (fwBase k) (s.hostBytes h len)
        match s.pkgCheck (fwBase k) with
        | 0 =>
          let s := ((s.setFwState k 2).setFwTries k 0).wr (Reg.RST_FWVER k) (BitVec.ofNat 32 (s.num (fwBase k + 4) 4))
          (s.fwDone src k 0).afterFw
        | r => s.fwFails src k r)

/-- FW_ACTIVATE (R585): the slot is preferred from the next start on. -/
def execFwActivate (src : Src) (slot : Nat) (s : State) : Out :=
  .next <|
    s.fwCmd src (fwWord 2 slot) (fun s =>
      ((s.wf (Reg.RST_FWSLOT (slot % 2)) 26 26 1).wf (Reg.RST_FWSLOT (1 - slot % 2)) 26 26 0).fwDone src (slot % 2) 0)

/-- A system settings block created for a package (R580): its schema, no record beyond its defaults. -/
def State.newSettings (s : State) (k : Nat) : State :=
  let b := s.bytes (fwBase k + 12) 4 ++ zeros 4
  s.store sysSettings (b ++ leBytes 4 (crc32 b))

/-- Settings registers go back to the defaults of the package, which are the factory values (assumption log 22). -/
def State.defaultSettings (s : State) : State :=
  { s with regs := s.regs.filter (fun (e : Nat × Word) => match regRow e.1 with
      | some r => !(r.mram != 0 && r.fields.any (fun f => f.2.2 == .rwi))
      | none => true) }

/-- FW_SETRESET (R581): the block is rewritten from the slot's package, and the slot returns to TRIAL. -/
def execFwSetreset (src : Src) (slot : Nat) (s : State) : Out :=
  .next <|
    let k := slot % 2
    s.fwCmd src (fwWord 3 slot) (fun s =>
      if s.fwState k = 0 || !s.pkgHeader (fwBase k) then s.fwDone src k 0x03
      else if s.domState 175 = 4 then s.fwDone src k 0x10
      else (((s.newSettings k).defaultSettings.setFwState k 2).fwDone src k 0).afterFw)

end Sys2Proof.Machine
end

