-- ==== Sys2Proof/Machine/Repair.lean ====
section
/-! DEFINITION. The repair record (R566 to R569): its two MRAM copies, vault maps and core maps in it, and how it is rewritten.
Also the scrubber of a vault and the copy of a row (R177, R179). -/

namespace Sys2Proof.Machine

/-- Device address of copy `i` of the repair record. -/
def repairAddr (i : Nat) : Nat := 0x300220000 + 0x20000 * (i % 2)

/-- LEN of the repair record. -/
def repairLen : Nat := 66112

/-- A copy is valid (R566). -/
def State.repairOk (s : State) (i : Nat) : Bool :=
  let a := repairAddr i
  s.num a 4 == 0x524D5052 && s.num (a + 60) 4 == crc32 (s.bytes (a + 64) (repairLen - 64))

/-- The copy in force: the valid one with the larger GEN. -/
def State.repairBest (s : State) : Option Nat :=
  if s.repairOk 0 && s.repairOk 1 then some (if s.num (repairAddr 0 + 4) 4 < s.num (repairAddr 1 + 4) 4 then 1 else 0)
  else if s.repairOk 0 then some 0 else if s.repairOk 1 then some 1 else none

/-- Half words of a bank entry: VALID in bit 15. -/
def bankWords (vs : List Nat) (n : Nat) : List Byte := fitBytes (2 * n) (vs.flatMap (fun v => leBytes 2 (0x8000 + v)))

/-- The entry of a bank (R566). -/
def VaultInt.bankBytes (x : VaultInt) (b : Nat) : List Byte :=
  bankWords ((x.spares.filter (fun r => r / 512 == b)).map (· % 512)) 24 ++
    bankWords ((x.cols.filter (fun c => c / 256 == b)).map (· % 256)) 2 ++ zeros 12

/-- Bytes 64 to LEN - 1 of the record: the core map, then the vault maps. -/
def State.repairBody (s : State) : List Byte :=
  (List.range 128).flatMap (fun d => leBytes 4 (s.rd (Reg.RST_MAP d)).toNat) ++
    (List.range 16).flatMap (fun p => (List.range 64).flatMap (s.vault p).bankBytes)

/-- A new generation is written into the copy that is not in force (R566, R567); an MRAM failure leaves the record as it is. -/
def State.repairWrite (s : State) (cold : Bool) : State :=
  if s.domState 175 = 4 then s
  else
    let best := s.repairBest
    let gen := match best with | some i => s.num (repairAddr i + 4) 4 + 1 | none => 1
    let coldGen := if cold then gen else match best with | some i => s.num (repairAddr i + 12) 4 | none => 0
    let a := match best with | some i => repairAddr (1 - i) | none => repairAddr 0
    let body := s.repairBody
    s.store a (leBytes 4 0x524D5052 ++ leBytes 4 gen ++ leBytes 4 repairLen ++ leBytes 4 coldGen ++ zeros 44 ++ leBytes 4 (crc32 body) ++ body)

/-- The record follows a change of a map, unless the SMC is halted (R567, R655). -/
def State.repairSync (s : State) : State :=
  let same := match s.repairBest with | some i => s.bytes (repairAddr i + 64) (repairLen - 64) == s.repairBody | none => false
  if same || s.smcHalted then s else s.repairWrite false

/-- Rows that the record in force gives a vault, by bank. -/
def State.recordedRows (s : State) (p : Nat) : List Nat :=
  match s.repairBest with
  | none => []
  | some i => (List.range 64).flatMap (fun b => ((List.range 24).map (fun k => s.num (repairAddr i + 576 + 4096 * p + 64 * b + 2 * k) 2)).filterMap
      (fun w => if bitAt w 15 then some (512 * b + bits w 8 0) else none))

/-- Columns that the record in force gives a vault. -/
def State.recordedCols (s : State) (p : Nat) : List Nat :=
  match s.repairBest with
  | none => []
  | some i => (List.range 64).flatMap (fun b => ((List.range 2).map (fun k => s.num (repairAddr i + 624 + 4096 * p + 64 * b + 2 * k) 2)).filterMap
      (fun w => if bitAt w 15 then some (256 * b + bits w 7 0) else none))

/-- RST_MAPd word that the record in force gives a band row; 0 where there is none. -/
def State.recordedMap (s : State) (d : Nat) : Nat :=
  match s.repairBest with | none => 0 | some i => s.num (repairAddr i + 64 + 4 * d) 4

/-- At most `n` of a list's members for each bank, banks of `size`, the first ones first. -/
def perBank (size n : Nat) (l : List Nat) : List Nat :=
  (List.range 64).flatMap (fun b => (l.filter (fun r => r / size == b)).take n)

/-- A vault takes up its map (R568, R569): from the record alone on the fast path, else with what the self-test found. -/
def State.vaultMap (s : State) (p : Nat) (fast : Bool) (rows cols : List Nat) : State :=
  let recd := s.recordedRows p
  let x := if fast then { VaultInt.init with spares := recd, cols := s.recordedCols p }
           else { VaultInt.init with spares := perBank 512 24 (rows ++ recd.filter (fun r => !rows.contains r)), cols := perBank 256 2 cols }
  let short := !fast && (rows.any (fun r => !x.spares.contains r) || cols.any (fun c => !x.cols.contains c))
  let s := (((s.setVault p x).wf (Reg.VLT_STAT p) 31 28 (if fast then 11 else 10)).showRepair p).wf (Reg.VLT_REPAIR p) 10 0 x.spares.length
  let s := if s.bit Reg.RST_STAT 25 then s.wf (Reg.VLT_REPAIR p) 26 16 0 else s
  if short then (s.setBit (Reg.VLT_ERRSTAT p) 3).vaultFault p 9 else s

/-- VAULT_SCRUB_WORD (R175 to R177): the scrubber reads the next word of the vault, the hidden top of the reserve included (R151);
what it meets is corrected or reported, and rows are replaced, as at every read (R179). -/
def execVaultScrubWord (p : Nat) (s : State) : Out :=
  .next <|
    if !s.bit (Reg.VLT_SCRUB p) 31 || !s.domOn (144 + p) then s
    else
      let i := (s.vault p).scrub
      let off := 16 * i
      let s := (s.bankGrant p 19 1).vaultRead p off 16
      let s := s.setVault p { s.vault p with scrub := (i + 1) % 2 ^ 21 }
      if i + 1 = 2 ^ 21 then s.wr (Reg.VLT_SCRUBPASS p) (s.rd (Reg.VLT_SCRUBPASS p) + 1) else s

/-- ROW_COPY_DONE (R179, R567): the map switches to the spare row, contents and poison unchanged. -/
def execRowCopyDone (p : Nat) (s : State) : Out :=
  .next <|
    let x := s.vault p
    match x.rows with
    | [] => s
    | r :: t =>
      let s := (s.setVault p { x with rows := t, spares := x.spares ++ [r], ce := mapSet 0 x.ce r 0 }).showRepair p
      (s.wf (Reg.VLT_REPAIR p) 26 16 (satN 11 (s.rf (Reg.VLT_REPAIR p) 26 16 + 1))).repairSync

end Sys2Proof.Machine
end

