-- ==== Sys2Proof/Machine/Start.lean ====
section
/-! DEFINITION. The start (R561 to R571, R579 to R582): stages, firmware boot, core waves, maps, and READY. -/

namespace Sys2Proof.Machine

/-- RST_STAT.STAGE. -/
def State.stage (s : State) : Nat := s.rf Reg.RST_STAT 31 28

/-- The next stage begins: domains take the targets it gives them. -/
def State.toStage (s : State) (n : Nat) : State := (s.wf Reg.RST_STAT 31 28 n).retarget

/-- A domain has come up, or never will. -/
def State.settled (s : State) (d : Nat) : Bool := s.domOn d || s.domState d == 4

/-- The system settings block can be read by the package of a slot (R580): blank ones are created. -/
def State.settingsMay (s : State) (k : Nat) : Bool :=
  let b := s.bytes sysSettings (8 + min 4084 (s.num (sysSettings + 4) 4))
  s.num sysSettings 8 == 0 ||
    (s.num sysSettings 2 == s.num (fwBase k + 12) 2 && s.num (sysSettings + 4) 4 ≤ 4084 && s.num (sysSettings + b.length) 4 == crc32 b)

/-- The firmware of slot `k` starts (R579, R583); the start is counted (R586). -/
def State.fwStart (s : State) (k : Nat) : State :=
  let s := (s.setFwTries k (min 3 (s.fwTries k + 1))).bump (if s.bit Reg.RST_STAT 25 then Reg.RST_COLDCNT else Reg.RST_WARMCNT) 1
  { s with rst := { s.rst with fwRuns := true, confirm := false } }

/-- End of stage 2 (R577, R579 to R581): the package is checked; the firmware starts and reads the settings block. -/
def State.stage2 (s : State) : State :=
  let k := s.runSlot
  if s.pkgCheck (fwBase k) ≠ 0 then (s.setFwState k 3).romSelect
  else
    let s := s.fwStart k
    if !s.settingsMay k then ((s.setFwState k 4).logFw .smc 0x0C (fwBase k)).bootRestart
    else (if s.num sysSettings 8 = 0 then s.newSettings k else s).toStage 3

/-- What a self-test has found in a vault (stage 5): rows as p * 2^15 + bank * 512 + row. -/
def foundRows (found : List Nat) (p : Nat) : List Nat :=
  (found.filter (fun n => n < 2 ^ 31 && n / 2 ^ 15 % 16 == p)).map (· % 2 ^ 15)
/-- Columns found, as 2^31 + p * 2^14 + bank * 256 + bit position. -/
def foundCols (found : List Nat) (p : Nat) : List Nat :=
  (found.filter (fun n => 2 ^ 31 ≤ n && n / 2 ^ 14 % 16 == p)).map (· % 2 ^ 14)

/-- A vault takes the fast path (R569). -/
def State.fastPath (s : State) (p : Nat) : Bool :=
  s.bit Reg.RST_CFG 31 && !s.rst.full && s.repairBest.isSome && !s.rst.vltFail.contains p

/-- End of stage 5 (R567 to R569). -/
def State.stage5 (s : State) (found : List Nat) : State :=
  let s := (List.range 16).foldl (fun s p => s.vaultMap p (s.fastPath p) (foundRows found p) (foundCols found p)) s
  let s := if s.bit Reg.RST_STAT 25 then s.repairWrite true else s
  if s.bit Reg.SPL_SYSCFG 31 then (s.wf Reg.SPL_SYSSTAT 31 29 1).toStage 6 else s.toStage 7

/-- Core-row domain and position of a physical core (R244). -/
def bandOf (pcn : Nat) : Nat × Nat := (8 * (pcn / 36 / 8 * 4 + pcn % 36 / 9) + pcn / 36 % 8, pcn % 36 % 9)

/-- The map of a band row at stage 8 (R570, R571). -/
def State.chooseMap (s : State) (d : Nat) : State :=
  let old := s.recordedMap d
  let defect := bits old 8 0 ||| s.rf (Reg.RST_MAP d) 8 0
  let bad := (List.range 9).filter (bitAt defect)
  let spare := match bad with | [] => (if bitAt old 31 then bits old 16 13 else 8) | x :: _ => x
  let gone := if s.domState d = 4 then List.range 9 else bad
  let lost := ((gone.filter (· != spare)).map (2 ^ ·)).sum
  s.wr (Reg.RST_MAP d) (BitVec.ofNat 32 (2 ^ 31 + lost * 2 ^ 17 + spare * 2 ^ 13 + defect))

/-- A partition is held isolated with its wrappers closed (R571, R612). -/
def State.holdPart (s : State) (p : Nat) : State :=
  (((s.setBit Reg.SMC_RECSTAT p).setBit Reg.RST_ISO (16 + p)).setBit Reg.RST_ISO p).assertErr

/-- The partitions that hold a LOST core are held, and the SMC finds a failure that no spare absorbs (R571). -/
def State.holdLost (s : State) : State :=
  let ps := (List.range 16).filter s.partLost
  let s := ps.foldl State.holdPart (if ps.isEmpty then s else s.setBit Reg.RST_STAT 26)
  let own := ps.map (fun p => (p, (((List.range 64).map (lcnOf p)).find? s.lost).getD 0, false))
  { s with recv := { s.recv with own := s.recv.own.filter (fun e => e.2.2) ++ own } }

/-- READY (R563, R582): the firmware confirms its boot, domains take the targets of the plan, and RSTOUT_N may rise. -/
def State.ready (s : State) : State :=
  let k := s.runSlot
  let s := ((s.wf Reg.RST_STAT 31 27 21).wr Reg.RST_READYTIME (BitVec.ofNat 32 ((s.time - s.rst.began) / 1000))).setFwTries k 0
  let s := if s.fwState k = 2 then s.setFwState k 1 else s
  { s with rst := { s.rst with confirm := true } }.retarget.outRelease

/-- A load-in-progress marker found at start counts a failure against its slot (R60). -/
def State.markerCheck (s : State) : State :=
  let m := s.num markerAddr 1
  if m = 1 || m = 2 then (s.slotFail (m - 1)).store markerAddr [0] else s

/-- End of stage 8 (R59 to R61, R567, R570): the maps are written; the image phase begins where a slot is to be loaded. -/
def State.stage8 (s : State) : State :=
  let s := ((List.range 128).foldl State.chooseMap s).holdLost.repairSync
  let s := ((s.slotDerive 0).slotDerive 1).markerCheck
  match (if s.bit Reg.SMC_IMGBOOT 1 then s.bootSlot else none) with
  | none => s.ready
  | some k => (s.toStage 9).startLoad (s.slotJob k false true (imgWord 1 k 0) 2)

/-- The work of the stage in progress is done (R561). -/
def State.stageOver (s : State) : Bool :=
  match s.stage with
  | 1 => s.rst.rel = 4 && s.settled 175
  | 2 => s.rst.rel = 4
  | 3 => (List.range 16).all (fun p => s.domOn (128 + p))
  | 4 => s.domOn 162
  | 5 => (List.range 16).all (fun p => s.domOn (144 + p))
  | 6 => (List.range 8).all (fun k => s.settled (167 + k)) && 3 ≤ s.rf Reg.SPL_SYSSTAT 31 29
  | 7 => s.rst.wave = 9 && (List.range 128).all s.settled
  | 8 => true
  | 9 => s.img.job.isNone && !s.commitOpen
  | _ => false

/-- START_STAGE_END (R561, R565): the stage in progress ends, where its work is done; `found` is what a test of the stage has
found: faulty vault rows and columns in stage 5, faulty physical cores in stage 7. -/
def execStartStageEnd (found : List Nat) (s : State) : Out :=
  .next <|
    if s.inReset || s.bit Reg.PWR_DEVSTAT 29 || !s.stageOver then s
    else if s.pwr.pwrfail then s.setBit Reg.RST_STAT 24
    else
      let s := s.wf Reg.RST_STAT 24 24 0
      match s.stage with
      | 1 => let t := s.romSelect; if t.stage = 0xB then t else t.toStage 2
      | 2 => s.stage2
      | 3 => s.toStage 4
      | 4 => s.toStage 5
      | 5 => s.stage5 found
      | 6 => s.toStage 7
      | 7 => (found.foldl (fun s n => s.setBit (Reg.RST_MAP (bandOf n).1) (bandOf n).2) s).toStage 8
      | 8 => s.stage8
      | 9 => s.ready
      | _ => s

/-- CORE_WAVE (R562): the first wave brings up the regulators and oscillators of the core rows. -/
def execCoreWave (w : Nat) (s : State) : Out :=
  .next <|
    if s.stage ≠ 7 || w ≠ s.rst.wave || 9 ≤ w then s
    else
      let s := { s with rst := { s.rst with wave := w + 1 } }
      if w = 0 then s.requestAll (List.range 128) else s

end Sys2Proof.Machine
end

