-- ==== Sys2Proof/Machine/Sprue.lean ====
section
/-! DEFINITION. Sprue links (R445 to R454, R460 to R463): frames, sequencing and replay, packets that cross a link and their
retirement, training, and a link that goes down. -/

namespace Sys2Proof.Machine

/-- The fields of a frame's header slot (R448) without its CRC; `credits` by virtual channel 0 to 5. -/
structure FrameHdr where
  ftype   : Nat
  seq     : Nat
  ack     : Nat
  vc      : Nat
  nflit   : Nat
  ret     : Option Nat
  credits : List Nat
  deriving DecidableEq, Repr

/-- The header slot with CRC 0. -/
def FrameHdr.word (h : FrameHdr) : Nat :=
  let r := match h.ret with | some t => 2 ^ 93 + t % 4096 * 2 ^ 81 | none => 0
  let c := ((List.range 6).map (fun v => min 15 (h.credits.getD v 0) * 2 ^ (77 - 4 * v))).sum
  h.ftype % 16 * 2 ^ 124 + h.seq % 4096 * 2 ^ 112 + h.ack % 4096 * 2 ^ 100 + h.vc % 8 * 2 ^ 97 + h.nflit % 8 * 2 ^ 94 + r + c

/-- The bytes of a frame, its CRC over the header and the slots (R448). -/
def frameBytes (h : FrameHdr) (slots : List Byte) : List Byte :=
  leBytes 16 (h.word + crc32 (leBytes 16 h.word ++ slots)) ++ slots

/-- The header fields of a frame. -/
def frameHdr (f : List Byte) : FrameHdr :=
  let w := leNat (f.take 16)
  ⟨bits w 127 124, bits w 123 112, bits w 111 100, bits w 99 97, bits w 96 94, if bitAt w 93 then some (bits w 92 81) else none,
   (List.range 6).map (fun v => bits w (80 - 4 * v) (77 - 4 * v))⟩

/-- A frame is valid (R448, R449): its CRC, its type, and the slots that its type carries. -/
def frameOk (f : List Byte) : Bool :=
  let h := frameHdr f
  let w := leNat (f.take 16)
  let slots := f.drop 16
  16 ≤ f.length && bits w 31 0 == crc32 (leBytes 16 (w - bits w 31 0) ++ slots) && slots.length == 16 * h.nflit &&
    (match h.ftype with
     | 1 => 1 ≤ h.nflit && h.nflit ≤ 4 && h.vc < 6
     | 2 => h.nflit == 1
     | 3 => h.nflit == 0
     | 4 => h.nflit == 0
     | 5 => h.nflit == 1
     | _ => false)

/-- The 16 bytes of a packet's header flit (R247). -/
def Packet.flit (p : Packet) : List Byte :=
  leBytes 4 p.key ++ leBytes 4 p.payload ++ leBytes 2 p.step ++ leBytes 2 p.crc ++
    leBytes 4 (p.cls * 2 ^ 29 + p.gen * 2 ^ 28 + (if p.esc then 2 ^ 27 else 0) + p.hops % 128 * 2 ^ 20 + p.srcDev * 2 ^ 16 +
      p.srcLcn * 2 ^ 6 + (if p.sysSrc then 2 ^ 5 else 0))

/-- A packet read from its flits (R247); it names no return point yet. -/
def packetOf (b : List Byte) : Packet :=
  let w := leNat ((b.drop 12).take 4)
  { cls := bits w 31 29, gen := bits w 28 28, esc := bitAt w 27, hops := bits w 26 20, srcDev := bits w 19 16, srcLcn := bits w 15 6,
    sysSrc := bitAt w 5, crc := leNat ((b.drop 10).take 2), step := leNat ((b.drop 8).take 2), payload := leNat ((b.drop 4).take 4),
    key := leNat (b.take 4), data := b.drop 16, ret := .init, escTo := none }

/-- Bytes of the packet that begins with a header flit: only messages carry payload flits across a link (R251). -/
def packetLen (b : List Byte) : Nat :=
  let p := packetOf (b.take 16)
  if p.cls = 4 || p.cls = 5 then 16 * (1 + p.step % 32) else 16

/-- STATE of a link. -/
def State.linkState (s : State) (k : Nat) : Nat := s.rf (Reg.SPL_LSTAT k) 31 29

/-- The link carries frames: UP or DEGRADED, and no retrain is under way. -/
def State.linkUp (s : State) (k : Nat) : Bool := s.linkState k == 2 || s.linkState k == 3

/-- WINDOW follows the frames that no ACK covers (R470). -/
def State.showWindow (s : State) (k : Nat) : State := s.wf (Reg.SPL_LSTAT k) 16 5 (s.link k).unacked.length

/-- A frame is put on the line. -/
def State.emit (s : State) (k : Nat) (f : List Byte) : State := s.setLink k { s.link k with sent := (s.link k).sent ++ [f] }

/-- An unsequenced frame: 3 IDLE, 4 NAK (R448, R449). -/
def State.emitPlain (s : State) (k ftype : Nat) : State :=
  let x := s.link k
  s.emit k (frameBytes ⟨ftype, x.seq, (x.expect + 4095) % 4096, 0, 0, none, []⟩ [])

/-- A NAK, at most one per 0.5 µs (R452). -/
def State.emitNak (s : State) (k : Nat) : State :=
  let due := match (s.link k).nakAt with | none => true | some t => t + 500 ≤ s.time
  if due then (s.setLink k { s.link k with nakAt := some s.time }).emitPlain k 4 else s

/-- Credits that a sequenced frame carries (R448): at most 15 a channel. -/
def LinkInt.credits (x : LinkInt) : List Nat := (List.range 6).map (fun v => min 15 (mapGet 0 x.freed v))

/-- A sequenced frame is sent: it takes the next SEQ, the ACK and what waits to be returned in its header, and waits for its
ACK (R450, R451, R453). -/
def State.emitSeq (s : State) (k ftype vc nflit : Nat) (tag : Bool) (slots : List Byte) : State :=
  let x := s.link k
  let ret := if tag then x.tags.head? else none
  let f := frameBytes ⟨ftype, x.seq, (x.expect + 4095) % 4096, vc, nflit, ret, x.credits⟩ slots
  let freed := (List.range 6).foldl (fun m v => mapSet 0 m v (mapGet 0 x.freed v - 15)) x.freed
  let x := { x with seq := (x.seq + 1) % 4096, unacked := x.unacked ++ [f], freed := freed,
                    tags := if ret.isSome then x.tags.drop 1 else x.tags, sent := x.sent ++ [f] }
  ((s.setLink k x).bump48 (Reg.SPL_LFRAMETX k) 1).showWindow k

/-- A FAULT report of a link (R468): the suspect is the link. -/
def State.linkFault (s : State) (k fkind : Nat) : State := s.sysFault (1064 + k) (s.rd Reg.TND_STEP).toNat fkind 6 k

/-- Links of this device that carry frames, with the peer that each has named. -/
def State.ownPeers (s : State) : List (Nat × Nat × Nat) :=
  ((List.range 8).filter (fun k => s.linkUp k && s.bit (Reg.SPL_LSTAT k) 20)).map (fun k =>
    (k, (s.rd (Reg.SPL_LPEERSN_LO k)).toNat + 2 ^ 32 * (s.rd (Reg.SPL_LPEERSN_HI k)).toNat, s.rf (Reg.SPL_LSTAT k) 19 17))

/-- This device as a member of the system (R456). -/
def State.self (s : State) : Member :=
  ⟨s.sec.serial, s.rf Reg.SPL_SYSCFG 30 30, s.rf Reg.SPL_SYSCFG 25 22, s.ownPeers⟩

/-- The members known, this device first. -/
def State.known (s : State) : List Member := s.self :: s.spr.members.filter (fun (m : Member) => m.serial != s.sec.serial)

/-- Number of a serial in the table in force. -/
def State.numOf (s : State) (serial : Nat) : Option Nat := (s.spr.table.find? (fun (e : Nat × Nat) => e.1 == serial)).map (·.2)

/-- Hops between numbered devices, as (from, link, to). -/
def State.hops (s : State) : List (Nat × Nat × Nat) :=
  s.known.flatMap (fun m => match s.numOf m.serial with
    | none => []
    | some a => m.peers.filterMap (fun (p : Nat × Nat × Nat) => (s.numOf p.2.1).map (fun b => (a, p.1, b))))

/-- Levels after `fuel` rounds: distances from device 0 (R458); 99 where there is no path. -/
def levels (hops : List (Nat × Nat × Nat)) : Nat → List Nat
  | 0 => (List.range 16).map (fun d => if d = 0 then 0 else 99)
  | n + 1 =>
    let l := levels hops n
    (List.range 16).map (fun d => hops.foldl (fun m h => if h.2.2 = d then min m (l.getD h.1 99 + 1) else m) (l.getD d 99))

/-- The hop from `a` to `b` is up (R458). -/
def isUp (lv : List Nat) (a b : Nat) : Bool := lv.getD b 99 < lv.getD a 99 || (lv.getD b 99 == lv.getD a 99 && b < a)

/-- First links of the shortest legal paths that stand at (device, whether a down hop was taken), after `fuel` hops more. -/
def legalPaths (hops : List (Nat × Nat × Nat)) (lv : List Nat) : Nat → List ((Nat × Bool) × Nat) → List ((Nat × Bool) × Nat) → List ((Nat × Bool) × Nat)
  | 0, _, seen => seen
  | n + 1, front, seen =>
    let next := front.flatMap (fun e => hops.filterMap (fun h =>
      let up := isUp lv h.1 h.2.2
      if h.1 != e.1.1 || (e.1.2 && up) then none else some ((h.2.2, e.1.2 || !up), e.2)))
    let keys := (next.map (·.1)).eraseDups.filter (fun k => !(seen.any (fun e => e.1 == k)))
    let fresh := keys.map (fun k => (k, (next.filter (fun e => e.1 == k)).foldl (fun m e => min m e.2) 99))
    legalPaths hops lv n fresh (seen ++ fresh)

/-- First hop of this device toward device `d` under the up*/down* rule (R458). -/
def routeTo (hops : List (Nat × Nat × Nat)) (me d : Nat) : Option Nat :=
  let lv := levels hops 16
  let first := (hops.filter (fun h => h.1 == me)).map (fun h => ((h.2.2, !isUp lv me h.2.2), h.2.1))
  let keys := (first.map (·.1)).eraseDups
  let front := keys.map (fun k => (k, (first.filter (fun e => e.1 == k)).foldl (fun m e => min m e.2) 99))
  let all := legalPaths hops lv 32 front front
  let at_ := fun dn => firstIdx (fun (e : (Nat × Bool) × Nat) => e.1 == (d, dn)) all
  let dist := fun dn => (all.find? (fun (e : (Nat × Bool) × Nat) => e.1 == (d, dn))).map (·.2)
  match at_ false, at_ true with
  | some _, none => dist false
  | none, some _ => dist true
  | some i, some j => some (if i ≤ j then (dist false).getD 0 else (dist true).getD 0)
  | none, none => none

/-- SPL_DEVRT is recomputed (R458); a device on its own has no routes. -/
def State.reroute (s : State) : State :=
  let hops := s.hops
  let me := s.dev
  let multi := s.rf Reg.SPL_SYSSTAT 31 29 == 3 && 1 < s.rf Reg.SPL_SYSSTAT 28 24
  (List.range 2).foldl (fun s j =>
    let w := ((List.range 8).map (fun k =>
      let d := 8 * j + k
      match (if multi && d != me then routeTo hops me d else none) with
      | some l => (8 + l % 8) * 2 ^ (4 * k)
      | none => 0)).sum
    s.wr (Reg.SPL_DEVRT j) (BitVec.ofNat 32 w)) s

/-- A management record waits to be sent on a link. -/
def State.mgmtSend (s : State) (k : Nat) (ns : List Nat) : State :=
  if s.linkUp k then s.setLink k { s.link k with mgmt := (s.link k).mgmt ++ [fitBytes 16 (Config.mgmtBody ns)] } else s

/-- A management record waits on every link but one. -/
def State.flood (s : State) (but : Nat) (ns : List Nat) : State :=
  ((List.range 8).filter (· != but)).foldl (fun s k => s.mgmtSend k ns) s

/-- The membership record of a device (R456). -/
def Member.body (m : Member) : List Nat := [2, m.serial, m.prefv, m.prefid] ++ m.peers.flatMap (fun p => [p.1, p.2.1, p.2.2])

/-- This device's own links have changed: its membership record is flooded, and its routes are computed again. -/
def State.selfChanged (s : State) : State := (s.flood 8 s.self.body).reroute

/-- Learning entries that name a link are emptied; conflicts stay (R454, R463). -/
def State.forgetLink (s : State) (k : Nat) : State :=
  (List.range 256).foldl (fun s e =>
    if s.rf (Reg.SPL_LRN e) 31 30 = 1 && s.rf (Reg.SPL_LRN e) 29 27 = k then s.wr (Reg.SPL_LRN e) 0 else s) s

/-- Everything in an inbox taken and retired: the packets that have a return point are counted (R454). -/
def State.dropInbox (s : State) (k v : Nat) : Nat → State
  | 0 => s
  | n + 1 =>
    match s.inboxHead (1064 + k) v with
    | none => s
    | some p =>
      let s := (s.takeInbox (1064 + k) v).retire p.ret
      dropInbox (if p.ret.kind = 3 then s else s.bump (Reg.SPL_LLOSTCNT k) 1) k v n

/-- Return tags of a link that is down go nowhere (R454). -/
def State.dropTags (s : State) (k : Nat) : State :=
  let l := linkLcn k
  let cut := fun (e : Nat × RetRec) => if e.2.ret.kind = 5 then (e.1, { e.2 with ret := RetPt.init }) else e
  let x := s.router l
  { s.setRouter l { x with recs := x.recs.map cut } with tokens := s.tokens.filter (fun (r : RetPt) => !(r.kind == 5 && r.lcn % 8 == k)) }

/-- A link enters DOWN, or FAILED, or OFF with its domain (R454). -/
def State.linkDown (s : State) (k st : Nat) : State :=
  if !s.linkUp k then s.wf (Reg.SPL_LSTAT k) 31 29 st
  else
    let s := (List.range 6).foldl (fun s v => s.dropInbox k v (mapGet [] (s.port (1064 + k)).inbox v).length) s
    let x := s.link k
    let s := x.table.foldl (fun s (e : Nat × RetPt) => (s.retire e.2).bump (Reg.SPL_LLOSTCNT k) 1) s
    let y := { LinkInt.init with fresh := true, sent := x.sent }
    let s := ((s.setLink k y).dropTags k).forgetLink k
    let s := ((s.setBit Reg.SPL_ERRSTAT 0).bump (Reg.SPL_LDOWNCNT k) 1).linkFault k 0xA
    let s := s.wr (Reg.SPL_LSTAT k) (BitVec.ofNat 32 (st * 2 ^ 29))
    ((s.wr (Reg.SPL_LPEERSN_LO k) 0).wr (Reg.SPL_LPEERSN_HI k) 0).selfChanged

/-- A retrain begins (R447, R451). -/
def State.retrain (s : State) (k : Nat) : State :=
  let x := s.link k
  (s.setLink k { x with retrain := true, spins := 0, turns := if x.unacked.isEmpty then x.turns else x.turns + 1 }).bump (Reg.SPL_LRETRAINCNT k) 1

/-- A replay (R451): every unacknowledged frame waits to be sent again; after 16 in a row that advance no ACK a retrain is
requested, and after three such retrains in a row the link has FAILED. -/
def State.replay (s : State) (k : Nat) : State :=
  let x := s.link k
  if x.unacked.isEmpty then s
  else if 16 ≤ x.spins then (if 3 ≤ x.turns then s.linkDown k 5 else s.retrain k)
  else s.setLink k { x with resend := x.unacked.length, spins := x.spins + 1 }

/-- An ACK is applied (R451, R452). -/
def State.applyAck (s : State) (k ack : Nat) : State :=
  let x := s.link k
  let n := (ack + 1 + 4096 - (x.seq + 4096 - x.unacked.length) % 4096) % 4096
  if n = 0 || x.unacked.length < n then s
  else
    let rest := x.unacked.drop n
    (s.setLink k { x with unacked := rest, resend := min x.resend rest.length, spins := 0, turns := 0 }).showWindow k

/-- A return tag sends a token to the stored return point and frees the table entry (R453). -/
def State.useTag (s : State) (k tag : Nat) : State :=
  let x := s.link k
  match x.table.find? (fun (e : Nat × RetPt) => e.1 == tag) with
  | none => s
  | some e => (s.setLink k { x with table := x.table.filter (fun (y : Nat × RetPt) => y.1 != tag) }).retire e.2

/-- Credits and the tag of a sequenced frame's header. -/
def State.applyHeader (s : State) (k : Nat) (h : FrameHdr) : State :=
  let x := s.link k
  let used := (List.range 6).foldl (fun m v => mapSet 0 m v (mapGet 0 x.used v - h.credits.getD v 0)) x.used
  let s := (s.setLink k { x with used := used }).applyAck k h.ack
  match h.ret with | some t => s.useTag k t | none => s

/-- A message from another device teaches its port (R462). -/
def State.learnPort (s : State) (k : Nat) (p : Packet) : State :=
  let e := 16 * p.srcDev + (if p.sysSrc then 0 else partOf p.srcLcn)
  let r := Reg.SPL_LRN e
  let now := fun (s : State) => { s.wr r (BitVec.ofNat 32 (2 ^ 30 + k * 2 ^ 27)) with spr := { s.spr with learned := mapSet 0 s.spr.learned e s.time } }
  let y := s.rf r 29 27
  if p.srcDev = s.dev then s
  else match s.rf r 31 30 with
    | 0 => now s
    | 1 =>
      if y = k then s
      else if s.time < mapGet 0 s.spr.learned e + 1000 then
        ((s.wr r (BitVec.ofNat 32 (2 ^ 31 + y * 2 ^ 27 + k * 2 ^ 24))).setBit Reg.SPL_ERRSTAT 1).linkFault y 0xB
      else now s
    | _ => s.bump Reg.SPL_LRNCNT 1

/-- The 32-bit step nearest to the commit step of the swap that a packet's step tag stands for. -/
def State.stepNear (s : State) (tag : Nat) : Nat :=
  (((s.runc.swapC : Int) + tagDiff tag (s.runc.swapC % 2 ^ 16)) % (2 ^ 32 : Int)).toNat

/-- The packet with GEN stamped afresh (R307, R461); the CRC covers GEN and is computed again where it was right. -/
def State.restamp (s : State) (l : Nat) (p : Packet) : Packet :=
  let q := { p with gen := s.genFor l (s.stepNear p.step) }
  if p.good then q.sign else q

/-- The packet takes part in a drain (R310). -/
def Packet.drains (p : Packet) : Bool := p.cls ≤ 2 || ((p.cls == 3 || p.cls == 7) && p.key / 2 ^ 28 == 1)

/-- A packet passes from the ingress of link `k` to its router, with record `i` as its return point (R453). -/
def State.enter (s : State) (k : Nat) (p : Packet) : State :=
  let w := 8 * linkLcn k + 5
  { s with wires := mapSet [] s.wires w (mapGet [] s.wires w ++ [p]) }

/-- A packet of ordinal `ord` that crossed on channel `v` takes a record, where one is free. -/
def State.enterOrd (s : State) (k v ord : Nat) (p : Packet) : Option State :=
  let l := linkLcn k
  match s.freeRecd l with
  | none => none
  | some i =>
    let q := s.restamp l p
    let mark := if p.drains then 4096 * (2 + q.gen) else 0
    let s := s.setRecd l i ⟨true, 1, ⟨5, k + (if v = 5 then 8 else 0), ord + mark⟩, []⟩
    let new := s.bit (Reg.RTR_BANK l) 1 && q.gen == s.rf (Reg.RTR_BANK l) 0 0
    let s := if new then s.setLink k { s.link k with fresh := true } else s
    some (s.enter k { q with ret := ⟨0, l, i⟩ })

/-- Packets that wait for a record enter, the oldest ordinal first, while records are free. -/
def State.passWaiting (s : State) (k : Nat) : Nat → State
  | 0 => s
  | n + 1 =>
    let x := s.link k
    let age := fun (e : Nat × List Byte) => (e.1 / 8 - 1 + 4096 - x.ordIn % 4096) % 4096
    match (x.coming.filter (fun (e : Nat × List Byte) => 8 ≤ e.1)).foldl (fun (b : Option (Nat × List Byte)) e =>
        match b with | none => some e | some y => if age e < age y then some e else some y) none with
    | none => s
    | some e =>
      match s.enterOrd k (e.1 % 8) (e.1 / 8 - 1) (packetOf e.2) with
      | none => s
      | some s => passWaiting (s.setLink k { s.link k with coming := mapSet [] (s.link k).coming e.1 [] }) k n

/-- A whole packet has arrived on channel `v` (R453, R461, R462). -/
def State.arrive (s : State) (k v : Nat) (b : List Byte) : State :=
  let p := packetOf b
  if p.cls = 4 || p.cls = 5 then (s.learnPort k p).enter k (s.restamp (linkLcn k) p)
  else
    let x := s.link k
    s.setLink k { x with ordIn := (x.ordIn + 1) % 4096, coming := mapSet [] x.coming (8 * (1 + x.ordIn % 4096) + v) b }

/-- Whole packets leave the bytes received on channel `v`. -/
def State.unpack (s : State) (k v : Nat) : Nat → List Byte → State
  | 0, b => s.setLink k { s.link k with coming := mapSet [] (s.link k).coming v b }
  | n + 1, b =>
    if b.length < 16 || b.length < packetLen b then s.setLink k { s.link k with coming := mapSet [] (s.link k).coming v b }
    else unpack (s.arrive k v (b.take (packetLen b))) k v n (b.drop (packetLen b))

/-- The flits of an accepted DATA frame (R449, R453). -/
def State.takeFlits (s : State) (k v : Nat) (b : List Byte) : State :=
  (s.unpack k v 5 (mapGet [] (s.link k).coming v ++ b)).passWaiting k 64

/-- A frame that fails its CRC or type (R449, R452). -/
def State.frameBad (s : State) (k : Nat) : State := (s.bump (Reg.SPL_LCRCCNT k) 1).emitNak k

/-- The link receives frames of one of some types: a bad one is discarded, one of another type is no concern of the command. -/
def State.onFrame (s : State) (k ftype : Nat) (f : List Byte) (go : State → FrameHdr → State) : State :=
  if 8 ≤ k || !s.linkUp k || (s.link k).retrain then s
  else if !frameOk f then s.frameBad k
  else if (frameHdr f).ftype = ftype then go s (frameHdr f) else s

/-- A sequenced frame is sorted by its SEQ (R452). -/
def State.sequenced (s : State) (k : Nat) (h : FrameHdr) (go : State → State) : State :=
  let x := s.link k
  if h.seq = x.expect then
    go (((s.setLink k { x with expect := (x.expect + 1) % 4096 }).bump48 (Reg.SPL_LFRAMERX k) 1).applyHeader k h)
  else if 2048 ≤ (h.seq + 4096 - x.expect) % 4096 then s.emitPlain k 3
  else s.emitNak k

/-- DATA_FRAME_RECEIVE (R452, R453). -/
def execDataFrameReceive (k : Nat) (f : List Byte) (s : State) : Out :=
  .next (s.onFrame k 1 f (fun s h => s.sequenced k h (fun s => s.takeFlits k h.vc (f.drop 16))))

/-- The tags of a RETURN frame's slot (R448). -/
def slotTags (w : Nat) : List Nat :=
  (List.range 5).filterMap (fun i => if bitAt w (13 * i + 12) then some (bits w (13 * i + 11) (13 * i)) else none)

/-- RETURN_FRAME_RECEIVE (R453). -/
def execReturnFrameReceive (k : Nat) (f : List Byte) (s : State) : Out :=
  .next (s.onFrame k 2 f (fun s h => s.sequenced k h (fun s =>
    ((slotTags (leNat (f.drop 16))).foldl (fun s t => s.useTag k t) s).passWaiting k 64)))

/-- IDLE_FRAME_RECEIVE (R452). -/
def execIdleFrameReceive (k : Nat) (f : List Byte) (s : State) : Out :=
  .next (s.onFrame k 3 f (fun s h => (s.applyAck k h.ack).passWaiting k 64))

/-- NAK_FRAME_RECEIVE (R451, R452). -/
def execNakFrameReceive (k : Nat) (f : List Byte) (s : State) : Out :=
  .next (s.onFrame k 4 f (fun s h => ((s.bump (Reg.SPL_LNAKCNT k) 1).applyAck k h.ack).replay k))

/-- A sequenced frame may be sent: fewer than 2,047 are unacknowledged (R451). -/
def State.windowOpen (s : State) (k : Nat) : Bool := (s.link k).unacked.length < 2047

/-- The oldest frame that waits to be sent again leaves with the ACK of now. -/
def State.resendOne (s : State) (k : Nat) : State :=
  let x := s.link k
  let f := x.unacked.getD (x.unacked.length - x.resend) []
  let g := frameBytes { frameHdr f with ack := (x.expect + 4095) % 4096 } (f.drop 16)
  (s.setLink k { x with resend := x.resend - 1, sent := x.sent ++ [g] }).bump (Reg.SPL_LREPLAYCNT k) 1

/-- The flits of the next packet of channel `v` at the egress, if it may start (R453, R461): a packet with a wrong CRC is
discarded, and one with a return point needs a free ordinal. -/
def State.startPacket (s : State) (k v : Nat) : State :=
  match s.inboxHead (1064 + k) v with
  | none => s
  | some p =>
    let x := s.link k
    let b := p.flit ++ p.data
    if !p.good then (s.takeInbox (1064 + k) v).crcFail (linkLcn k) p
    else if p.cls = 4 || p.cls = 5 then (s.takeInbox (1064 + k) v).setLink k { x with going := mapSet [] x.going v b }
    else if 2048 ≤ x.table.length then s
    else (s.takeInbox (1064 + k) v).setLink k { x with going := mapSet [] x.going v b, ordOut := (x.ordOut + 1) % 4096, table := x.table ++ [(x.ordOut % 4096, p.ret)] }

/-- Up to `n` flits of channel `v` against credits (R450): the bytes, and the state without them. -/
def State.takeOut (s : State) (k v : Nat) : Nat → List Byte → State × List Byte
  | 0, acc => (s, acc)
  | n + 1, acc =>
    let s := if (mapGet [] (s.link k).going v).isEmpty then s.startPacket k v else s
    let x := s.link k
    let b := mapGet [] x.going v
    if b.isEmpty || 256 ≤ mapGet 0 x.used v then (s, acc)
    else takeOut (s.setLink k { x with going := mapSet [] x.going v (b.drop 16), used := mapSet 0 x.used v (mapGet 0 x.used v + 1) }) k v n (acc ++ b.take 16)

/-- A frame of the first channel that has flits to send (R450). -/
def State.sendData (s : State) (k : Nat) : List Nat → State × Bool
  | [] => (s, false)
  | v :: t =>
    let r := s.takeOut k v 4 []
    if r.2.isEmpty then sendData r.1 k t else (r.1.emitSeq k 1 v (r.2.length / 16) true r.2, true)

/-- The tag slot of a RETURN frame (R448). -/
def tagSlot (tags : List Nat) : List Byte :=
  leBytes 16 ((List.zip (List.range 5) tags).foldl (fun a e => a + (2 ^ 12 + e.2 % 4096) * 2 ^ (13 * e.1)) 0)

/-- A RETURN frame, where tags or credits wait (R449). -/
def State.sendReturn (s : State) (k : Nat) : State :=
  let x := s.link k
  if x.tags.isEmpty && x.freed.isEmpty then s
  else (s.setLink k { x with tags := x.tags.drop 5 }).emitSeq k 2 0 1 false (tagSlot (x.tags.take 5))

/-- DATA_FRAME_SEND (R449 to R453): a frame to be sent again goes first, then a management record, a DATA frame, a RETURN
frame. An attempt that a full window or a full return table stalls is counted (assumption log 24). -/
def execDataFrameSend (k : Nat) (s : State) : Out :=
  .next <|
    let x := s.link k
    if 8 ≤ k || !s.linkUp k || x.retrain then s
    else if 0 < x.resend then s.resendOne k
    else if !s.windowOpen k then s.bump (Reg.SPL_LSTALLCNT k) 1
    else match x.mgmt with
      | m :: t => (s.setLink k { x with mgmt := t }).emitSeq k 5 0 1 false m
      | [] =>
        let r := s.sendData k [0, 1, 2, 3, 4, 5]
        if r.2 then r.1 else
          let s := if 2048 ≤ (r.1.link k).table.length then r.1.bump (Reg.SPL_LSTALLCNT k) 1 else r.1
          s.sendReturn k

/-- Nothing but an IDLE frame is left to send. -/
def State.linkIdle (s : State) (k : Nat) : Bool :=
  let x := s.link k
  x.resend == 0 && x.mgmt.isEmpty && x.tags.isEmpty && x.freed.isEmpty && x.going.isEmpty && (s.port (1064 + k)).inbox.isEmpty

/-- IDLE_FRAME_SEND (R449). -/
def execIdleFrameSend (k : Nat) (s : State) : Out :=
  .next <| if k < 8 && s.linkUp k && !(s.link k).retrain && (s.linkIdle k || !s.windowOpen k) then s.emitPlain k 3 else s

/-- LINK_ACK_TIMEOUT (R451): the oldest unacknowledged frame has waited ACKTMO µs. -/
def execLinkAckTimeout (k : Nat) (s : State) : Out :=
  .next <| if k < 8 && s.linkUp k && !(s.link k).retrain then s.replay k else s

/-- LINK_PEER_TIMEOUT (R454). -/
def execLinkPeerTimeout (k : Nat) (s : State) : Out := .next (if k < 8 && s.linkUp k then s.linkDown k 4 else s)

/-- Lanes in a mask. -/
def laneCount (m : Nat) : Nat := ((List.range 4).filter (bitAt m)).length

/-- A link is UP or DEGRADED on its lanes (R447): entry to DEGRADED sends a report. -/
def State.linkRuns (s : State) (k lanes : Nat) : State :=
  let old := s.linkState k
  let st := if laneCount lanes = 4 then 2 else 3
  let s := (s.wf (Reg.SPL_LSTAT k) 31 29 st).wf (Reg.SPL_LSTAT k) 28 25 lanes
  if st = 3 && old ≠ 3 then s.linkFault k 0xC else s

/-- Training of every link has ended: discovery begins (R456). -/
def State.trainingOver (s : State) : State :=
  if s.rf Reg.SPL_SYSSTAT 31 29 = 1 && (List.range 8).all (fun k => s.linkState k != 1) then
    { s.wf Reg.SPL_SYSSTAT 31 29 2 with spr := { s.spr with changed := s.time } }
  else s

/-- A link comes up (R447, R456): sequence numbers begin at 0, HELLO and every known membership record are sent, and a drain
under way does not wait for it. -/
def State.linkStarts (s : State) (k lanes : Nat) : State :=
  let s := (s.setLink k { LinkInt.init with sent := (s.link k).sent }).linkRuns k lanes
  let s := if s.bit (Reg.RTR_BANK (linkLcn k)) 1 then s.setPort (1064 + k) { s.port (1064 + k) with drained := true } else s
  let me := s.self
  let s := s.mgmtSend k [1, me.serial, me.prefv, me.prefid, k]
  (s.known.foldl (fun s m => s.mgmtSend k m.body) s).selfChanged

/-- LINK_TRAINING_DONE (R447): the lanes of the mask have passed. -/
def execLinkTrainingDone (k lanes : Nat) (s : State) : Out :=
  .next <|
    if 8 ≤ k || s.linkState k ≠ 1 || !s.domOn (167 + k) then s
    else (if laneCount lanes < 3 then s.wf (Reg.SPL_LSTAT k) 31 29 4 else s.linkStarts k (lanes % 16)).trainingOver

/-- The device trains a link. -/
def State.mayTrain (s : State) (k : Nat) : Bool :=
  s.bit Reg.SPL_SYSCFG 31 && s.bit (Reg.SPL_LCTRL k) 31 && s.domOn (167 + k) && s.rf Reg.SPL_SYSSTAT 31 29 != 4

/-- LINK_TRAIN_RETRY (R447). -/
def execLinkTrainRetry (k : Nat) (s : State) : Out :=
  .next <| if k < 8 && s.linkState k = 4 && s.mayTrain k then s.wf (Reg.SPL_LSTAT k) 31 29 1 else s

/-- LINK_LANE_FAIL (R447, R454): a retrain on the lanes left; with fewer than three the link is DOWN. -/
def execLinkLaneFail (k lane : Nat) (s : State) : Out :=
  .next <|
    if 8 ≤ k || !s.linkUp k then s
    else
      let s := s.wf (Reg.SPL_LSTAT k) (25 + lane % 4) (25 + lane % 4) 0
      if laneCount (s.rf (Reg.SPL_LSTAT k) 28 25) < 3 then s.linkDown k 4 else s.retrain k

/-- LINK_RETRAIN_REQUEST (R447, R470): a write of SPL_LnCTRL.RETRAIN. -/
def execLinkRetrainRequest (src : Src) (k : Nat) (s : State) : Out :=
  .next <|
    if 8 ≤ k then s else s.cmdAt src (Reg.SPL_LCTRL k) (fun s =>
      if s.linkUp k && !(s.link k).retrain then (s.setBit (Reg.SPL_LCTRL k) 30).retrain k else s)

/-- LINK_RETRAIN_DONE (R447, R451): four lanes return only at a retrain that was requested; the replay follows. -/
def execLinkRetrainDone (k lanes : Nat) (s : State) : Out :=
  .next <|
    if 8 ≤ k || !(s.link k).retrain || !s.linkUp k then s
    else
      let asked := s.bit (Reg.SPL_LCTRL k) 30
      let m := if asked then lanes % 16 else lanes &&& s.rf (Reg.SPL_LSTAT k) 28 25
      let s := (s.wf (Reg.SPL_LCTRL k) 30 30 0).setLink k { s.link k with retrain := false }
      if laneCount m < 3 then s.linkDown k 4 else (s.linkRuns k m).replay k

/-- LINK_ENABLE (R451): EN goes from 0 to 1; the link trains, a FAILED one included. -/
def execLinkEnable (src : Src) (k : Nat) (s : State) : Out :=
  .next <|
    if 8 ≤ k then s else s.cmdAt src (Reg.SPL_LCTRL k) (fun s =>
      let was := s.bit (Reg.SPL_LCTRL k) 31
      let s := s.regWrite src (Reg.SPL_LCTRL k) (2 ^ 31)
      if !was && s.bit (Reg.SPL_LCTRL k) 31 && !s.linkUp k && s.mayTrain k then s.wf (Reg.SPL_LSTAT k) 31 29 1 else s)

/-- A write of 0 to EN stops the link (R470): it is DOWN. -/
def State.linkDisable (s : State) (k : Nat) : State :=
  if s.linkUp k || s.linkState k = 1 then s.linkDown k 4 else s

end Sys2Proof.Machine
end

