-- ==== Sys2Proof/Machine/System.lean ====
section
/-! DEFINITION. The system of devices (R455 to R467): discovery, device numbers, time alignment, reply-port learning, and the
commits that device 0 runs across the system. What the records and messages between devices look like is not given
(assumption log 23). -/

namespace Sys2Proof.Machine

/-- NDEV in force (R469). -/
def State.ndev (s : State) : Nat := max 1 (min 16 (s.rf Reg.SPL_SYSCFG 16 12))

/-- A member put among those known, in rising order of serials. -/
def putMember (m : Member) : List Member → List Member
  | [] => [m]
  | x :: t => if m.serial < x.serial then m :: x :: t else if m.serial = x.serial then m :: t else x :: putMember m t

/-- The lowest number that is free. -/
def lowestFree (taken : List (Nat × Nat)) : Nat := ((List.range 16).find? (fun n => !(taken.any (fun e => e.2 == n)))).getD 15

/-- Device numbers of a set in rising order of serials (R457). -/
def assignNumbers (ms : List Member) : List (Nat × Nat) :=
  let first := ms.foldl (fun (acc : List (Nat × Nat)) m =>
    if m.prefv = 1 && !(acc.any (fun e => e.2 == m.prefid)) then acc ++ [(m.serial, m.prefid)] else acc) []
  ms.foldl (fun acc m => if acc.any (fun e => e.1 == m.serial) then acc else acc ++ [(m.serial, lowestFree acc)]) first

/-- PEERDEV of every link follows the table in force (R470). -/
def State.showPeers (s : State) : State :=
  (List.range 8).foldl (fun s k =>
    let sn := (s.rd (Reg.SPL_LPEERSN_LO k)).toNat + 2 ^ 32 * (s.rd (Reg.SPL_LPEERSN_HI k)).toNat
    if s.linkUp k && sn != 0 then
      match s.numOf sn with
      | some d => (s.wf (Reg.SPL_LSTAT k) 24 21 d).wf (Reg.SPL_LSTAT k) 20 20 1
      | none => s
    else s) s

/-- A device that leaves the system (R456 order 5): its links are held DOWN, and it runs as a single device with number 0. -/
def State.leaveSystem (s : State) : State :=
  let s := s.wr Reg.SPL_SYSSTAT (BitVec.ofNat 32 (4 * 2 ^ 29 + 2 ^ 24 + 1))
  ((List.range 8).foldl (fun s k => if s.linkUp k || s.linkState k = 1 then s.linkDown k 4 else s) s).reroute

/-- A table of numbers is adopted (R456, R458). -/
def State.adopt (s : State) (table : List (Nat × Nat)) (owner : Option Nat) : State :=
  let s := { s with spr := { s.spr with table := table, owner := owner } }
  match s.numOf s.sec.serial with
  | none => s.leaveSystem
  | some me =>
    let members := (table.map (fun (e : Nat × Nat) => 2 ^ (e.2 % 16))).sum
    let st := 3 * 2 ^ 29 + table.length % 32 * 2 ^ 24 + me % 16 * 2 ^ 20 + members % 2 ^ 16
    (s.wr Reg.SPL_SYSSTAT (BitVec.ofNat 32 st)).showPeers.reroute

/-- Serial of the device that a table gives number 0. -/
def zeroOf (table : List (Nat × Nat)) : Option Nat := (table.find? (fun e => e.2 == 0)).map (·.1)

/-- The record of an assignment table. -/
def tableBody (owner : Nat) (table : List (Nat × Nat)) : List Nat := 3 :: owner :: table.flatMap (fun e => [e.1, e.2])

/-- The table that a set gives: a device that knows no other has number 0 whatever it prefers (R42), else R457. -/
def setTable (ms : List Member) : List (Nat × Nat) := if ms.length = 1 then ms.map (fun m => (m.serial, 0)) else assignNumbers ms

/-- Discovery ends (R456 orders 3 and 4, R457): numbers come from the set known, unless a table has been adopted. -/
def State.discovered (s : State) : State :=
  let ms := s.known.foldl (fun l m => putMember m l) []
  let table := setTable ms
  let me := s.sec.serial
  if zeroOf table = some me && s.spr.owner.all (me ≤ ·) then (s.adopt table (some me)).flood 8 (tableBody me table)
  else match s.spr.owner with
    | some o => s.adopt s.spr.table (some o)
    | none => s.adopt table none

/-- DISCOVERY_STABLE (R456): NDEV devices are known, and the set has not changed for 1 ms. -/
def execDiscoveryStable (s : State) : Out :=
  .next <| if s.rf Reg.SPL_SYSSTAT 31 29 = 2 && s.known.length = s.ndev then s.discovered else s

/-- DISCOVERY_TIMEOUT (R456): DISCTMO has passed since the end of training. -/
def execDiscoveryTimeout (s : State) : Out :=
  .next <| if s.rf Reg.SPL_SYSSTAT 31 29 = 2 then (s.setBit Reg.SPL_ERRSTAT 2).discovered else s

/-- Pairs of a list. -/
def pairsOf : List Nat → List (Nat × Nat)
  | a :: b :: t => (a, b) :: pairsOf t
  | _ => []

/-- Triples of a list. -/
def triplesOf : List Nat → List (Nat × Nat × Nat)
  | a :: b :: c :: t => (a, b, c) :: triplesOf t
  | _ => []

/-- HELLO of a peer (R456 order 1): the link now has a named peer, and this device's membership record changes. -/
def State.hello (s : State) (k serial plink : Nat) : State :=
  let s := ((s.wr (Reg.SPL_LPEERSN_LO k) (BitVec.ofNat 32 serial)).wr (Reg.SPL_LPEERSN_HI k) (BitVec.ofNat 32 (serial / 2 ^ 32)))
  let s := (s.wf (Reg.SPL_LSTAT k) 19 17 plink).wf (Reg.SPL_LSTAT k) 20 20 1
  let s := { s with spr := { s.spr with changed := s.time } }
  s.showPeers.selfChanged

/-- A membership record (R456 order 2): kept and forwarded only when it is new or changed. -/
def State.membership (s : State) (k : Nat) (m : Member) : State :=
  if m.serial = s.sec.serial || s.spr.members.contains m then s
  else
    let s := { s with spr := { s.spr with members := putMember m s.spr.members, changed := s.time } }
    (s.flood k m.body).reroute

/-- An assignment table (R456 order 4): that of the lowest serial claiming number 0 is adopted and forwarded. -/
def State.offered (s : State) (k owner : Nat) (table : List (Nat × Nat)) : State :=
  if s.spr.owner.any (· ≤ owner) || zeroOf table ≠ some owner then s
  else
    let s := s.flood k (tableBody owner table)
    if s.rf Reg.SPL_SYSSTAT 31 29 = 0 || s.rf Reg.SPL_SYSSTAT 31 29 = 4 then s else s.adopt table (some owner)

/-- A management record (R456, R464); a time record takes effect in TIME_SYNC_EXCHANGE. -/
def State.mgmtRecord (s : State) (k : Nat) : List Nat → State
  | [1, serial, _, _, plink] => s.hello k serial plink
  | 2 :: serial :: pv :: pid :: t => s.membership k ⟨serial, pv, pid, triplesOf t⟩
  | 3 :: owner :: t => s.offered k owner (pairsOf t)
  | _ => s

/-- MGMT_FRAME_RECEIVE (R449, R452, R456). -/
def execMgmtFrameReceive (k : Nat) (f : List Byte) (s : State) : Out :=
  .next (s.onFrame k 5 f (fun s h => s.sequenced k h (fun s => (s.mgmtRecord k (Config.mgmtRead (f.drop 16))).passWaiting k 64)))

/-- TIME_SYNC_EXCHANGE (R464): the residual against device 0's timebase, in ns, is shown, and the timebase is slewed by as
much the other way. -/
def execTimeSyncExchange (offset : Int) (s : State) : Out :=
  .next <|
    if s.rf Reg.SPL_SYSSTAT 31 29 ≠ 3 || s.dev = 0 || (s.devLink 0).isNone || s.smcHalted then s
    else { s.wr Reg.SPL_TSYNC (BitVec.ofNat 32 (toPattern 32 offset)) with tmr := { s.tmr with slew := -offset } }

/-- LEARNING_CLEAR_ALL (R463, R469). -/
def execLearningClearAll (src : Src) (s : State) : Out :=
  .next <| s.cmdAt src Reg.SPL_LRNCLR (fun s =>
    let ok := s.installer src
    let s := s.regWrite src Reg.SPL_LRNCLR (2 ^ 31)
    if ok then (List.range 256).foldl (fun s e => s.wr (Reg.SPL_LRN e) 0) (s.wf Reg.SPL_LRNCLR 31 31 0) else s)

/-- LEARNING_CLEAR_ONE (R463, R469). -/
def execLearningClearOne (src : Src) (e : Nat) (s : State) : Out :=
  .next <| s.cmdAt src Reg.SPL_LRNCLR (fun s =>
    let ok := s.installer src
    let s := s.regWrite src Reg.SPL_LRNCLR (2 ^ 8 + e % 256)
    if ok then (s.wf Reg.SPL_LRNCLR 8 8 0).wr (Reg.SPL_LRN (e % 256)) 0 else s)

/-- The message at the head of the SMC's attachment, as the firmware reads it: its source device and its numbers. -/
def State.smcHead (s : State) : Option (Packet × List Nat) :=
  (s.headOf 1060 3 4).map (fun p => (p, if p.good && p.sysSrc && p.srcLcn == 1 && p.srcDev != s.dev then Config.smcRead (bits p.step 15 12) p.data else []))

/-- The request at the head is taken and answered. -/
def State.smcTake (s : State) (p : Packet) (status : Nat) : State := (s.takeInbox 1060 3).replyTo 1060 p status

/-- REMOTE_PREPARE (R466): a device other than device 0 runs a system PREPARE locally; its total follows when its participants
have answered. -/
def execRemotePrepare (s : State) : Out :=
  .next <|
    match s.smcHead with
    | some (p, 1 :: gen :: c :: ks) =>
      if !s.notFirst || p.srcDev ≠ 0 || s.smcHalted then s
      else ((s.smcTake p 0).prepare ⟨kindsOf ks, c % 2 ^ 32, gen % 2 ^ 16⟩).decide
    | _ => s

/-- An outcome reaches a device that holds the change (R466). -/
def State.outcome (s : State) (gen : Nat) (done : Bool) (tstart : Nat) : State :=
  match s.runc.change with
  | some ch =>
    if ch.gen ≠ gen then s
    else if done then
      let s := s.commit ch
      { s with runc := { s.runc with tstart := tstart } }
    else ({ s with runc := { s.runc with cast := [(2, ch)], change := none, phase := 0 } }.showBusy).modeCast ch
  | none => s

/-- A total reaches device 0 (R466): counted once for each device. -/
def State.total (s : State) (d gen acks naks : Nat) : State :=
  match s.runc.change with
  | some ch =>
    if ch.gen ≠ gen || s.runc.phase ≠ 1 || s.spr.totals.any (fun (e : Nat × Nat × Nat) => e.1 == d) then s
    else
      let s := { s with spr := { s.spr with totals := s.spr.totals ++ [(d, acks, naks)] } }
      ((s.wf Reg.SMC_MODEACK 15 0 (s.rf Reg.SMC_MODEACK 15 0 + acks)).wf Reg.SMC_MODEACK 31 16 (s.rf Reg.SMC_MODEACK 31 16 + naks)).decide
  | none => s

/-- A device reports its image LOADED (R465). -/
def State.deviceLoaded (s : State) (d n : Nat) : State :=
  let s := { s with spr := { s.spr with loaded := s.spr.loaded.filter (fun (e : Nat × Nat) => e.1 != d) ++ [(d, n)] } }
  let s := if 1 ≤ s.runState then s.systemExp else s
  match s.img.loaded with
  | some j => if s.runState = 1 && !s.commitOpen then s.autoStart j else s
  | none => s

end Sys2Proof.Machine
end

