-- ==== Sys2Proof/Machine/DeviceStates.lean ====
section
/-! DEFINITION. Device power states (R551 to R553, R649, R652), run profiles (R536), the end of a power-down, hard failures,
the installer's ceilings (R540) and PWRFAIL_N (R549, R565). -/

namespace Sys2Proof.Machine

/-- PWR_DEVSTAT.BUSY and RESULT set. -/
def State.devResult (s : State) (busy : Bool) (r : Nat) : State := s.wf Reg.PWR_DEVSTAT 24 16 (busy.toNat * 2 ^ 8 + r)

/-- Word of PWR_DEVCMD. -/
def devWord (cmd prof arg : Nat) : Nat := cmd * 2 ^ 24 + prof % 4 * 2 ^ 16 + arg % 2 ^ 16

/-- A command written to PWR_DEVCMD (R552, R554): refused with DENIED outside an installer session, and while one executes with
BUSY. -/
def State.devCmd (s : State) (src : Src) (word : Nat) (go : State → State) : State :=
  s.cmdAt src Reg.PWR_DEVCMD (fun s =>
    if !s.installer src then (s.wf Reg.PWR_DEVSTAT 23 16 0x02).logRefusal src 0x02 Reg.PWR_DEVCMD word
    else if s.bit Reg.PWR_DEVSTAT 24 then s.wf Reg.PWR_DEVSTAT 23 16 0x01
    else go (s.regWrite src Reg.PWR_DEVCMD word).touchSession)

/-- A command refused with STATE. -/
def State.devState12 (s : State) (src : Src) (word : Nat) : State :=
  (s.devResult false 0x12).logRefusal src 0x12 Reg.PWR_DEVCMD word

/-- SLEEP and DEEP are refused (R552, R649) but in states `ok` of the run. -/
def State.sleepBarred (s : State) (ok : List Nat) : Bool :=
  s.bit Reg.SMC_RUNSTAT 25 || s.rd Reg.SMC_RECSTAT != 0 || s.bit Reg.PWR_DEVSTAT 28 || s.bit Reg.PWR_DEVSTAT 29 || !ok.contains s.runState ||
    (1 < s.rf Reg.SPL_SYSSTAT 28 24 && s.runState == 4)

/-- The device heads for a state (R551): 0 ACTIVE, 1 SLEEP, 2 DEEP. -/
def State.headFor (s : State) (g : Nat) : State := { s.devResult true 0 with pwr := { s.pwr with goal := some g } }.retarget

/-- SLEEP (R552, R649, R652). -/
def execSleep (src : Src) (s : State) : Out :=
  .next <|
    let w := devWord 1 0 0
    s.devCmd src w (fun s => if s.sleepBarred [0, 4, 5] then s.devState12 src w else s.headFor 1)

/-- DEEP (R552, R649). -/
def execDeepState (src : Src) (s : State) : Out :=
  .next <|
    let w := devWord 2 0 0
    s.devCmd src w (fun s => if s.sleepBarred [0, 5] then s.devState12 src w else s.headFor 2)

/-- WAKE (R552). -/
def execWake (src : Src) (s : State) : Out :=
  .next (s.devCmd src (devWord 3 0 0) (fun s => if s.rf Reg.PWR_DEVSTAT 31 30 = 1 then s.headFor 0 else s.devResult false 0))

/-- PROFILE (R230, R536, R649, R652). -/
def execProfile (src : Src) (prof arg : Nat) (s : State) : Out :=
  .next <|
    let w := devWord 4 prof arg
    s.devCmd src w (fun s =>
      if s.rf Reg.PWR_DEVSTAT 31 30 ≠ 0 || s.notFirst || s.nprof ≤ prof % 4 then s.devState12 src w
      else if s.commitOpen then s.devResult false 0x01
      else (s.devResult true 0).startCommit [.profile (prof % 4)] (s.cmdStep (arg % 2 ^ 16) false) (arg % 2 ^ 16))

/-- Every domain is in the state that the device state asks for. -/
def State.allReached (s : State) : Bool :=
  (List.range 176).all (fun d => d == 160 || s.domState d == 4 ||
    (!s.domBusy d && (s.domState d == s.wantState d || (s.wantState d ≤ 1 && s.domState d ≤ 1))))

/-- The device wakes from SLEEP, or from DEEP by a warm start (R552, R557). -/
def State.wakeUp (s : State) : State :=
  if s.rf Reg.PWR_DEVSTAT 31 30 = 2 then s.resetAll 5 false else s.headFor 0

/-- DEVICE_STATE_REACHED (R551 to R553): a wake source that has arrived meanwhile acts at once. -/
def execDeviceStateReached (s : State) : Out :=
  .next <|
    match s.pwr.goal with
    | none => s
    | some g =>
      if !s.allReached then s
      else
        let next := s.pwr.wakeNext
        let s := { (s.wf Reg.PWR_DEVSTAT 31 30 g).devResult false 0 with pwr := { s.pwr with goal := none, wakeNext := false } }
        if next && g ≠ 0 then s.wakeUp else s

/-- An enabled wake source acts (R553). -/
def State.wakeEvent (s : State) (source : WakeSource) : State :=
  let on := match source with
    | .gp n => n < 16 && s.bit Reg.PWR_WAKECFG n
    | .timer c => s.bit Reg.PWR_WAKECFG 30 && s.rf Reg.PWR_WAKECFG 19 16 == c
    | .perst => s.bit Reg.PWR_WAKECFG 31
  if !on then s
  else match s.pwr.goal with
    | some 0 => s
    | some _ => { s with pwr := { s.pwr with wakeNext := true } }
    | none => if s.rf Reg.PWR_DEVSTAT 31 30 = 0 then s else s.wakeUp

/-- WAKE_SOURCE (R553). -/
def execWakeSource (source : WakeSource) (s : State) : Out := .next (s.wakeEvent source)

/-- What leaves with a domain's contents beyond them: a link goes down (R454), the host is lost (R434). -/
def State.leaving (s : State) (d : Nat) : State :=
  if 167 ≤ d && d < 175 then (if s.linkUp (d - 167) then s.linkDown (d - 167) 0 else s)
  else if d = 162 then s.hostLost .linkDown else s

/-- DOMAIN_POWER_DOWN_DONE (R525, R542): the domain is in RETAIN, or OFF without its contents. -/
def execDomainPowerDownDone (d : Nat) (s : State) : Out :=
  .next <|
    let act := (s.dom d).act
    if act ≠ 2 && act ≠ 3 then s
    else
      let s := s.leaving d
      let s := (s.setDomState d act).setClock d false 0
      let s := if act = 3 then s.loseDomain d else s
      if (s.dom d).emerg then s.domTurn d else s.domSettle d

/-- DOMAIN_HARD_FAILURE (R544, R545). -/
def execDomainHardFailure (d : Nat) (s : State) : Out :=
  .next <| if d = 160 || 176 ≤ d || !s.domOn d then s else (if d = 162 then s else s.leaving d).domFail d 5

/-- A record of a settings block replaced, or added behind the others. -/
def putRecord (b : List Byte) (tag v : Nat) : List Byte :=
  match ((settingsRecs b 4096 8).getD []).find? (fun r => r.1 == tag) with
  | some r => b.take r.2.1 ++ leBytes r.2.2 v ++ b.drop (r.2.1 + r.2.2)
  | none => b.take 4 ++ leBytes 4 (b.length - 8 + 5) ++ b.drop 8 ++ leBytes 2 tag ++ leBytes 2 1 ++ leBytes 1 v

/-- PWR_CEIL_WRITE (R530, R540): the ceilings and their records in the active settings block. -/
def execPwrCeilWrite (src : Src) (data : Nat) (s : State) : Out :=
  .next <| s.cmdAt src Reg.PWR_CEIL (fun s =>
    let ok := s.installer src
    let s := s.regWrite src Reg.PWR_CEIL data
    let i := s.rf Reg.SMC_IMGSTAT 28 27
    if !ok then s
    else
      let s := if i = 0 || s.domState 175 = 4 then s
               else s.settingsWrite (i - 1) (putRecord (putRecord (s.settingsBytes (i - 1)) 0x1101 (s.rf Reg.PWR_CEIL 31 24)) 0x1102 (s.rf Reg.PWR_CEIL 17 16))
      s.requestAll (List.range 128))

/-- The SMC runs again (R655): what waited goes on. -/
def State.smcResume (s : State) : State :=
  if !s.smcHalted then s
  else
    let s := (s.wf Reg.SMC_DBGSTAT 30 30 0).dbgShow.secFlush.repairSync
    match s.runc.change with
    | some ch => if s.runc.phase = 0 then s.prepare ch else s
    | none => s

/-- PWRFAIL_N abandons a load (R73): the marker is cleared, and no slot is counted; the result is not stated. -/
def State.loadDrop (s : State) : State :=
  match s.img.job with
  | none => s
  | some j =>
    if j.install then s
    else
      let code := Config.freeNat s.draws % 256
      let s := (s.draw.store markerAddr [0]).logImage j code
      let s := s.imgDone code 0
      if j.delta then { s.wf Reg.SMC_IMGSTAT 25 25 0 with img := { s.img with planNext := [] } }
      else if j.phase ≤ 1 then s.loadUndone j else s.imgEmpty

/-- PWRFAIL_ASSERT (R547, R549, R565, R652, R655). -/
def execPwrfailAssert (s : State) : Out :=
  .next <|
    if s.inReset then s
    else
      let s := { s with pwr := { s.pwr with pwrfail := true } }
      if !s.bit Reg.RST_STAT 27 || s.bit Reg.PWR_DEVSTAT 28 then s
      else
        let s := ((s.commitDrop.smcResume.loadDrop).setBit Reg.PWR_DEVSTAT 28).pwrIrq 1
        let s := (List.range 8).foldl (fun s k => if s.linkUp k then s.linkDown k 4 else s) s
        let s := if s.bit Reg.PWR_DEVSTAT 29 || s.devState = 2 then s else s.saveOccasion false
        ((List.range 160).foldl State.domOverride s).requestAll ((List.range 13).map (163 + ·))

/-- PWRFAIL_RELEASE (R549, R565): the domains return to their targets, and a start that had halted continues. -/
def execPwrfailRelease (s : State) : Out :=
  .next <|
    if !s.pwr.pwrfail then s
    else ({ s with pwr := { s.pwr with pwrfail := false } }.wf Reg.PWR_DEVSTAT 28 28 0 |>.wf Reg.RST_STAT 24 24 0).retarget

end Sys2Proof.Machine
end

