-- ==== Sys2Proof/Machine/Timers.lean ====
section
/-! DEFINITION. Timers and counters (R621 to R645): LF mode, compare channels, GP outputs, the Ephemeris and the performance
counters. -/

namespace Sys2Proof.Machine

/-- LF mode is required (R622): SLEEP, DEEP, or a unit in debug halt. -/
def State.lfWanted (s : State) : Bool := s.rf Reg.PWR_DEVSTAT 31 30 == 1 || s.rf Reg.PWR_DEVSTAT 31 30 == 2 || s.bit Reg.SMC_RUNSTAT 25

/-- The timebase holds its value (R623). -/
def State.timeHolds (s : State) : Bool := s.lfWanted && !s.bit Reg.CLK_REFSTAT 30

/-- TMR_STAT.LFMODE and CAUSE (R622). -/
def State.showLf (s : State) (on : Bool) : State :=
  let cause := if !on then 0 else if s.rf Reg.PWR_DEVSTAT 31 30 = 0 then 3 else s.rf Reg.PWR_DEVSTAT 31 30
  (s.wf Reg.TMR_STAT 31 31 (if on then 1 else 0)).wf Reg.TMR_STAT 30 29 cause

/-- An increment of the timebase at an edge of LFCLK (R622). -/
def State.lfEdge (s : State) : State := { s with time := (s.time + 30518) % 2 ^ 64 }

/-- LF_MODE_ENTRY (R622, R623): at the next edge of LFCLK, or holding at once without one. -/
def execLfModeEntry (s : State) : Out :=
  .next <|
    if !s.lfWanted || s.bit Reg.TMR_STAT 31 then s
    else if s.bit Reg.CLK_REFSTAT 30 then s.showLf true
    else (s.showLf true).setBit Reg.TMR_STAT 27

/-- LF_MODE_EXIT (R622, R623): at the next edge, which still counts; at once from a held value. -/
def execLfModeExit (s : State) : Out :=
  .next <|
    if s.lfWanted || !s.bit Reg.TMR_STAT 31 then s
    else if s.bit Reg.CLK_REFSTAT 30 then s.lfEdge.showLf false
    else s.showLf false

/-- LFCLK_LOST (R623). -/
def execLfclkLost (s : State) : Out :=
  .next <|
    let s := s.wf Reg.CLK_REFSTAT 30 30 0
    if s.lfWanted then (s.showLf true).setBit Reg.TMR_STAT 27 else s

/-- LFCLK_RETURN (R623): a held timebase advances at the next edge. -/
def execLfclkReturn (s : State) : Out :=
  .next <|
    if s.bit Reg.CLK_REFSTAT 30 then s
    else
      let s := s.setBit Reg.CLK_REFSTAT 30
      if s.lfWanted then s.lfEdge.showLf true else s.showLf false

/-- TMR_TIME[31:0]. -/
def State.timeLo (s : State) : Nat := s.time % 2 ^ 32

/-- A channel is armed and its compare is met (R626). -/
def State.timerDue (s : State) (n : Nat) : Bool :=
  s.bit (Reg.TMR_CHSTAT n) 31 && stepSub s.timeLo (s.rd (Reg.TMR_CHCOMPARE n)).toNat < 2 ^ 31 && !s.timeHolds

/-- The channel is armed or disarmed. -/
def State.armTimer (s : State) (n : Nat) (on : Bool) : State := s.wf (Reg.TMR_CHSTAT n) 31 31 (if on then 1 else 0)

/-- A source drives a GP pin: channel n by TMR_CHnCTRL, alarm j as source 16 + j (R628, R633). -/
def State.drives (s : State) (src pin : Nat) : Bool :=
  if src < 16 then (s.rf (Reg.TMR_CHCTRL src) 29 28 == 1 || s.rf (Reg.TMR_CHCTRL src) 29 28 == 2) && s.rf (Reg.TMR_CHCTRL src) 27 24 == pin
  else s.rf (Reg.SMC_EPHCTRL (src - 16)) 23 20 == pin

/-- Level of a GP pin (R628, R685): what drives it, or its inactive level where nothing does. -/
def State.gpLevel (s : State) (pin : Nat) : Bool :=
  let high := s.tmr.high.any (fun x => s.drives x pin)
  let driven := high || (List.range 16).any (fun n => s.drives n pin)
  if driven then high else !s.bit Reg.SYS_GPCFG pin

/-- A wake input sees the level that the device drives (R628). -/
def State.wakeOn (s old : State) (pin : Nat) : State :=
  let act := fun (x : State) => x.gpLevel pin == s.bit Reg.SYS_GPCFG pin
  if act s && !act old then s.wakeEvent (.gp pin) else s

/-- A source drives its pin high, or no longer does. -/
def State.driveHigh (s : State) (src pin : Nat) (on : Bool) : State :=
  let t := { s with tmr := { s.tmr with high := s.tmr.high.filter (· != src) ++ (if on then [src] else []) } }
  t.wakeOn s pin

/-- The GP output of a firing channel (R628). -/
def State.timerOut (s : State) (n : Nat) : State :=
  let pin := s.rf (Reg.TMR_CHCTRL n) 27 24
  match s.rf (Reg.TMR_CHCTRL n) 29 28 with
  | 1 => s.driveHigh n pin (!s.tmr.high.contains n)
  | 2 => s.driveHigh n pin true
  | _ => s

/-- Every performance counter is 0 (R641). -/
def State.perfZero (s : State) : State := (List.range 8).foldl (fun s n => (s.wr (Reg.TMR_PC n) 0).wr (Reg.TMR_PC n + 4) 0) s

/-- The firing of a channel at the gate of the performance counters (R641). -/
def State.perfGate (s : State) (n : Nat) : State :=
  if !s.bit Reg.TMR_PCCTRL 31 || !s.bit Reg.TMR_PCCTRL 30 || s.rf Reg.TMR_PCCTRL 29 26 ≠ n || s.bit Reg.TMR_PCCTRL 1 then s
  else if s.bit Reg.TMR_PCCTRL 2 then s.wf Reg.TMR_PCCTRL 2 1 1
  else s.perfZero.wf Reg.TMR_PCCTRL 2 1 2

/-- A channel fires (R627, R628, R641). -/
def State.timerFires (s : State) (n : Nat) : State :=
  let cmp := (s.rd (Reg.TMR_CHCOMPARE n)).toNat
  let per := min (s.rd (Reg.TMR_CHPERIOD n)).toNat (2 ^ 31 - 1)
  let m := stepSub s.timeLo cmp / per + 1
  let s := if s.bit (Reg.TMR_CHCTRL n) 30 && per ≠ 0
           then (s.wr (Reg.TMR_CHCOMPARE n) (BitVec.ofNat 32 (cmp + m * per))).bump (Reg.TMR_CHOVRCNT n) (m - 1)
           else s.armTimer n false
  let s := ((s.setBit Reg.TMR_FIRESTAT n).wr (Reg.TMR_CHLAST n) (BitVec.ofNat 32 s.timeLo)).bump (Reg.TMR_CHFIRECNT n) 1
  ((s.timerOut n).perfGate n).wakeEvent (.timer n)

/-- A firing that is due comes before a write of the same nanosecond (R630). -/
def State.fireDue (s : State) (n : Nat) : State := if s.timerDue n then s.timerFires n else s

/-- TIMER_FIRE (R626). -/
def execTimerFire (n : Nat) (s : State) : Out := .next <| if 16 ≤ n then s else s.fireDue n

/-- TIMER_COMPARE_WRITE (R625, R630). -/
def execTimerCompareWrite (src : Src) (n data : Nat) (s : State) : Out :=
  .next <| if 16 ≤ n then s else s.cmdAt src (Reg.TMR_CHCOMPARE n) (fun s =>
    let s := (s.fireDue n).regWrite src (Reg.TMR_CHCOMPARE n) data
    if s.installer src && s.bit (Reg.TMR_CHCTRL n) 31 then s.armTimer n true else s)

/-- TIMER_CTRL_WRITE (R625, R630). -/
def execTimerCtrlWrite (src : Src) (n data : Nat) (s : State) : Out :=
  .next <| if 16 ≤ n then s else s.cmdAt src (Reg.TMR_CHCTRL n) (fun s =>
    let s := s.fireDue n
    let was := s.bit (Reg.TMR_CHCTRL n) 31
    let s := s.regWrite src (Reg.TMR_CHCTRL n) data
    if !s.installer src then s
    else
      let out := s.rf (Reg.TMR_CHCTRL n) 29 28
      let s := if out = 0 || out = 3 then { s with tmr := { s.tmr with high := s.tmr.high.filter (· != n) } } else s
      if s.bit (Reg.TMR_CHCTRL n) 31 then (if was then s else s.armTimer n true) else s.armTimer n false)

/-- Channels start together from the `r`th on (R629). -/
def State.groupFrom (s : State) (auto : Bool) (t0 k : Nat) : Nat → List Nat → State
  | _, [] => s
  | r, n :: t =>
    let s := s.fireDue n
    let s := if auto then s.wr (Reg.TMR_CHPHASE n) (BitVec.ofNat 32 (r * ((s.rd (Reg.TMR_CHPERIOD n)).toNat / k))) else s
    let s := (s.wr (Reg.TMR_CHCOMPARE n) (BitVec.ofNat 32 (t0 + (s.rd (Reg.TMR_CHPHASE n)).toNat))).armTimer n true
    groupFrom s auto t0 k (r + 1) t

/-- TIMER_GROUP_START (R629). -/
def execTimerGroupStart (src : Src) (data : Nat) (s : State) : Out :=
  .next <| s.cmdAt src Reg.TMR_GROUP (fun s =>
    let s := s.regWrite src Reg.TMR_GROUP data
    if !s.installer src then s
    else
      let w := (s.rd Reg.TMR_GROUP).toNat
      let chs := (List.range 16).filter (fun n => bitAt w n && s.bit (Reg.TMR_CHCTRL n) 31)
      s.groupFrom (bitAt w 31) (s.timeLo + 1000 * bits w 23 16) chs.length 0 chs)

/-- PULSE_END (R628, R633): the pulse of a channel, or of alarm n - 16, ends. -/
def execPulseEnd (n : Nat) (s : State) : Out :=
  .next <|
    if !s.tmr.high.contains n || (n < 16 && s.rf (Reg.TMR_CHCTRL n) 29 28 = 1) then s
    else s.driveHigh n (if n < 16 then s.rf (Reg.TMR_CHCTRL n) 27 24 else s.rf (Reg.SMC_EPHCTRL (n - 16)) 23 20) false

/-- A write of TMR_PCCTRL (R641, R644). -/
def State.perfCtrl (s : State) (src : Src) (data : Nat) : State :=
  let old := (s.rd Reg.TMR_PCCTRL).toNat
  let s := (s.regWrite src Reg.TMR_PCCTRL data).wf Reg.TMR_PCCTRL 0 0 0
  let s := if bitAt data 0 then s.perfZero.wf Reg.TMR_PCCTRL 1 1 0 else s
  if !s.bit Reg.TMR_PCCTRL 31 then s.wf Reg.TMR_PCCTRL 2 1 0
  else if !s.bit Reg.TMR_PCCTRL 30 then s.setBit Reg.TMR_PCCTRL 2
  else if bitAt old 31 && bitAt old 30 then s
  else s.wf Reg.TMR_PCCTRL 2 2 0

/-- PERF_COUNTER_CLEAR (R641): the other fields are written as they stand. -/
def execPerfCounterClear (src : Src) (s : State) : Out :=
  .next <| s.cmdAt src Reg.TMR_PCCTRL (fun s => s.perfCtrl src ((s.rd Reg.TMR_PCCTRL).toNat ||| 1))

/-- Increment of a counter in a report: `events` lists, for every event code from 0 up, the increments of partitions 0 to 15,
partition 0 alone where the device counts (R640). -/
def perfAdd (sel : Nat) (events : List Nat) : Nat :=
  let e := bits sel 31 24
  let mask := bits sel 15 0
  if e = 0 || 0xC < e then 0
  else ((List.range 16).filter (fun p => if 0xA ≤ e then p == 0 else mask == 0 || bitAt mask p)).foldl (fun n p => n + events.getD (16 * e + p) 0) 0

/-- PERF_COUNT_REPORT (R640). -/
def execPerfCountReport (events : List Nat) (s : State) : Out :=
  .next <|
    if !s.bit Reg.TMR_PCCTRL 31 || !s.bit Reg.TMR_PCCTRL 2 then s
    else (List.range 8).foldl (fun s n => s.bump48 (Reg.TMR_PC n) (perfAdd (s.rd (Reg.TMR_PCSEL n)).toNat events)) s

/-- Alarms that an alarm table holds armed, each with its distance from the horizon `h` (R632). -/
def State.alarmsFrom (s : State) (h : Nat) : List (Nat × Nat) :=
  ((List.range 64).filter (fun j => s.bit (Reg.SMC_EPHSTAT j) 31 && s.rf (Reg.SMC_EPHCTRL j) 30 29 != 3)).map
    (fun j => (stepSub (s.rd (Reg.SMC_EPHSTEP j)).toNat h, j))

/-- An alarm fires (R632, R633). -/
def State.alarmFire (s : State) (j : Nat) : State :=
  let st := (s.rd (Reg.SMC_EPHSTEP j)).toNat
  let every := s.rf (Reg.SMC_EPHLAND j) 31 16
  let s := (s.wr (Reg.SMC_EPHLAST j) (BitVec.ofNat 32 st)).wf (Reg.SMC_EPHSTAT j) 15 0 (satN 16 (s.rf (Reg.SMC_EPHSTAT j) 15 0 + 1))
  let s := if every = 0 then s.wf (Reg.SMC_EPHSTAT j) 31 31 0 else s.wr (Reg.SMC_EPHSTEP j) (BitVec.ofNat 32 (st + every))
  if s.rf (Reg.SMC_EPHCTRL j) 30 29 = 2 then s.driveHigh (16 + j) (s.rf (Reg.SMC_EPHCTRL j) 23 20) true
  else { s with smc := { s.smc with alarms := s.smc.alarms ++ [(j, st)] } }

/-- The pass over the table for a move of `n` steps from `h`: the nearest alarm first, then the lower entry (R632). -/
def State.alarmPass (s : State) (h n : Nat) : Nat → State
  | 0 => s
  | k + 1 =>
    let due := (s.alarmsFrom h).filter (fun (e : Nat × Nat) => 1 ≤ e.1 && e.1 ≤ n)
    match due.foldl (fun (b : Option (Nat × Nat)) e => match b with | none => some e | some x => if e.1 < x.1 then some e else b) none with
    | none => s
    | some e => alarmPass (s.alarmFire e.2) h n k

/-- EPHEMERIS_ARM (R635). -/
def execEphemerisArm (src : Src) (j word data : Nat) (s : State) : Out :=
  .next <|
    if 64 ≤ j || 4 ≤ word then s
    else
      let a := Reg.SMC_EPHSTEP j + 4 * word
      s.cmdAt src a (fun s =>
        let s := s.regWrite src a data
        if !s.installer src || 2 ≤ word then s
        else if s.bit (Reg.SMC_EPHCTRL j) 31 then
          (let s := s.setBit (Reg.SMC_EPHSTAT j) 31
           if s.rf (Reg.SMC_EPHCTRL j) 30 29 = 3 then s.setBit (Reg.SMC_EPHSTAT j) 30 else s)
        else s.wf (Reg.SMC_EPHSTAT j) 31 31 0)

/-- EPHEMERIS_MESSAGE_SEND (R633). -/
def execEphemerisMessageSend (s : State) : Out :=
  .next <|
    match s.smc.alarms with
    | [] => s
    | (j, st) :: t =>
      if s.smcHalted || !s.domOn 161 || 16 ≤ (s.smc.flying.filter (fun (e : Nat × Nat) => e.2 < 64)).length then s
      else
        let s := { s with smc := { s.smc with alarms := t } }
        let data := leBytes 4 st ++ leBytes 1 j ++ zeros 3 ++ leBytes 8 s.time
        if s.rf (Reg.SMC_EPHCTRL j) 30 29 = 0 then s.smcSend (s.hostQueueKey (s.rf (Reg.SMC_EPHCTRL j) 11 0)) 0 3 j data
        else s.smcSend (s.rd (Reg.SMC_EPHKEY j)).toNat (s.rf (Reg.SMC_EPHLAND j) 14 4 * 16) 3 j data

/-- DEBUG_HALT_WRITE (R653, R654, R657): a waiting core halts at once, and a halted one whose bit is cleared waits for
admission. -/
def execDebugHaltWrite (src : Src) (g data : Nat) (s : State) : Out :=
  .next <|
    if 32 ≤ g then s
    else s.cmdAt src (Reg.SMC_DBGHALT g) (fun s =>
      let s := s.regWrite src (Reg.SMC_DBGHALT g) data
      let s := ((List.range 32).map (32 * g + ·)).foldl (fun s c =>
        if s.recovering (partOf c) || !s.inUse c then s
        else if s.haltBit c && s.phase c = 2 && s.waiting c then s.setPhase c 4
        else if !s.haltBit c && s.phase c = 4 then s.setPhase c 2
        else s) s
      s.dbgShow)

/-- SMC_DEBUG_HALT (R655). -/
def execSmcDebugHalt (s : State) : Out :=
  .next <| if !s.domOn 161 || s.smcHalted then s else (s.setBit Reg.SMC_DBGSTAT 30).dbgShow

/-- SMC_DEBUG_RESUME (R655): by the debug module, or forced while PWRFAIL_N is asserted. -/
def execSmcDebugResume (forced : Bool) (s : State) : Out :=
  .next <| if forced && !s.pwr.pwrfail then s else s.smcResume

end Sys2Proof.Machine
end

