-- ==== Sys2Proof/Machine/Horizon.lean ====
section
/-! DEFINITION. Horizons where they are listened to (R213, R214, R221, R631, R632), and what passes with time (R515, R554,
R614, R618, R621). -/

namespace Sys2Proof.Machine

/-- Members of the device group while a partition is held (R211, R612): the report that names the slowest of the others, with
its step and its witness. The Tundish ranks above every core. -/
def State.otherMembers (s : State) : Nat × Nat :=
  let cores := (s.usedCores.filter (fun c => !s.heldPart (partOf c))).map
    (fun c => ((s.rd (Reg.NCR_SEALED c)).toNat, 2 ^ 15 + s.dev * 2 ^ 10 + c))
  let all := cores ++ [((s.rd Reg.TND_SEALED).toNat, 2 ^ 15 + 2 ^ 14 + s.dev * 2 ^ 10)]
  all.tail.foldl (fun b e => if stepGt b.1 e.1 then e else b) (all.headD (0xFFFFFFFF, 0))

/-- The largest lag of the member that holds the device horizon (R221). -/
def State.lagNote (s : State) : State :=
  let h := ((s.rd Reg.SMC_DEVHZ).toNat + 1) % 2 ^ 32
  let lag := if stepGe s.sched h then satN 16 (stepSub s.sched h) else 0
  if lag ≤ s.rf Reg.SMC_LAGMAX 31 16 then s
  else s.wr Reg.SMC_LAGMAX (BitVec.ofNat 32 (lag * 2 ^ 16 + s.rf Reg.SMC_DEVHZSRC 31 31 * 2 ^ 15 +
    s.rf Reg.SMC_DEVHZSRC 19 16 * 2 ^ 10 + s.rf Reg.SMC_DEVHZSRC 9 0))

/-- A multiple of `m` other than 0 lies on the way of `n` steps from horizon `h`. -/
def passesMultiple (h n m : Nat) : Bool :=
  let a := (h + 1) % 2 ^ 32
  m != 0 && n != 0 && (max a 1 - 1) / m < (a + n - 1) / m

/-- The device horizon moves at the SMC (R213, R221, R377, R632). -/
def State.moveDevice (s : State) (step wit : Nat) : State :=
  let h := (s.rd Reg.SMC_DEVHZ).toNat
  if !stepGe step h then s
  else
    let n := stepSub step h
    let s := s.lagNote
    let s := (s.wr Reg.SMC_DEVHZ (BitVec.ofNat 32 step)).wr Reg.SMC_DEVHZSRC
      (BitVec.ofNat 32 (bits wit 14 14 * 2 ^ 31 + bits wit 13 10 * 2 ^ 16 + bits wit 9 0))
    let s := if passesMultiple h n (s.setting 0x0B03 0 * s.epochLen) then s.saveOccasion true else s
    s.alarmPass h n (64 * n)

/-- A report of key `key` reaches a core (R213, R214): each listen entry of its group, and the device group. -/
def State.coreHears (s : State) (c key step wit : Nat) : State :=
  let s := (List.range 8).foldl (fun s n =>
    if mapGet 0 s.img.horizKeys (s.rf (Reg.NCR_HZLIST c n) 7 0) = key && stepGe step (s.rd (Reg.NCR_HZVAL c n)).toNat then
      (s.wr (Reg.NCR_HZVAL c n) (BitVec.ofNat 32 step)).setCore c { s.core c with hzSrc := mapSet 0 (s.core c).hzSrc n wit }
    else s) s
  if mapGet 0 s.img.horizKeys 255 = key && stepGe step (s.core c).devHz then s.setCore c { s.core c with devHz := step, devSrc := wit } else s

/-- A report reaches the Tundish (R218, R219). -/
def State.tundishHears (s : State) (key step wit : Nat) : State :=
  let s := (List.range 8).foldl (fun s n =>
    if mapGet 0 s.img.horizKeys (s.rf (Reg.TND_HZDOWN n) 7 0) = key && stepGe step (mapGet 0xFFFFFFFF s.tnd.hz n) then
      { s with tnd := { s.tnd with hz := mapSet 0xFFFFFFFF s.tnd.hz n step, hzSrc := mapSet 0 s.tnd.hzSrc n wit } }
    else s) s
  if mapGet 0 s.img.horizKeys 255 = key && stepGe step s.tnd.devHz then { s with tnd := { s.tnd with devHz := step, devSrc := wit } } else s

/-- What a listener does with a report: a core, the Tundish (1024 to 1055), the SMC (1060). -/
def State.hears (s : State) (who key step wit : Nat) : State :=
  if who < 1024 then s.coreHears who key step wit
  else if who < 1056 then s.tundishHears key step wit
  else if who = 1060 && mapGet 0 s.img.horizKeys 255 = key then s.moveDevice step wit
  else s

/-- HORIZON_REPORT_RECEIVE (R213, R574): with no report waiting, while a partition is held, the device group's horizon over the
other members (R612). -/
def execHorizonReportReceive (who : Nat) (s : State) : Out :=
  .next <|
    let listener := who < 1056 || who = 1060
    if !listener || (who = 1060 && s.smcHalted) then s
    else match s.ctrlHead who 1 with
      | some (v, p) =>
        if !p.good then (s.takeInbox who v).crcFail (portLcn who) p
        else if who < 1024 && s.wrapped who then s.wrapDrop who v p
        else ((s.takeInbox who v).retire p.ret).hears who p.key p.payload p.witness
      | none =>
        let key := mapGet 0 s.img.horizKeys 255
        if key ≠ 0 && (List.range 16).any s.heldPart && s.runActive && !(who < 1024 && s.wrapped who) then
          s.hears who key s.otherMembers.1 s.otherMembers.2
        else s

/-- The device is late (R614). -/
def State.late (s : State) : Bool :=
  let h := ((s.rd Reg.SMC_DEVHZ).toNat + 1) % 2 ^ 32
  stepGe s.sched h && s.rf Reg.SMC_AVCFG 15 0 < stepSub s.sched h

/-- Running and late time of `us` microseconds (R614, R655). -/
def State.availability (s : State) (us : Nat) : State :=
  let s := if s.recv.catching && !s.late then { s with recv := { s.recv with catching := false } } else s
  if s.runState ≠ 2 || s.bit Reg.SMC_STEPCFG 23 || s.bit Reg.SMC_RUNSTAT 25 then s
  else
    let s := s.bump48 Reg.SMC_AVRUN us
    if !s.late then s
    else if s.bit Reg.PWR_DEVSTAT 29 || s.rf Reg.SMC_RECSTAT 15 0 ≠ 0 then s.bump48 Reg.SMC_AVLATE_FLT us
    else if s.rf Reg.SMC_RECSTAT 31 16 ≠ 0 || s.recv.catching then s.bump48 Reg.SMC_AVLATE_REC us
    else s.bump48 Reg.SMC_AVLATE_LOAD us

/-- Residency of a domain (R554). -/
def State.residency (s : State) (us d : Nat) : State :=
  let st := min 3 (s.domState d)
  let s := s.bump48 (Reg.PWR_DRESON d + 8 * st) us
  if 2 ≤ st || domKind d = 3 then s else s.bump48 (Reg.PWR_DRESPT d (s.rf (Reg.PWR_DSTAT d) 24 23)) us

/-- Whole microseconds and seconds of the timebase pass. -/
def State.passed (s : State) (us sec : Nat) : State :=
  let s := if us = 0 then s else ((List.range 177).foldl (fun s d => s.residency us d) (s.availability us)).lagNote
  let s := if us = 0 then s else s.usedCores.foldl (fun s c => s.waitCounts c (s.blockOf c).1 ((s.stepOf c + 1) % 2 ^ 32) us) s
  if s.rf Reg.SEC_STAT 31 30 = 0 then s else s.wf Reg.SEC_STAT 15 0 (s.rf Reg.SEC_STAT 15 0 - sec)

/-- What one tick adds to the timebase, in ns, with what is left of a correction (R621 to R623, R464). -/
def State.tickNs (s : State) : Nat × TmrInt :=
  let t := s.tmr
  if s.timeHolds || s.rst.porst || s.rst.aon then (0, t)
  else if s.bit Reg.TMR_STAT 31 && s.bit Reg.CLK_REFSTAT 30 then (30518, t)
  else if t.slew ≠ 0 && 4999 ≤ t.gap then (if 0 < t.slew then (2, { t with slew := t.slew - 1, gap := 0 }) else (0, { t with slew := t.slew + 1, gap := 0 }))
  else (1, { t with gap := min 4999 (t.gap + 1) })

/-- One increment of the timebase (assumption log 1); the Vernier partition's own time goes on beside it (R473). -/
def State.tick (s : State) : State :=
  let (n, t) := s.tickNs
  let new := (s.time + n) % 2 ^ 64
  let own := if s.bit Reg.TMR_STAT 31 && s.bit Reg.CLK_REFSTAT 30 then 30518 else 1
  let us := (s.time + n) / 1000 - s.time / 1000
  let sec := (s.time + n) / 1000000000 - s.time / 1000000000
  { s with time := new, tmr := t, vrn := { s.vrn with ns := if s.vrn.live then s.vrn.ns + own else s.vrn.ns } }.passed us sec

end Sys2Proof.Machine
end

