-- ==== Sys2Proof/Machine/Recovery.lean ====
section
/-! DEFINITION. Fault handling and partition recovery (R572 to R575, R587 to R613, R656): intake and cases, hang checks, recovery
from the checkpoint with replay, the suspect search, substitution, and the recovery copy (R598). -/

namespace Sys2Proof.Machine

/-- A case's internal state. -/
def State.case (s : State) (k : Nat) : CaseInt := mapGet .init s.recv.cases k
/-- The state with a case's internal state replaced. -/
def State.setCase (s : State) (k : Nat) (x : CaseInt) : State := { s with recv := { s.recv with cases := mapSet .init s.recv.cases k x } }

/-- Slots that hold an open case. -/
def State.openCases (s : State) : List Nat := (List.range 16).filter (fun k => s.bit (Reg.SMC_CASE k 0) 31)

/-- SMC_CASESTAT follows the intake and the slots (R616). -/
def State.showCases (s : State) : State :=
  s.wr Reg.SMC_CASESTAT (BitVec.ofNat 32 (min 64 s.recv.fifo.length * 2 ^ 16 + s.openCases.length))

/-- STATE of a case (R619): 0 intake, 1 hang check, 2 recovering, 3 searching, 4 waiting. -/
def State.caseState (s : State) (k : Nat) : Nat := s.rf (Reg.SMC_CASE k 0) 30 28
/-- The state with a case's STATE set. -/
def State.setCaseState (s : State) (k v : Nat) : State := s.wf (Reg.SMC_CASE k 0) 30 28 v
/-- FAULT key of a case's first report. -/
def State.caseKey (s : State) (k : Nat) : Nat := (s.rd (Reg.SMC_CASE k 1)).toNat
/-- Partition of a case, or 0xFF. -/
def State.casePart (s : State) (k : Nat) : Nat := s.rf (Reg.SMC_CASE k 0) 23 16

/-- The suspect that a FAULT key names (R599): SDEV, SCLASS and SUNIT. -/
def suspectOf (key : Nat) : Nat := bits key 23 7
/-- SCLASS of a FAULT key. -/
def suspectClass (key : Nat) : Nat := bits key 19 17
/-- SUNIT of a FAULT key. -/
def suspectUnit (key : Nat) : Nat := bits key 16 7

/-- Partition of a suspect: of a core, router, vault or Temper unit of this device; else 0xFF. -/
def State.suspectPart (s : State) (key : Nat) : Nat :=
  if bits key 23 20 ≠ s.dev then 0xFF
  else match suspectClass key with
    | 0 => partOf (suspectUnit key)
    | 1 => partOf (suspectUnit key)
    | 2 => suspectUnit key % 16
    | 3 => suspectUnit key % 16
    | _ => 0xFF

/-- Witness halfwords of a report (R304). -/
def reportWits (p : Packet) : List Nat :=
  (2 ^ 15 + (if p.cls = 7 then 2 ^ 14 else 0) + p.srcDev * 2 ^ 10 + p.srcLcn) :: (if bitAt p.payload 31 then [bits p.payload 31 16] else [])

/-- Witness `i` of a case. -/
def State.caseWit (s : State) (k i : Nat) : Nat := s.rf (Reg.SMC_CASE k (3 + i / 2)) (16 * (i % 2) + 15) (16 * (i % 2))

/-- A witness joins the first 8 distinct witnesses of a case. -/
def State.addWit (s : State) (k w : Nat) : State :=
  if (List.range 8).any (fun i => s.caseWit k i == w) then s
  else match (List.range 8).find? (fun i => s.caseWit k i == 0) with
    | some i => s.wf (Reg.SMC_CASE k (3 + i / 2)) (16 * (i % 2) + 15) (16 * (i % 2)) w
    | none => s

/-- A report joins a case: its kind, count and witnesses (R599). -/
def State.joinCase (s : State) (k : Nat) (p : Packet) : State :=
  let m := Reg.SMC_CASE k 2
  let s := (s.setBit m (16 + bits p.key 27 24)).wf m 15 0 (satN 16 (s.rf m 15 0 + bits p.payload 15 0))
  (reportWits p).foldl (fun s w => s.addWit k w) s

/-- The bytes of a CASE record (R613). -/
def State.caseRecord (s : State) (k outcome : Nat) : List Byte :=
  let x := s.case k
  let w := fun i => leBytes 4 (s.rd (Reg.SMC_CASE k i)).toNat
  [0x21] ++ leBytes 1 outcome ++ leBytes 2 (s.rf (Reg.SMC_CASE k 0) 15 0) ++ w 1 ++ w 2 ++ (List.range 4).flatMap (fun i => w (3 + i)) ++
    leBytes 4 x.f ++ leBytes 4 x.e ++ leBytes 4 ((s.time - x.opened) / 1000) ++
    leBytes 4 (s.rd48 Reg.SMC_AVLATE_REC + s.rd48 Reg.SMC_AVLATE_FLT + s.rd48 Reg.SMC_AVLATE_LOAD - x.late0) ++
    leBytes 2 (x.guilty.getD 0xFFFF) ++ leBytes 1 (s.casePart k) ++ leBytes 1 x.flags ++ leBytes 8 x.opened ++ zeros 8

/-- A case closes with an outcome (R613): 1 TRANSIENT, 2 QUARANTINE, 3 SUBSTITUTED, 4 SLOW, 5 CHAINED, 6 REPORTED,
7 NOT_ABSORBED, 8 FORWARDED. -/
def State.closeCase (s : State) (k outcome : Nat) : State :=
  let s := if s.bit Reg.SMC_RECCFG 31 then (s.hqAccept (s.rf Reg.SMC_RECCFG 11 0) [s.caseRecord k outcome]).1 else s
  let s := if outcome = 4 then s.bump Reg.SMC_SLOWCNT 1 else if outcome = 7 then s.bump Reg.SMC_NOTABSCNT 1 else s
  let s := (List.range 8).foldl (fun s i => s.wr (Reg.SMC_CASE k i) 0) s
  (s.setCase k .init).showCases

/-- Cases kept open for a suspect's case close (R601). -/
def State.closeChained (s : State) (suspect : Nat) : State :=
  (s.openCases.filter (fun k => (s.case k).chain == some suspect)).foldl (fun s k => s.closeCase k 5) s

/-- Step that a hang check reads (R601): of a core, or of the Tundish. -/
def State.checkedStep (s : State) (key : Nat) : Nat :=
  if suspectClass key = 0 then (s.rd (Reg.NCR_SEALED (suspectUnit key))).toNat else (s.rd Reg.TND_SEALED).toNat

/-- The entries of a queue that have not been released are answered with RESET, and the queue is emptied (R338). -/
def State.queueReset3 (s : State) (c q : Nat) : State :=
  let r := s.qRel c q
  let n := (s.qTail c q + 512 - r) % 512
  let s := (List.range n).foldl (fun s i =>
    let a := padAddr c + s.entryOff c q ((r + i) % 512)
    let w0 := s.num a 4
    let w1 := s.num (a + 4) 4
    s.reply c (bitAt w1 31) (bits w1 30 27) (bits w1 26 17) q 0 (bits w0 22 15) (bits w1 16 12) (bits w0 14 0) 3) s
  s.queueReset c q

/-- A core's wrapper closes (R338, R574): it stops, what it had not yet injected is discarded, its queues are answered. What it
has injected of the step it had not sealed is kept for the replay (R237, R339): packets, and messages that were no COUNT records,
which the replay does not issue again (R408). A COUNT record discarded here is not in flight any more. -/
def State.wrapCore (s : State) (c : Nat) : State :=
  let open_ := s.stepOf c != (s.rd (Reg.NCR_SEALED c)).toNat
  let r := some ((s.rd (Reg.NCR_SEALED c)).toNat, if open_ then (s.rd (Reg.RTR_INJCNT c)).toNat else 0, if open_ then (s.core c).sends else 0)
  let lost := ((mapGet [] s.wires (8 * c + 4)).filter (fun p => p.cls == 4 && bits p.key 4 2 == 6)).map (fun p => bits p.payload 31 24)
  let s := { s with wires := mapSet [] s.wires (8 * c + 4) [] }
  let s := s.setCore c { s.core c with stopped := true, replay := r, tapOut := (s.core c).tapOut.filter (fun o => !lost.contains o.1) }
  let s := if lost.isEmpty then s else s.showTaps c
  (List.range 128).foldl (fun s q => if s.rd (Reg.MSG_QPTR c q) = 0 then s else s.queueReset3 c q) s

/-- The partition is held isolated, its case NOT_ABSORBED (R612); wrappers that no recovery has closed close now (R338, R574). -/
def State.notAbsorbed (s : State) (k p : Nat) : State :=
  let closed := s.bit Reg.RST_ISO (16 + p)
  let s := s.closeCase k 7
  if 16 ≤ p then s
  else
    let s := ((s.wf Reg.SMC_RECSTAT (16 + p) (16 + p) 0).holdPart p)
    let s := { s with recv := { s.recv with replay := mapSet 0 s.recv.replay p 0 } }
    (List.range 64).foldl (fun s i =>
      let c := lcnOf p i
      if closed then s.setCore c { s.core c with stopped := true } else s.wrapCore c) s.drainTry

/-- The word that a vault's UEADDR names lies in its checkpoint reserve or journal (R587). -/
def State.ueInReserve (s : State) (p : Nat) : Bool :=
  let w := s.rf (Reg.VLT_UEADDR p) 24 4
  let j := s.rf (Reg.VLT_JRNL p) 20 0
  0x180000 ≤ w || (j ≤ w && w < j + s.rf (Reg.VLT_JLEN p) 20 0)

/-- A new case finds its handling (R587, R600 to R602). -/
def State.routeCase (s : State) (k : Nat) : State :=
  let key := s.caseKey k
  let kind := bits key 27 24
  let cl := suspectClass key
  if bits key 23 20 ≠ s.dev then s.closeCase k 8
  else if kind = 1 && (cl = 0 || cl = 4) then (s.setCaseState k 1).setCase k { s.case k with sealed0 := s.checkedStep key }
  else if kind = 1 && cl = 1 then s
  else if (kind = 2 || kind = 3) && (cl = 0 || cl = 2 || cl = 3) then s
  else if kind = 4 && (cl = 0 || cl = 2 || cl = 3) then (if cl = 2 && s.ueInReserve (suspectUnit key % 16) then s.closeCase k 6 else s)
  else s.closeCase k 6

/-- A case opens in slot `k` (R619). -/
def State.openCase (s : State) (k key part : Nat) : State :=
  let n := s.recv.next % 2 ^ 16
  let s := (s.wr (Reg.SMC_CASE k 0) (BitVec.ofNat 32 (2 ^ 31 + part * 2 ^ 16 + n))).wr (Reg.SMC_CASE k 1) (BitVec.ofNat 32 key)
  let s := s.wr (Reg.SMC_CASE k 7) (BitVec.ofNat 32 s.time)
  let late := s.rd48 Reg.SMC_AVLATE_REC + s.rd48 Reg.SMC_AVLATE_FLT + s.rd48 Reg.SMC_AVLATE_LOAD
  let s := s.setCase k { CaseInt.init with opened := s.time, late0 := late }
  ({ s with recv := { s.recv with next := n + 1 } }.showCases).closeChained (suspectOf key)

/-- A slot without a case. -/
def State.freeSlot (s : State) : Option Nat := (List.range 16).find? (fun k => !s.bit (Reg.SMC_CASE k 0) 31)

/-- A report names another device and goes there (R600). -/
def State.forwardReport (s : State) (p : Packet) : State :=
  if bits p.key 23 20 = s.dev then s else s.smcTell (bits p.key 23 20) ([4, p.key, bits p.payload 15 0] ++ reportWits p)

/-- A report opens a case in a free slot. -/
def State.openReport (s : State) (k : Nat) (p : Packet) : State :=
  ((((s.openCase k p.key (s.suspectPart p.key)).joinCase k p).forwardReport p)).routeCase k

/-- The case that absorbs a report (R599): that of the same suspect, or one of its partition under recovery. -/
def State.absorber (s : State) (key : Nat) : Option Nat :=
  let p := s.suspectPart key
  match s.openCases.find? (fun k => suspectOf (s.caseKey k) == suspectOf key) with
  | some k => some k
  | none => if p < 16 && s.recovering p then s.openCases.find? (fun k => s.casePart k == p) else none

/-- A horizon timeout against a core of a partition in its pass (R359). -/
def State.passTimeout (s : State) (key : Nat) : Bool :=
  let q := s.suspectPart key
  q < 16 && bits key 27 24 == 1 && suspectClass key == 0 && s.rf (Reg.TMP_STAT q) 31 29 != 0

/-- A report is taken in (R599); one that came from the FIFO was judged under R359 when it reached the SMC. -/
def State.intake (s : State) (p : Packet) (arrives : Bool) : State :=
  let q := s.suspectPart p.key
  let pass := arrives && s.passTimeout p.key
  let s := if pass then s.bump (Reg.TMP_TOABSCNT q) 1 else s
  match s.absorber p.key with
  | some k => (s.joinCase k p).bump Reg.SMC_DUPCNT 1
  | none =>
    if q < 16 && (s.recovering q || s.heldPart q) then s.bump Reg.SMC_DUPCNT 1
    else if pass then s
    else match (if s.recv.fifo.isEmpty then s.freeSlot else none) with
      | some k => s.openReport k p
      | none =>
        if 64 ≤ s.recv.fifo.length then s.bump Reg.SMC_FIFODROP 1
        else { s with recv := { s.recv with fifo := s.recv.fifo ++ [p] } }.showCases

/-- A failure that the SMC has found itself opens a case (R545, R571): one that a spare can take goes to recovery, any other is
NOT_ABSORBED. -/
def State.ownFailure (s : State) : State :=
  match s.recv.own, s.freeSlot with
  | (p, c, spare) :: t, some k =>
    let s := { s with recv := { s.recv with own := t } }
    let s := s.openCase k (4 * 2 ^ 28 + s.dev * 2 ^ 20 + c * 2 ^ 7) p
    if spare then s.setCase k { s.case k with core := c, subst := true } else s.notAbsorbed k p
  | _, _ => s

/-- The oldest report of the FIFO is taken up where a slot is free. -/
def State.fromFifo (s : State) : State :=
  match s.recv.fifo, s.freeSlot with
  | p :: t, some _ => ({ s with recv := { s.recv with fifo := [] } }.intake p false) |> fun (s : State) => { s with recv := { s.recv with fifo := s.recv.fifo ++ t } }.showCases
  | _, _ => s

/-- FAULT_REPORT_INTAKE (R599, R600): the report at the SMC's attachment; with none there, what waits. In Safe state reports
are discarded (R606); while the SMC is halted the intake pauses (R655). -/
def execFaultReportIntake (s : State) : Out :=
  .next <|
    if s.smcHalted then s
    else match s.ctrlHead 1060 4 with
      | some (v, p) =>
        let s := s.takeInbox 1060 v
        if !p.good then s.crcFail 18 p
        else
          let s := s.retire p.ret
          if s.bit Reg.PWR_DEVSTAT 29 then s else s.intake p true
      | none =>
        if s.bit Reg.PWR_DEVSTAT 29 then s
        else if !s.recv.own.isEmpty then s.ownFailure
        else s.fromFifo

/-- The member that holds a waiting suspect, as a FAULT suspect (R223, R601). -/
def State.holderOf (s : State) (c : Nat) : Nat :=
  let b := s.blockOf c
  let w := if b.2.1 then (s.core c).devSrc else mapGet 0 (s.core c).hzSrc b.2.2
  bits w 13 10 * 2 ^ 13 + (if bitAt w 14 then 4 * 2 ^ 10 else bits w 9 0)

/-- HANG_CHECK_EXPIRY (R601, R656). -/
def execHangCheckExpiry (k : Nat) (s : State) : Out :=
  .next <|
    if 16 ≤ k || !s.bit (Reg.SMC_CASE k 0) 31 || s.caseState k ≠ 1 || (s.case k).chain.isSome then s
    else
      let key := s.caseKey k
      let c := suspectUnit key
      if s.smcHalted || (suspectClass key = 0 && s.phase c = 4) then s.closeCase k 5
      else if s.checkedStep key ≠ (s.case k).sealed0 then s.closeCase k 4
      else if suspectClass key ≠ 0 then s.closeCase k 6
      else
        let b := (s.blockOf c).1
        if b = 1 || b = 4 || b = 5 || b = 6 then s.closeCase k 5
        else if b = 2 || b = 3 then
          (if s.openCases.any (fun j => j != k && suspectOf (s.caseKey j) == s.holderOf c) then s.closeCase k 5
           else s.setCase k { s.case k with chain := some (s.holderOf c) })
        else s.setCaseState k 0

/-- Region of the recovery copy (R598). -/
def copyBase : Nat := 0x300300000

/-- The sections that fit: one that does not is left out with every later one. -/
def copyFits : Nat → List (AlmEntry × List Byte) → List (AlmEntry × List Byte)
  | _, [] => []
  | room, x :: t => if 32 + x.2.length ≤ room then x :: copyFits (room - 32 - x.2.length) t else []

/-- The 32 bytes of an Almanac entry (R46). -/
def AlmEntry.bytes (e : AlmEntry) : List Byte :=
  leBytes 1 e.type ++ leBytes 1 e.scope ++ leBytes 1 e.enc ++ [0] ++ leBytes 2 e.first ++ leBytes 2 e.count ++ leBytes 2 e.stride ++ [0, 0] ++
    leBytes 4 e.dest ++ leBytes 4 e.off ++ leBytes 4 e.len ++ leBytes 4 e.exp ++ leBytes 4 e.crc

/-- RECOVERY_COPY_WRITE (R598): the next section of the active image is written into the copy. -/
def execRecoveryCopyWrite (s : State) : Out :=
  .next <|
    match s.img.loaded with
    | none => s
    | some _ =>
      if s.imgState ≠ 3 || s.smcHalted || s.domState 175 = 4 then s
      else
        let all := s.img.kept
        let fit := copyFits 0x900000 all
        let i := s.recv.copied
        match fit[i]? with
        | none => s.wr Reg.SMC_RECCOVER (BitVec.ofNat 32 (2 ^ 31 + (if fit.length < all.length then 2 ^ 30 else 0) + s.rf Reg.SMC_RECCOVER 23 0))
        | some (e, b) =>
          let off := 32 * fit.length + ((fit.take i).map (fun x => x.2.length)).sum
          let s := (s.store (copyBase + 32 * i) { e with off := off }.bytes).store (copyBase + off) b
          let s := { s with recv := { s.recv with copied := i + 1 } }
          let done := i + 1 = fit.length
          s.wr Reg.SMC_RECCOVER (BitVec.ofNat 32 ((if done then 2 ^ 31 else 0) + (if done && fit.length < all.length then 2 ^ 30 else 0) +
            (off + b.length) / 1024))

/-- Entries of the copy written so far, each with its expanded contents. -/
def State.copyEntries (s : State) : List (AlmEntry × List Byte) :=
  (List.range s.recv.copied).filterMap (fun i =>
    let b := s.bytes (copyBase + 32 * i) 32
    let f := fun o n => numAt b o n
    let e : AlmEntry := ⟨f 0 1, f 1 1, f 2 1, f 4 2, f 6 2, f 8 2, f 12 4, f 16 4, f 20 4, f 24 4, f 28 4, true⟩
    let x := s.bytes (copyBase + e.off) e.len
    if e.enc = 0 then some (e, x) else (zeroRun (x.length + 1) e.exp x).map (fun y => (e, y)))

/-- The contents that the copy has for `n` bytes at offset `o` of target `t` of a scope. -/
def State.copyOf (s : State) (scope t o n : Nat) : Option (List Byte) :=
  (s.copyEntries.find? (fun x => x.1.scope == scope && x.1.targets.contains t && x.1.dest ≤ o && o + n ≤ x.1.dest + x.1.exp)).map
    (fun x => (x.2.drop (o - x.1.dest)).take n)

/-- A core offset holds microcode, tables or the side list (R587): a wrong word there needs the copy. -/
def State.needsCopy (s : State) (c o : Nat) : Bool :=
  (0x20000 ≤ o && o < 0x24000) ||
    (let b := 64 * s.rf (Reg.NCR_SIDE c) 8 0
     0x28000 + b ≤ o && o < 0x28000 + b + 2 * s.rf (Reg.NCR_SIDE c) 28 16)

/-- Uncorrectable words of a core that the copy must give. -/
def State.badCoreWords (s : State) (c : Nat) : List Nat :=
  ((s.upsets.filter (fun (e : Nat × Nat) => 2 ≤ e.2 && coreWin c ≤ e.1 && e.1 < coreWin c + 0x30000)).map (fun e => e.1 - coreWin c)).filter (s.needsCopy c)

/-- Uncorrectable or poisoned words of a vault's synaptic storage outside its journal. -/
def State.badVaultWords (s : State) (p : Nat) : List Nat :=
  let lo := vltWin p
  let j := 16 * s.rf (Reg.VLT_JRNL p) 20 0
  let offs := ((s.upsets.filter (fun (e : Nat × Nat) => 2 ≤ e.2)).map (·.1) ++ (s.poison.filter (fun (e : Nat × Bool) => e.2)).map (·.1)).filter
    (fun a => lo ≤ a && a < lo + 0x1800000)
  (offs.map (· - lo)).filter (fun o => !(j ≤ o && o < j + 16 * s.rf (Reg.VLT_JLEN p) 20 0))

/-- A vault word lies in a plastic segment that has passed its first learning pass (R587). -/
def State.learnedWord (s : State) (p o : Nat) : Bool :=
  (s.rd (Reg.TMP_EPOCHDONE p)).toNat != 0xFFFFFFFF && (s.plasticWords p).any (fun w => w / 16 == o / 16)

/-- The copy covers every faulty word of a partition (R603 order 1). -/
def State.covered (s : State) (p : Nat) : Bool :=
  ((List.range 64).map (lcnOf p)).all (fun c => (s.badCoreWords c).all (fun o => (s.copyOf 1 c o 4).isSome)) &&
    (s.badVaultWords p).all (fun o => !s.learnedWord p o && (s.copyOf 3 p o 16).isSome)

/-- The copy covers what a core that replaces another takes (R611): an image without such a section needs none. -/
def State.coreCovered (s : State) : Bool := s.bit Reg.SMC_RECCOVER 31 && !s.bit Reg.SMC_RECCOVER 30

/-- Band row directly north or south of another (R572). -/
def bandNeighbours (d : Nat) : List Nat :=
  let row := d / 8 / 4 * 8 + d % 8
  let dom := fun r => 8 * (r / 8 * 4 + d / 8 % 4) + r % 8
  (if 0 < row then [dom (row - 1)] else []) ++ (if row < 31 then [dom (row + 1)] else [])

/-- A substitution begins (R572): the row and its neighbours grant no credit until their buffers are empty. -/
def State.swapBegin (s : State) (c : Nat) : State :=
  let d := rowDom c
  { s with rst := { s.rst with swap := some (d, s.corePos c), hold := d :: bandNeighbours d, copies := [] } }

/-- Routers of a band row, the pass-through one included. -/
def State.bandRouters (s : State) (d : Nat) : List Nat :=
  let row := d / 8 / 4 * 8 + d % 8
  (List.range 9).map (fun i => s.nodeAt row (9 * (d / 8 % 4) + i))

/-- No packet is in flight through the held band rows (R244, R572): every buffer of their routers is empty, and so is every wire
that leads into them from another router. -/
def State.bandEmpty (s : State) : Bool :=
  s.rst.hold.all (fun d => (s.bandRouters d).all (fun n =>
    (s.router n).bufs.all (fun e => e.2.isEmpty) && (List.range 4).all (fun p => (s.feeds n p).isNone || (mapGet [] s.wires (8 * n + p)).isEmpty)))

/-- The new map is written and the hold released (R572); the repair record follows (R567). -/
def State.swapEnd (s : State) : State :=
  match s.rst.swap with
  | none => s
  | some (d, pos) =>
    let s := (s.wf (Reg.RST_MAP d) 16 13 pos).wf (Reg.RST_MAP d) (17 + pos) (17 + pos) 0
    { s with rst := { s.rst with swap := none, hold := [], copies := [] } }.repairSync

/-- BAND_ROW_DRAINED (R572): the healthy cores whose position changes are moved, nearest the old spare first. -/
def execBandRowDrained (s : State) : Out :=
  .next <|
    match s.rst.swap with
    | none => s
    | some (d, pos) =>
      if s.rst.hold.isEmpty || !s.rst.copies.isEmpty || !s.bandEmpty then s
      else
        let sp := s.sparePos d
        let between := if sp < pos then (List.range (pos - sp - 1)).map (sp + 1 + ·) else (List.range (sp - pos - 1)).map (fun i => sp - 1 - i)
        let cs := between.map (s.coreAt d)
        if cs.isEmpty then s.swapEnd else { s with rst := { s.rst with copies := cs } }

/-- CORE_COPY_DONE (R572): after the last the map is rewritten and the hold released, while no packet is in flight (R244). -/
def execCoreCopyDone (s : State) : Out :=
  .next <|
    match s.rst.copies with
    | [] => s
    | _ :: t => if !t.isEmpty then { s with rst := { s.rst with copies := t } } else if s.bandEmpty then s.swapEnd else s

/-- ISOLATION_COMPLETE (R575). -/
def execIsolationComplete (p : Nat) (s : State) : Out :=
  .next <| if p < 16 && s.bit Reg.RST_ISO (16 + p) && s.recovering p then s.setBit Reg.RST_ISO p else s

/-- The case of a partition that waits for a recovery. -/
def State.dueCase (s : State) (p : Nat) : Option Nat :=
  s.openCases.find? (fun k => s.casePart k == p && (s.caseState k == 0 || s.caseState k == 4))

/-- The step whose work a fault interrupted (R603): of a core that is suspected, else the latest of the partition. -/
def State.faultStep (s : State) (k p : Nat) : Nat :=
  let key := s.caseKey k
  if suspectClass key = 0 && s.stepOf (suspectUnit key) != 0xFFFFFFFF then s.stepOf (suspectUnit key)
  else (s.partCores p).foldl (fun m c => if m = 0xFFFFFFFF || stepGt (s.stepOf c) m then s.stepOf c else m) 0xFFFFFFFF

/-- A partition is in its epoch-end pass (R355), which a recovery awaits (R373). -/
def State.inPass (s : State) (p : Nat) : Bool := s.tmpPhase p != 0 || (s.temper p).ckBusy

/-- The checkpoint of a partition cannot be restored (R603 order 1), as flags of a CASE record: JFULL 4, CKFAIL 8. -/
def State.ckBarred (s : State) (p : Nat) : Option Nat :=
  if s.bit (Reg.VLT_CKSTAT p) 29 then some 4
  else if !s.bit (Reg.VLT_CKSTAT p) 31 then some (if s.bit (Reg.VLT_CKSTAT p) 28 then 8 else 0)
  else none

/-- The checks of order 1 fail (R603, R607), as flags of a CASE record; none where they pass. In an epoch-end pass the checkpoint is
judged when the pass that writes it has ended (R373). -/
def State.recoveryBarred (s : State) (k p : Nat) : Option Nat :=
  let recent := s.recv.begun.filter (fun (e : Nat × Nat) => e.1 == p && s.time < e.2 + 1000000000)
  match (if s.inPass p then none else s.ckBarred p) with
  | some flags => some flags
  | none => if 3 ≤ recent.length || !s.covered p || ((s.case k).subst && !s.coreCovered) then some 0 else none

/-- RECOVERY_BEGIN (R603 orders 1 and 2, R604, R606, R656). -/
def execRecoveryBegin (p : Nat) (s : State) : Out :=
  .next <|
    if 16 ≤ p || s.smcHalted || s.recovering p || s.heldPart p then s
    else match s.dueCase p with
      | none => s
      | some k =>
        let busy := ((List.range 16).filter s.recovering).length
        if s.pwr.pwrfail then s
        else if 4 ≤ busy || s.rst.swap.isSome && (s.case k).subst || (s.partCores p).any (fun c => s.phase c == 4) then s.setCaseState k 4
        else match s.recoveryBarred k p with
          | some flags => (s.setCase k { s.case k with flags := flags }).notAbsorbed k p
          | none =>
            let e := (s.rd (Reg.VLT_CKSTEP p)).toNat
            let s := (s.setCase k { s.case k with e := e, f := s.faultStep k p }).setCaseState k 2
            let s := { s with recv := { s.recv with begun := (s.recv.begun.filter (fun (b : Nat × Nat) => s.time < b.2 + 1000000000)) ++ [(p, s.time)] } }
            let s := ((s.setBit Reg.SMC_RECSTAT (16 + p)).setBit Reg.RST_ISO (16 + p)).wf Reg.RST_ISO p p 0
            let s := (s.partCores p).foldl State.wrapCore s
            let s := if (s.case k).subst then s.swapBegin (s.case k).core else s
            s.requestAll (partDoms p)

/-- A faulty word rewritten from the copy. -/
def State.fixWord (s : State) (scope t o n a : Nat) : State :=
  match s.copyOf scope t o n with | some b => s.store a b | none => s

/-- What a core that replaces another takes (R611): configuration and stores from the copy, horizon registers from the HORIZ
section. -/
def State.refill (s : State) (c : Nat) : State :=
  let sealed_ := s.rd (Reg.NCR_SEALED c)
  let keep := s.core c
  let regs := s.regs
  let new : CoreInt :=
    { CoreInt.init with
      replay := keep.replay, taps := keep.taps, tapLost := keep.tapLost, tapSeq := keep.tapSeq, tapOut := keep.tapOut,
      tapFull := keep.tapFull, tapHigh := keep.tapHigh, sends := keep.sends, fwdSeq := keep.fwdSeq, fwds := keep.fwds, stopped := keep.stopped }
  let s := (s.wipe (coreWin c) (coreWin c + 0x310000)).setCore c new
  let s := s.copyEntries.foldl (fun s x =>
    if x.1.scope = 1 && x.1.targets.contains c && x.1.dest < 0x310000 then s.rawWrite (coreWin c + x.1.dest) x.2.length x.2 else s) s
  let b := s.img.horiz
  let n := numAt b 2 2
  let w := fun k => BitVec.ofNat 32 (numAt b (8 + 8 * n + 64 * c + 4 * k) 4)
  let s := (List.range 8).foldl (fun s k => (s.wr (Reg.NCR_HZLIST c k) (w k)).wr (Reg.NCR_HZRPT c k) (w (8 + k))) s
  let s := [Reg.NCR_STEP c, Reg.NCR_STAT c].foldl (fun s a => s.wr a (mapGet (regReset a) regs a)) s
  s.wr (Reg.NCR_SEALED c) sealed_

/-- Contexts of a core come back from the checkpoint reserve (R592, R603 order 5). -/
def State.ckBack (s : State) (p c : Nat) : State :=
  let k := cipOf c
  let w := coreWin c
  let off := 0x1800000 + 0x20000 * k
  let s := ((s.ckWords p 8192).vaultRead p off 0x10000).vaultRead p (off + 0x10000) 0x10000
  let half := fun o => (s.mem.filter (fun e => ckAddr p k o ≤ e.1 && e.1 < ckAddr p k o + 0x10000)).map (fun e => (e.1 - ckAddr p k o + w + o, e.2))
  let kept := mapClear s.mem w (w + 0x20000)
  { s with mem := (half 0 ++ half 0x10000).foldl (fun m e => mapSet 0 m e.1 e.2) kept }

/-- A snapshot record is reloaded (R595, R596): QUEUED into the event queue, PARKED into the pool, TAPS into the counts. -/
def State.reload (s : State) (p r : Nat) : State :=
  let c := lcnOf p (bits r 127 122)
  let w0 := bits r 31 0
  let words := if bits w0 31 30 = 0 then [w0] else [w0, bits r 63 32]
  match bits r 121 120 with
  | 1 => s.eqPut c words
  | 2 => s.park c (bits r 95 64 % 128) words
  | 3 =>
    let cnt := [bits r 15 0, bits r 31 16, bits r 47 32, bits r 63 48]
    (List.range 4).foldl (fun s i => s.wr (Reg.NCR_TAPCNT c (bits r 119 112 + i))
      (BitVec.ofNat 32 ((if bitAt r (108 + i) then 2 ^ 16 else 0) + cnt.getD i 0))) s
  | _ => s

/-- A core stands at the checkpoint again (R603 orders 3 to 5): it has sealed step e - 1 and holds nothing. -/
def State.restoreCore (s : State) (p e c : Nat) (first : Bool) : State :=
  let k := s.core c
  let r := match k.replay with
    | some (f, n, m) => if !first && s.stepOf c = (f + 1) % 2 ^ 32 then some (f, (s.rd (Reg.RTR_INJCNT c)).toNat, k.sends) else some (f, n, m)
    | none => none
  let s := (s.badCoreWords c).foldl (fun s o => s.fixWord 1 c o 4 (coreWin c + o)) s
  let s := { s with upsets := mapClear s.upsets (coreWin c) (coreWin c + 0x30000) }
  let s := s.setCore c { k with eqHead := 0, eqPresent := 0, overflowed := false, cur := none, active := [], plan := [], run := none,
                                stopped := false, timedOut := false, relDone := [], popped := [], selUp := [], fwdWait := [], replay := r }
  let s := ((s.wf (Reg.NCR_EQSTAT c) 12 0 0).poolRebuild c).ckBack p c
  let t := BitVec.ofNat 32 ((e + 2 ^ 32 - 1) % 2 ^ 32)
  let win := (s.rd (Reg.NCR_TAPWIN c)).toNat
  let back := if stepGe e (s.windowFirst win) then 0 else (stepSub (s.windowFirst win) e + s.windowLen - 1) / s.windowLen
  ((((s.wr (Reg.NCR_STEP c) t).wr (Reg.NCR_SEALED c) t).setPhase c 2).wr (Reg.NCR_TAPWIN c) (BitVec.ofNat 32 (win - back)))

/-- Changes committed that a partition has not yet applied (R228, R603 order 6). -/
def State.applyMissed (s : State) (p : Nat) : State :=
  match s.castOf 1 with
  | none => s
  | some ch =>
    (s.partUnits p).foldl (fun s n =>
      if (s.part n).gen = ch.gen || (s.part n).committed = some ch then s
      else
        let s := s.setPart n { s.part n with prepared := none, committed := some ch }
        if 1024 ≤ n && n < 2048 then (if ch.kinds.contains .bankSwap then s.routerSwap (n - 1024) ch.gen else s).applyPart n else s) s

/-- The recovery case of a partition. -/
def State.recCase (s : State) (p : Nat) : Option Nat :=
  s.openCases.find? (fun k => s.casePart k == p && (s.caseState k == 2 || s.caseState k == 3))

/-- Clamps counted by the cores of a partition (R98, R605). -/
def State.clampsOf (s : State) (p : Nat) : Nat := ((s.partCores p).map (fun c => (s.rd (Reg.NCR_SATCNT c)).toNat)).sum

/-- RECOVERY_RESTORE (R603 orders 3 to 7): once the wrappers are closed, the pass has ended and the substitution is made. -/
def execRecoveryRestore (p : Nat) (s : State) : Out :=
  .next <|
    match s.recCase p with
    | none => s
    | some k =>
      let x := s.case k
      if 16 ≤ p || !s.recovering p || !s.bit Reg.RST_ISO p || s.inPass p || (x.subst && s.rst.swap.isSome) ||
          mapGet 0 s.recv.replay p ≠ 0 || !(partDoms p).all s.domOn || s.smcHalted then s
      else match s.ckBarred p with
      | some flags => (s.setCase k { x with flags := flags }).notAbsorbed k p
      | none =>
        let first := x.again.isNone && !x.subst
        let e := (s.rd (Reg.VLT_CKSTEP p)).toNat
        let s := if x.subst then s.refill x.core else s
        let s := (s.badVaultWords p).foldl (fun s o => s.fixWord 3 p o 16 (vltWin p + o)) s
        let s := (s.partCores p).foldl (fun s c => s.restoreCore p e c first) s
        let n := s.rf (Reg.VLT_JUSED p) 20 0
        let s := (s.ckWords p n).vaultRead p (16 * s.rf (Reg.VLT_JRNL p) 20 0) (16 * n)
        let s := (List.range n).foldl (fun s i => if bits (s.journalRec p i) 121 120 = 0 then s else s.reload p (s.journalRec p i)) s
        let s := match x.again, x.guilty with
          | some _, some i => s.putNum (ctxAddr x.core i) 16 (putBits (s.ctx x.core i) 114 114 1)
          | _, _ => s
        let s := s.applyMissed p
        let cs := s.partCores p
        let s := { s with recv := { s.recv with replay := mapSet 0 s.recv.replay p (x.f + 1), fed := s.recv.fed.filter (fun (b : Nat × Nat) => !cs.contains b.1) } }
        (s.setCase k { x with e := e, clamps := s.clampsOf p }).setCaseState k 2

/-- The next record of a core that its replay may be fed (R603 order 7): one of a step it has been admitted to; every one once it
has sealed step f. -/
def State.feedable (s : State) (f c : Nat) : Option Nat :=
  match s.feedNext c with
  | none => none
  | some i =>
    let r := s.journalRec (partOf c) i
    let n := entryWords (bits r 31 0)
    if (stepGe (s.stepOf c) (bits r 95 64) || stepGe (s.rd (Reg.NCR_SEALED c)).toNat f) && s.rf (Reg.NCR_EQSTAT c) 12 0 + n ≤ 4096 then some i else none

/-- REPLAY_ARRIVAL_FEED (R603 order 7, R605): the first record in journal order that a core may be fed. -/
def execReplayArrivalFeed (p : Nat) (s : State) : Out :=
  .next <|
    match s.recCase p with
    | none => s
    | some k =>
      let f := (s.case k).f
      if mapGet 0 s.recv.replay p = 0 then s
      else
        let next := (s.partCores p).filterMap (fun c => (s.feedable f c).map (fun i => (c, i)))
        match next.foldl (fun (b : Option (Nat × Nat)) e => match b with | none => some e | some y => if e.2 < y.2 then some e else some y) none with
        | none => s
        | some (c, i) =>
          let r := s.journalRec p i
          let w0 := bits r 31 0
          let s := s.eqPut c (if bits w0 31 30 = 0 then [w0] else [w0, bits r 63 32])
          { s with recv := { s.recv with fed := mapSet 0 s.recv.fed c (i + 1) } }

/-- A partition rejoins (R573, R603 order 8, R656): wrappers open, and halt bits take effect. -/
def State.openPart (s : State) (p : Nat) : State :=
  let s := ((s.wf Reg.SMC_RECSTAT (16 + p) (16 + p) 0).wf Reg.RST_ISO (16 + p) (16 + p) 0).wf Reg.RST_ISO p p 0
  let s := { s with recv := { s.recv with replay := mapSet 0 s.recv.replay p 0, catching := true } }
  let s := (s.partCores p).foldl (fun s c => if s.haltBit c && s.waiting c then s.setPhase c 4 else s) s
  (s.dbgShow.applyMissed p).drainTry

/-- RECOVERY_REJOIN (R603, R605, R609, R610): step f is sealed and feeding has caught up with the journal. -/
def execRecoveryRejoin (p : Nat) (s : State) : Out :=
  .next <|
    match s.recCase p with
    | none => s
    | some k =>
      let x := s.case k
      let cs := s.partCores p
      if mapGet 0 s.recv.replay p = 0 || s.smcHalted || !cs.all (fun c => !(s.core c).stopped && s.waiting c && stepGe (s.rd (Reg.NCR_SEALED c)).toNat x.f && (s.feedNext c).isNone) then s
      else
        let inexact := x.clamps < s.clampsOf p
        let s := s.setCase k { x with flags := x.flags ||| (if inexact then 1 else 0) }
        let s := if inexact then s.bump Reg.SMC_INEXACTCNT 1 else s
        let us := (s.time - x.opened) / 1000
        let s := (s.bump Reg.SMC_RECCNT 1).wr Reg.SMC_RECLAST (BitVec.ofNat 32 us)
        let s := if (s.rd Reg.SMC_RECMAX).toNat < us then s.wr Reg.SMC_RECMAX (BitVec.ofNat 32 us) else s
        let s := if x.subst then s.bump Reg.SMC_SUBCNT 1 else s
        let s := s.openPart p
        let s := s.closeCase k (if x.subst then 3 else if x.guilty.isSome then 2 else 1)
        (s.openCases.filter (fun j => s.casePart j == p && (s.caseState j == 0 || s.caseState j == 4))).foldl (fun s j => s.closeCase j 1) s

/-- The core of a recovering partition whose run has aborted again during the replay (R608). -/
def State.recurring (s : State) (p : Nat) : Option Nat :=
  if mapGet 0 s.recv.replay p = 0 then none else (s.partCores p).find? (fun c => (s.core c).stopped && s.bit (Reg.NCR_ERRSTAT c) 5)

/-- SUSPECT_SEARCH (R608 to R610): context `ctx` is the first suspect whose run aborts alone, and is quarantined; where none
aborts, the core is marked defective and a spare takes its place. -/
def execSuspectSearch (p ctx : Nat) (guilty : Bool) (s : State) : Out :=
  .next <|
    match s.recCase p, s.recurring p with
    | some k, some c =>
      if s.smcHalted then s
      else
        let x := s.case k
        let s := { s.setCaseState k 3 with recv := { s.recv with replay := mapSet 0 s.recv.replay p 0 } }
        if guilty then
          (s.bump Reg.SMC_QUARCNT 1).setCase k { x with again := some (s.stepOf c), core := c, guilty := some (s.govern c (ctx % 8192)), flags := x.flags ||| 2 }
        else
          let d := rowDom c
          let pos := s.corePos c
          let free := s.spareFree d
          let s := (s.wf (Reg.PWR_DSTAT d) pos pos 1).wf (Reg.RST_MAP d) pos pos 1
          if free && s.coreCovered then
            (s.setCase k { x with again := some (s.stepOf c), core := c, guilty := none, subst := true }).swapBegin c
          else s.notAbsorbed k p
    | _, _ => s

/-- AVAILABILITY_SAVE (R618, R655): the counters become the MRAM totals. -/
def execAvailabilitySave (s : State) : Out :=
  .next <|
    if s.smcHalted || s.domState 175 = 4 then s
    else { s with recv := { s.recv with totals := (List.range 4).map (fun i => s.rd48 (Reg.SMC_AVRUN + 8 * i)) } }

/-- SMC_REQUEST_RECEIVE (R324, R465, R466, R600): the firmware's own protocol, or the answer NOQUEUE. -/
def execSmcRequestReceive (s : State) : Out :=
  .next <|
    match s.smcHead with
    | none => s
    | some (p, ns) =>
      if s.smcHalted then s
      else if !p.good then (s.takeInbox 1060 3).crcFail 18 p
      else match ns with
        | 1 :: _ => if s.notFirst && p.srcDev = 0 then s else s.smcTake p 1
        | 2 :: gen :: acks :: naks :: _ => (s.smcTake p 0).total p.srcDev gen acks naks
        | 3 :: gen :: done :: t :: _ => (s.smcTake p 0).outcome gen (done == 1) t
        | 4 :: key :: count :: wits =>
          let w := wits.headD 0
          let rep : Packet := { p with cls := if bitAt w 14 then 7 else 3, key := key % 2 ^ 32, payload := wits.getD 1 0 % 2 ^ 16 * 2 ^ 16 + count % 2 ^ 16,
                                       srcDev := bits w 13 10, srcLcn := bits w 9 0, data := [], ret := .init }
          (s.smcTake p 0).intake rep true
        | 5 :: n :: _ => (s.smcTake p 0).deviceLoaded p.srcDev n
        | _ => s.smcTake p 1

end Sys2Proof.Machine
end

