-- ==== Sys2Proof/Machine/Vernier.lean ====
section
/-! DEFINITION. The Vernier metrology partition (R473 to R507): start and faults, encoders, profiles, measurement by firmware of
major version 0x01, the mailbox, the indicator port, the sealed MRAM, the audit trail and the maker commands. -/

namespace Sys2Proof.Machine

/-- Address of the mailbox and its mirror (R488, R506). -/
def mailbox : Nat := 0x4000000
/-- Address of the update buffer (R506). -/
def updBuffer : Nat := 0x4101000
/-- Storage of the sealed MRAM, which has no device address (R496). -/
def sealed : Nat := 0x21000000000

/-- The partition's 512 KiB SRAM (R27), which only the pair reaches: it has no device address. -/
def vrnSram : Nat := 0x21100000000

/-- VRN_STAT.VSTATE: 0 OFF, 1 BOOT, 2 RUN, 3 UPDATE, 4 FAULT. -/
def State.vstate (s : State) : Nat := s.rf Reg.VRN_STAT 31 29
/-- SEAL_N is low by the partition's own sample (R500). -/
def State.sealLow (s : State) : Bool := s.bit Reg.VRN_STAT 28
/-- Vernier timebase: 5 ns steps (R473). -/
def State.vtime (s : State) : Nat := s.vrn.ns / 5 % 2 ^ 64

/-- A bit of VRN_IRQSTAT becomes set; vector 2 where it is enabled (R507). -/
def State.vrnIrq (s : State) (i : Nat) : State :=
  if s.bit Reg.VRN_IRQSTAT i then s
  else
    let t := s.setBit Reg.VRN_IRQSTAT i
    if s.bit Reg.VRN_IRQCFG 31 && s.bit Reg.VRN_IRQCFG i then t.msix 2 else t

/-- VSTATE changes. -/
def State.setVstate (s : State) (v : Nat) : State :=
  if s.vstate = v then s else (s.wf Reg.VRN_STAT 31 29 v).vrnIrq 0

/-- A commit record of the sealed MRAM (R496); the order of its fields after MAGIC is the model's (assumption log 25). -/
structure Commit where
  events  : Nat
  audUsed : Nat
  fwSlot  : Nat
  parSlot : Nat
  lockCnt : Nat
  gen     : Nat
  deriving DecidableEq, Repr

/-- The first 28 bytes of a commit record. -/
def Commit.body (c : Commit) : List Byte :=
  leBytes 4 0x544D4356 ++ leBytes 4 c.events ++ leBytes 2 c.audUsed ++ leBytes 1 c.fwSlot ++ leBytes 1 c.parSlot ++ leBytes 4 c.lockCnt ++
    leBytes 4 c.gen ++ zeros 8

/-- Address of commit record `k`. -/
def commitAddr (k : Nat) : Nat := sealed + 0x150000 + 32 * k

/-- Commit record `k`, where it is valid. -/
def State.commitAt (s : State) (k : Nat) : Option Commit :=
  let a := commitAddr k
  if s.num a 4 = 0x544D4356 && s.num (a + 28) 4 = crc32 (s.bytes a 28) then
    some ⟨s.num (a + 4) 4, s.num (a + 8) 2, s.num (a + 10) 1 % 2, s.num (a + 11) 1 % 2, s.num (a + 12) 4, s.num (a + 16) 4⟩
  else none

/-- The commit record in force with its position: the valid one with the larger GEN. -/
def State.inForce (s : State) : Option (Nat × Commit) :=
  match s.commitAt 0, s.commitAt 1 with
  | some a, some b => if a.gen < b.gen then some (1, b) else some (0, a)
  | some a, none => some (0, a)
  | none, some b => some (1, b)
  | none, none => none

/-- A change writes the record that is not in force, with GEN one more (R496). -/
def State.putCommit (s : State) (k : Nat) (c : Commit) : State :=
  let b := { c with gen := c.gen + 1 }.body
  s.store (commitAddr (1 - k)) (b ++ leBytes 4 (crc32 b))

/-- Address of a firmware slot. -/
def vfwAddr (k : Nat) : Nat := sealed + 0x80000 * k
/-- Address of a parameter slot. -/
def vparAddr (k : Nat) : Nat := sealed + 0x100000 + 0x20000 * k

/-- The code of the package in a slot. -/
def State.vfwCode (s : State) (k : Nat) : List Byte := s.bytes (vfwAddr k + 64) (min 393152 (s.num (vfwAddr k + 8) 4))

/-- The package in a slot is valid (R503). -/
def State.vfwOk (s : State) (k : Nat) : Bool :=
  let a := vfwAddr k
  let n := s.num (a + 8) 4
  s.num a 4 == 0x50574656 && 1 ≤ n && n ≤ 393152 && s.num (a + 12) 4 == crc32 (s.vfwCode k) && s.bytes (a + 32) 32 == sha256 (s.vfwCode k)

/-- A field of the parameter set in slot `k`. -/
def State.par (s : State) (k off n : Nat) : Nat := s.num (vparAddr k + off) n
/-- A signed 32-bit field of the parameter set. -/
def State.parS (s : State) (k off : Nat) : Int := toSigned 32 (s.par k off 4)

/-- The parameter set in a slot passes the check of R487. -/
def State.vparOk (s : State) (k : Nat) : Bool :=
  let p := s.par k
  let len := p 8 4
  let zero := fun off n => (s.bytes (vparAddr k + off) n).all (· == 0)
  p 0 4 == 0x52415056 && 33792 ≤ len && len ≤ 131072 && p 12 4 == crc32 (s.bytes (vparAddr k + 64) (len - 64)) &&
    zero 16 48 && [1, 2, 4].contains (p 64 1) && zero 65 1 && 80 ≤ p 66 2 && p 66 2 ≤ 4500 && p 69 1 < 32 && p 70 1 < 16 && [0x2A, 0x2B, 0x2C].contains (p 71 1) &&
    2 ≤ p 72 2 && p 72 2 ≤ 4096 && 5 ≤ p 74 2 && p 74 2 ≤ 256 && p 76 2 ≤ 254 && zero 78 2 &&
    p 80 1 ≤ 7 && (p 81 1 ≤ 7 || p 81 1 == 0xFF) && 1 ≤ p 82 1 && zero 83 1 &&
    1 ≤ p 96 2 && p 96 2 ≤ 1000 && 1 ≤ p 98 2 && zero 136 888

/-- The parameter slot in force. -/
def State.parSlot (s : State) : Nat := match s.inForce with | some (_, c) => c.parSlot | none => 0

/-- Header slot 0 of the mailbox (R489). -/
def State.slot0 (s : State) : List Byte :=
  let c : Commit := match s.inForce with | some (_, c) => c | none => ⟨0, 0, 0, 0, 0, 0⟩
  let a := vfwAddr c.fwSlot
  let b := leBytes 4 0x4D4E5256 ++ leBytes 4 s.vrn.seq ++ leBytes 1 s.vstate ++
    leBytes 1 (s.sealLow.toNat + (if c.audUsed = 1024 then 2 else 0)) ++ leBytes 2 c.audUsed ++ leBytes 4 c.events ++
    s.bytes (a + 4) 4 ++ s.bytes (a + 12) 4 ++ s.bytes (a + 32) 32 ++ zeros 4
  b ++ leBytes 4 (crc32 b)

/-- Slot 1 of the mailbox (R489). -/
def State.slot1 (s : State) : List Byte :=
  let c : Commit := match s.inForce with | some (_, c) => c | none => ⟨0, 0, 0, 0, 0, 0⟩
  let b := leBytes 4 s.vrn.objs ++ leBytes 4 s.vrn.rejs ++ leBytes 4 (s.par c.parSlot 4 4) ++ leBytes 4 (s.par c.parSlot 12 4) ++
    leBytes 4 c.lockCnt ++ zeros 40
  b ++ leBytes 4 (crc32 b)

/-- Slot 0 is rewritten. -/
def State.putSlot0 (s : State) : State := s.store mailbox s.slot0
/-- Slot 1, then slot 0 are rewritten (R491). -/
def State.putHeads (s : State) : State := (s.store (mailbox + 64) s.slot1).putSlot0

/-- A record takes the next SEQ and its OBJNO and is written to its slot, CRC last; then slot 1, then slot 0 (R490, R491). -/
def State.publish (s : State) (r : List Byte) : State :=
  let t := leNat (r.take 1)
  let v := s.vrn
  let v := { v with seq := v.seq + 1, objs := v.objs + (if t = 1 then 1 else 0), rejs := v.rejs + (if t = 2 then 1 else 0) }
  let b := r.take 4 ++ leBytes 4 v.seq ++ leBytes 4 (if t = 3 then 0 else v.objs + v.rejs) ++ (r.drop 12).take 48
  ({ s with vrn := v }.store (mailbox + 64 * (2 + v.seq % 62)) (b ++ leBytes 4 (crc32 b))).putHeads.vrnIrq 1

/-- RESULT_RECORD_PUBLISH (R486, R491). -/
def execResultRecordPublish (s : State) : Out :=
  .next <|
    match s.vrn.out with
    | [] => s
    | r :: t => if s.vstate = 2 then { s with vrn := { s.vrn with out := t } }.publish r else s

/-- A record without SEQ, OBJNO and CRC: type, flags, cause, event counter, dimensions and end count (R490). -/
def State.recordBytes (s : State) (type flags cause : Nat) (l w h endCnt : Nat) : List Byte :=
  let events := match s.inForce with | some (_, c) => c.events | none => 0
  leBytes 1 type ++ leBytes 1 flags ++ leBytes 1 cause ++ zeros 1 ++ zeros 8 ++ leBytes 4 events ++ leBytes 8 s.vtime ++
    leBytes 4 l ++ leBytes 4 w ++ leBytes 4 h ++ zeros 4 ++ leBytes 8 (l * w * h) ++ leBytes 4 endCnt ++ zeros 8

/-- The pair starts again from its mask ROM (R478, R479, R502): the mailbox is cleared and what was being measured is lost. -/
def State.vrnRestart (s : State) (cause : Nat) : State :=
  let v := { s.vrn with cause := cause, start := none, lines := [], lost := false, sum := none, obj := none, seq := 0, objs := 0, rejs := 0, out := [] }
  ({ s with vrn := v }.store mailbox (zeros 4096)).setVstate 1

/-- VERNIER_RESET_ASSERT (R476): everything but the sealed MRAM is lost. -/
def execVernierResetAssert (s : State) : Out :=
  .next <|
    let mem := mapClear (mapClear (mapClear s.mem mailbox (mailbox + 4096)) updBuffer (updBuffer + 4096)) vrnSram (vrnSram + 0x80000)
    let s := s.setVstate 0
    let stat := s.rf Reg.VRN_STAT 27 27
    let s := ((((s.wr Reg.VRN_STAT 0).wf Reg.VRN_STAT 27 27 stat).wr Reg.VRN_UPDCMD 0).wr Reg.VRN_UPDSTAT 0).wr (Reg.VRN_UPDUTC 0) 0 |>.wr (Reg.VRN_UPDUTC 1) 0
    { s with mem := mem, vrn := .init }

/-- VERNIER_RESET_RELEASE (R477). -/
def execVernierResetRelease (s : State) : Out :=
  .next <| if s.vrn.live then s else ({ s with vrn := { VrnInt.init with live := true } }.store mailbox (zeros 4096)).setVstate 1

/-- VERNIER_BOOT_DONE (R477, R479): without a valid commit record no firmware is found; else the ROM copies the firmware into the
SRAM, from its first byte on (assumption log 42), and starts it. -/
def execVernierBootDone (s : State) : Out :=
  .next <|
    if s.vstate ≠ 1 then s
    else match s.inForce with
      | none => (s.setBit Reg.VRN_STAT 26).setVstate 4
      | some (_, c) =>
        if !s.vfwOk c.fwSlot then (s.setBit Reg.VRN_STAT 26).setVstate 4
        else if !s.vparOk c.parSlot then (s.setBit Reg.VRN_STAT 25).setVstate 4
        else
          let s := (s.store vrnSram (s.vfwCode c.fwSlot)).wf Reg.VRN_STAT 23 23 (if c.audUsed = 1024 then 1 else 0) |>.setVstate 2
          let s := (s.putSlot0).store (mailbox + 64) s.slot1
          s.publish (s.recordBytes 3 0 s.vrn.cause 0 0 0 0)

/-- LOCKSTEP_MISMATCH (R478). -/
def execLockstepMismatch (s : State) : Out :=
  .next <|
    if s.vstate = 0 || s.vstate = 4 then s
    else
      let slips := s.vrn.slips.filter (fun (t : Nat) => s.vrn.ns < t + 1000000000) ++ [s.vrn.ns]
      let s := { s with vrn := { s.vrn with slips := slips } }
      if 3 ≤ slips.length then
        ({ s with vrn := { s.vrn with obj := none, sum := none, out := [] } }.setBit Reg.VRN_STAT 24).setVstate 4
      else
        let s := match s.inForce with | some (k, c) => s.putCommit k { c with lockCnt := c.lockCnt + 1 } | none => s
        s.vrnRestart 2

/-- An encoder. -/
def State.enc (s : State) (n : Nat) : VEnc := mapGet .init s.vrn.encs n

/-- ENCODER_EDGE (R481). -/
def execEncoderEdge (n : Nat) (move : EncMove) (s : State) : Out :=
  .next <|
    if !s.vrn.live || 8 ≤ n then s
    else
      let e := s.enc n
      let e := match move with
        | .up => { e with count := (e.count + 1) % 2 ^ 32, at_ := s.vtime }
        | .down => { e with count := (e.count + 2 ^ 32 - 1) % 2 ^ 32, at_ := s.vtime }
        | .both => { e with errs := e.errs + 1 }
      { s with vrn := { s.vrn with encs := mapSet .init s.vrn.encs n e } }

/-- A profile is dropped (R483): counted, and the object in progress is marked. -/
def State.profileDrop (s : State) : State :=
  { s with vrn := { s.vrn with drops := s.vrn.drops + 1, obj := s.vrn.obj.map (fun (o : VObj) => { o with input := true }) } }

/-- Count of the encoder that a byte of the parameter set names; 0 for none. -/
def State.encOf (s : State) (off : Nat) : Nat :=
  let n := s.par s.parSlot off 1
  if n = 0xFF then 0 else (s.enc n).count

/-- VERNIER_FRAME_START (R481, R483): a frame that has no frame end is dropped. -/
def execVernierFrameStart (s : State) : Out :=
  .next <|
    if s.vstate ≠ 2 then s
    else
      let s := if s.vrn.start.isSome then s.profileDrop else s
      { s with vrn := { s.vrn with start := some (s.vtime, s.encOf 80, s.encOf 81), lines := [], lost := false, frame := s.vrn.frame + 1 } }

/-- A packet of CSI3 reaches the profile hardware (R480, R485): a line of the frame, or a discarded packet. -/
def State.vrnPacket (s : State) (hdr : Option Nat) (good : Bool) (payload : List Byte) : State :=
  let k := s.parSlot
  let mine := match hdr with
    | some d => bits d 7 6 + 4 * bits d 25 24 == s.par k 70 1 && bits d 5 0 == s.par k 71 1
    | none => true
  if s.vstate ≠ 2 || !mine then s
  else if !good then
    { s with vrn := { s.vrn with lost := true, obj := s.vrn.obj.map (fun (o : VObj) => { o with input := true }) } }
  else if s.vrn.start.isNone then s
  else { s with vrn := { s.vrn with lines := s.vrn.lines ++ [payload] } }

/-- CSI3_COPY (R391, R480): what the Vernier receiver accepts is copied into port 3. -/
def execCsi3Copy (header : Nat) (payload : List Byte) (crc : Nat) (s : State) : Out :=
  .next <|
    if !s.vrn.live then s
    else match hdrFix header with
      | none => s.vrnPacket none false payload
      | some (d, _) =>
        if bits d 5 0 = 0x12 then s
        else if bits d 23 8 ≠ payload.length || crcCsi payload ≠ crc || !csiType (bits d 5 0) then s.vrnPacket (some d) false payload
        else (s.vrnPacket (some d) true payload).csi3 d payload

/-- Nearest integer of a quotient, ties upward. -/
def nearest (num den : Int) : Int := (2 * num + den) / (2 * den)

/-- The row, in 1/64, of the peak of a column whose pixel values are `col`, or none (R482). -/
def peakRow (col : List Nat) (thr : Nat) : Option Int :=
  let top := col.foldl max 0
  match firstIdx (· == top) col with
  | none => none
  | some r =>
    if top ≤ thr then none
    else
      let ws := ((List.range col.length).filter (fun i => r ≤ i + 2 && i ≤ r + 2)).map (fun i => (i, col.getD i 0 - thr))
      let sw : Nat := (ws.map (fun (e : Nat × Nat) => e.2)).sum
      let srw : Nat := (ws.map (fun (e : Nat × Nat) => e.1 * e.2)).sum
      some (nearest (64 * (srw : Int)) (sw : Int))

/-- Bilinear value of four knots with weights in 1/65536, ties upward (R482). -/
def bilinear (k00 k10 k01 k11 : Int) (fu fv : Int) : Int :=
  nearest ((65536 - fu) * (65536 - fv) * k00 + fu * (65536 - fv) * k10 + (65536 - fu) * fv * k01 + fu * fv * k11) (65536 * 65536)

/-- The calibrated point of column `x` whose peak lies at row `rp` (R482). -/
def State.point (s : State) (k x : Nat) (rp : Int) : Int × Int :=
  let u : Int := (x * 63 * 65536 / (s.par k 72 2 - 1) : Nat)
  let v : Int := rp * 63 * 65536 / (64 * ((s.par k 74 2 : Int) - 1))
  let i := min (u / 65536).toNat 62
  let j := min (v / 65536).toNat 62
  let knot := fun (a b z : Nat) => s.parS k (1024 + 8 * (64 * a + b) + 4 * z)
  let at_ := fun z => bilinear (knot i j z) (knot (i + 1) j z) (knot i (j + 1) z) (knot (i + 1) (j + 1) z) (u - 65536 * i) (v - 65536 * j)
  (at_ 0, at_ 1)

/-- The smaller, and the larger, of what is known and a new value. -/
def minOpt (a : Option Int) (b : Int) : Option Int := match a with | some x => some (min x b) | none => some b
/-- The larger of what is known and a new value. -/
def maxOpt (a : Option Int) (b : Int) : Option Int := match a with | some x => some (max x b) | none => some b

/-- The summary of a frame's lines (R482). -/
def State.summary (s : State) (time sel chk : Nat) (lines : List (List Byte)) : VSum :=
  let k := s.parSlot
  let dt := s.par k 71 1
  let rows := lines.take (s.par k 74 2)
  (List.range (s.par k 72 2)).foldl (fun (v : VSum) x =>
    match peakRow (rows.map (fun l => (l.getD (pixelAt (dt - 0x2A) dt x) 0).toNat)) (s.par k 76 2) with
    | none => v
    | some rp =>
      let (y, z) := s.point k x rp
      if z < (s.par k 92 4 : Int) then v
      else
        let v := { v with pts := v.pts + 1, zmax := maxOpt v.zmax z }
        if y < s.parS k 128 || s.parS k 132 < y then { v with edges := v.edges + 1 }
        else { v with ymin := minOpt v.ymin y, ymax := maxOpt v.ymax y }) ⟨0, 0, none, none, none, time, sel, chk, s.vrn.frame⟩

/-- PROFILE_FRAME_END (R482, R483). -/
def execProfileFrameEnd (s : State) : Out :=
  .next <|
    match s.vrn.start with
    | none => s
    | some (time, sel, chk) =>
      let t := { s with vrn := { s.vrn with start := none, lines := [], lost := false } }
      if s.vstate ≠ 2 then t
      else if s.vrn.sum.isSome || s.vrn.lost || s.vrn.lines.length < s.par s.parSlot 74 2 then t.profileDrop
      else { t with vrn := { t.vrn with sum := some (s.summary time sel chk s.vrn.lines) } }

/-- Signed travel from one encoder count to another. -/
def travel (a b : Nat) : Int := toSigned 32 ((b + 2 ^ 32 - a) % 2 ^ 32)

/-- The record of an object that ends (R484, R485). -/
def State.objectRecord (s : State) (o : VObj) : List Byte :=
  let k := s.parSlot
  let pitch := (s.parS k 84).natAbs
  let tr := travel o.first o.last
  let len := nearest ((tr.natAbs : Int) * pitch) 100000
  let wid := match o.ymin, o.ymax with | some a, some b => nearest (b - a) 100 | _, _ => 0
  let hei := match o.zmax with | some z => nearest z 100 | none => 0
  let div : Int := s.par k 96 2
  let legal := fun (v : Int) => (nearest v div * div).toNat
  let out := fun (v : Int) (i : Nat) => legal v < s.par k (104 + 4 * i) 4 || s.par k (116 + 4 * i) 4 < legal v
  let cause := if o.input then 1 else if o.speed then 2
    else if s.par k 81 1 ≠ 0xFF && s.par k 88 4 < (tr - travel o.chk o.chkTo).natAbs then 3
    else if o.edge then 4 else if out len 0 || out wid 1 || out hei 2 then 5 else 0
  let endCnt := s.encOf 80
  if cause = 0 then s.recordBytes 1 o.open_.toNat 0 (legal len) (legal wid) (legal hei) endCnt
  else s.recordBytes 2 o.open_.toNat cause 0 0 0 endCnt

/-- A profile starts an object, or is one of its occupied ones. -/
def VObj.take (o : Option VObj) (v : VSum) (low : Bool) (fast : Bool) : VObj :=
  match o with
  | none => ⟨v.sel, v.sel, v.sel, v.chk, v.chk, v.ymin, v.ymax, v.zmax, false, false, 0 < v.edges, false, low⟩
  | some o =>
    { o with last := v.sel, prev := v.sel, chkTo := v.chk,
             ymin := match v.ymin with | some y => minOpt o.ymin y | none => o.ymin,
             ymax := match v.ymax with | some y => maxOpt o.ymax y | none => o.ymax,
             zmax := match v.zmax with | some z => maxOpt o.zmax z | none => o.zmax,
             edge := o.edge || 0 < v.edges, speed := o.speed || o.tail || fast, tail := false }

/-- PROFILE_SUMMARY_DONE (R482, R484, R485): the object in progress advances, ends, or a new one begins. -/
def execProfileSummaryDone (s : State) : Out :=
  .next <|
    match s.vrn.sum with
    | none => s
    | some v =>
      let s := { s with vrn := { s.vrn with sum := none } }
      let k := s.parSlot
      let full := 0 < v.pts
      let begin_ := if full then some (VObj.take none v s.sealLow false) else none
      if s.vstate ≠ 2 then s
      else match s.vrn.obj with
        | none => { s with vrn := { s.vrn with obj := begin_ } }
        | some o =>
          let pitch := s.parS k 84
          let beyond := if pitch < 0 then -travel o.last v.sel else travel o.last v.sel
          if (s.par k 98 2 : Int) * 100000 ≤ beyond * pitch.natAbs then
            { s with vrn := { s.vrn with out := s.vrn.out ++ [s.objectRecord o], obj := begin_ } }
          else
            let fast := s.par k 100 4 < (travel o.prev v.sel).natAbs
            let o := if full then VObj.take (some o) v s.sealLow fast else { o with prev := v.sel, tail := o.tail || fast }
            { s with vrn := { s.vrn with obj := some o } }

/-- INDICATOR_READ (R493, R494): a word whose latch meets a write is undefined, and VRN_BUSY stays high to the end. -/
def execIndicatorRead (addr len : Nat) (hits : List Nat) (s : State) : Out :=
  .next <|
    if !s.vrn.live then s.answer []
    else
      let a := bits addr 11 2 * 4
      let bad := hits.filter (fun w => 4 * w < len)
      let free := Config.freeNat s.draws
      let byte := fun i => if bad.contains (i / 4) then BitVec.ofNat 8 (free / 256 ^ i) else s.byte (mailbox + (a + i) % 4096)
      let t := if bad.isEmpty then s else s.draw
      { t.answer ((List.range len).map byte) with vrn := { s.vrn with busy := !bad.isEmpty } }

/-- INDICATOR_STATUS (R493). -/
def execIndicatorStatus (s : State) : Out :=
  .next <|
    if !s.vrn.live then s.answer []
    else { s.answer (leBytes 1 (s.vstate * 32 + s.sealLow.toNat * 16 + s.vrn.seq % 16)) with vrn := { s.vrn with busy := false } }

/-- INDICATOR_OTHER (R493). -/
def execIndicatorOther (cmd len : Nat) (s : State) : Out :=
  .next <|
    if !s.vrn.live then s.answer []
    else if cmd = 3 || cmd = 5 then s
    else { s.answer (zeros len) with vrn := { s.vrn with busy := false } }

/-- SEAL_CHANGE (R500): SEAL_N is high while the seal is closed. -/
def execSealChange (closed : Bool) (s : State) : Out :=
  .next <|
    if !s.vrn.live || s.sealLow = !closed then s
    else
      let s := (s.wf Reg.VRN_STAT 28 28 (if closed then 0 else 1)).vrnIrq 0
      let s := if closed then s else { s with vrn := { s.vrn with obj := s.vrn.obj.map (fun (o : VObj) => { o with open_ := true }) } }
      if s.vstate = 2 then s.putSlot0 else s

/-- VRN_UPDSTAT.RESULT. -/
def State.updResult (s : State) (r : Nat) : State := s.wf Reg.VRN_UPDSTAT 23 16 r

/-- A command written to VRN_UPDCMD (R501, R502, R506): admitted by the SEC block, then by the partition itself; one that
executes is logged. -/
def State.vrnCmd (s : State) (src : Src) (word : Nat) (go : State → Nat × Commit → State) : State :=
  let a := Reg.VRN_UPDCMD
  if !s.makerOk src then (s.regWrite src a word).accErr src true 2 a
  else
    let s := s.regWrite src a word
    if s.bit Reg.VRN_UPDSTAT 31 then s.updResult 1
    else if !s.bit Reg.VRN_STAT 27 || !s.sealLow then (s.updResult 2).logRefusal src 2 a word
    else if s.vstate = 0 || s.vstate = 4 then (s.updResult 6).logRefusal src 6 a word
    else match s.inForce with
      | none => (s.updResult 6).logRefusal src 6 a word
      | some kc =>
        let s := go s kc
        let events := match s.inForce with | some (_, c) => c.events | none => 0
        s.logAs src 0x30 (s.rf Reg.VRN_UPDSTAT 23 16) word (leBytes 4 (s.rd Reg.VRN_UPDSTAT).toNat ++ leBytes 4 events)

/-- Word of VRN_UPDCMD. -/
def updWord (cmd index : Nat) : Nat := cmd * 2 ^ 24 + index % 256

/-- A chunk of the buffer is staged and counted in UPDSTAT[hi:lo]; of an index beyond the slot nothing is copied and the
result is open (assumption log 26). -/
def State.stageChunk (s : State) (base index limit hi lo : Nat) : State :=
  if limit ≤ index then s.draw.updResult (Config.freeNat s.draws % 256)
  else ((s.store (base + 4096 * index) (s.bytes updBuffer 4096)).wf Reg.VRN_UPDSTAT hi lo (satN 8 (s.rf Reg.VRN_UPDSTAT hi lo + 1))).updResult 0

/-- FW_CHUNK (R502). -/
def execFwChunk (src : Src) (index : Nat) (s : State) : Out :=
  .next (s.vrnCmd src (updWord 1 index) (fun s kc => s.stageChunk (vfwAddr (1 - kc.2.fwSlot)) (index % 256) 96 15 8))

/-- PAR_CHUNK (R502). -/
def execParChunk (src : Src) (index : Nat) (s : State) : Out :=
  .next (s.vrnCmd src (updWord 3 index) (fun s kc => s.stageChunk (vparAddr (1 - kc.2.parSlot)) (index % 256) 32 7 0))

/-- ABORT (R502). -/
def execAbortStaged (src : Src) (s : State) : Out :=
  .next (s.vrnCmd src (updWord 6 0) (fun s _ => ((s.wf Reg.VRN_UPDSTAT 15 8 0).wf Reg.VRN_UPDSTAT 7 0 0).updResult 0))

/-- Address of an audit entry. -/
def auditAddr (n : Nat) : Nat := sealed + 0x140000 + 64 * n

/-- A change is audited at index `n` and committed, measurement having paused: an open object ends as INTERRUPTED, and the
pair restarts (R498, R502). -/
def State.vrnChange (s : State) (k n : Nat) (c : Commit) (kind cause : Nat) (old new : List Byte) (version : Nat) : State :=
  let s := match s.vrn.obj with
    | some o => if s.vstate = 2 then { s with vrn := { s.vrn with out := s.vrn.out ++ [s.recordBytes 2 o.open_.toNat 6 0 0 0 (s.encOf 80)], obj := none } } else s
    | none => s
  let s := if s.vstate = 2 then s.vrn.out.foldl State.publish s else s
  let s := (s.setVstate 3).updResult 0
  let b := leBytes 4 (c.events + 1) ++ leBytes 1 kind ++ leBytes 1 (s.rf Reg.SEC_STAT 29 27) ++ zeros 2 ++
    leBytes 4 (s.rd (Reg.VRN_UPDUTC 0)).toNat ++ leBytes 4 (s.rd (Reg.VRN_UPDUTC 1)).toNat ++ leBytes 8 s.vtime ++
    fitBytes 16 old ++ fitBytes 16 new ++ leBytes 4 version
  let s := s.store (auditAddr n) (b ++ leBytes 4 (crc32 b))
  let c := { c with events := c.events + 1, audUsed := n + 1 }
  let s := (s.putCommit k c).wf Reg.VRN_STAT 23 23 (if c.audUsed = 1024 then 1 else 0)
  s.vrnRestart cause

/-- FW_ACTIVATE (R497, R499, R502, R503). -/
def execVrnFwActivate (src : Src) (s : State) : Out :=
  .next <| s.vrnCmd src (updWord 2 0) (fun s kc =>
    let c := kc.2
    let n := 1 - c.fwSlot
    if c.events = 0xFFFFFFFF then s.updResult 7
    else if c.audUsed = 1024 then s.updResult 4
    else if !s.vfwOk n then s.updResult 3
    else (s.vrnChange kc.1 c.audUsed { c with fwSlot := n } 1 3 (sha256 (s.vfwCode c.fwSlot)) (sha256 (s.vfwCode n)) (s.num (vfwAddr n + 4) 4)).wf
      Reg.VRN_UPDSTAT 15 8 0)

/-- PAR_COMMIT (R487, R497, R499, R502). -/
def execParCommit (src : Src) (s : State) : Out :=
  .next <| s.vrnCmd src (updWord 4 0) (fun s kc =>
    let c := kc.2
    let n := 1 - c.parSlot
    let set := fun (s : State) k => s.bytes (vparAddr k) (min 131072 (s.par k 8 4))
    if c.events = 0xFFFFFFFF then s.updResult 7
    else if c.audUsed = 1024 then s.updResult 4
    else if !s.vparOk n then s.updResult 3
    else (s.vrnChange kc.1 c.audUsed { c with parSlot := n } 2 4 (sha256 (set s c.parSlot)) (sha256 (set s n)) (s.par n 4 4)).wf
      Reg.VRN_UPDSTAT 7 0 0)

/-- ARCHIVE (R497, R502, R505): the RESTART record that follows has no cause of its own (assumption log 26). -/
def execArchive (src : Src) (s : State) : Out :=
  .next <| s.vrnCmd src (updWord 5 0) (fun s kc =>
    let c := kc.2
    let d := sha256 (s.bytes (auditAddr 0) (64 * c.audUsed))
    if c.events = 0xFFFFFFFF then s.updResult 7
    else if s.bytes updBuffer 32 ≠ d then s.updResult 5
    else (s.store (auditAddr 0) (zeros 65536)).draw.vrnChange kc.1 0 c 3 (Config.freeNat s.draws % 256) d [] c.audUsed)

end Sys2Proof.Machine
end

