-- ==== Sys2Proof/Machine/Bus.lean ====
section
/-! DEFINITION. Reads and writes of the device address space (R29 to R36): what a write to each register starts, what a read
of each register shows, storage windows, and how a range splits into accesses (R9, R32, R420). -/

namespace Sys2Proof.Machine

/-- The state that a command of another row leaves when a register write starts it. -/
def State.ran (s : State) (go : State → Out) : State :=
  match go s with
  | .next t => t
  | .fault _ => s
  | .refused _ => s

/-- An address in the Vernier window. -/
def inVernier (a : Nat) : Bool := 0x4000000 ≤ a && a < 0x5000000

/-- Words of the maker update block that a maker session writes (R506): the UTC pair and the buffer. -/
def makerWord (a : Nat) : Bool := a == 0x4100008 || a == 0x410000C || (updBuffer ≤ a && a < updBuffer + 4096)

/-- Words of a routing-table bank (R281). -/
def tableWord (a : Nat) : Bool := 0x10000000 ≤ a && a < 0x14000000 && a % 0x10000 / 0x4000 % 2 == 1

/-- Words of a Temper unit's rule sets (R343). -/
def ruleWord (a : Nat) : Bool := 0x200000000 ≤ a && a < 0x220000000 && 0x1FFA000 ≤ a % 0x2000000 && a % 0x2000000 < 0x1FFC000

/-- Words of a Temper unit's history records (R343). -/
def historyWord (a : Nat) : Bool := 0x200000000 ≤ a && a < 0x220000000 && 0x1FFC000 ≤ a % 0x2000000 && a % 0x2000000 < 0x1FFD000

/-- A write into the Vernier window (R17, R501, R506, R507): what R11 does not admit is recorded, and one to a field that a
maker session writes is also a refused write. The spec does not say what a write to VRN_UPDUTC or the buffer that a maker session
may make does while the partition is OFF: the model's choice (assumption log 41) is that the window's own words take it. -/
def State.vernierWrite (s : State) (src : Src) (a v : Nat) : State :=
  if a = Reg.VRN_IRQCFG || a = Reg.VRN_IRQSTAT then s.regWrite src a v
  else if a = Reg.VRN_UPDCMD then
    s.ran (fun s => match bits v 31 24 with
      | 1 => execFwChunk src (bits v 7 0) s
      | 2 => execVrnFwActivate src s
      | 3 => execParChunk src (bits v 7 0) s
      | 4 => execParCommit src s
      | 5 => execArchive src s
      | 6 => execAbortStaged src s
      | _ => .next (s.vrnCmd src v (fun s _ => (s.updResult 2).logRefusal src 2 a v)))
  else if makerWord a then
    if !s.makerOk src then (s.logAs src 5 0 a (leBytes 4 v)).accErr src true 2 a
    else if a = 0x4100008 || a = 0x410000C then s.regWrite src a v
    else ((s.putNum a 4 v).logAs src 7 0 a (leBytes 4 (s.num a 4) ++ leBytes 4 v)).touchSession
  else s.accErr src true 2 a

/-- A write to SMC_IMGCMD (R77): a code without a row is refused with DENIED. -/
def State.imgCmdWrite (s : State) (src : Src) (v : Nat) : State :=
  s.ran (fun s => match bits v 31 24 with
    | 1 => execLoadSlot src (bits v 16 16) s
    | 2 => execLoadHost src s
    | 3 => execInstall src (bits v 16 16) s
    | 4 => execActivateDelta src (bits v 15 0) s
    | 5 => execDiscardDelta src s
    | 6 => execSettingsReset src (bits v 16 16) s
    | _ => .next (s.cmdAt src Reg.SMC_IMGCMD (fun s => (s.imgResult 2).logRefusal src 2 Reg.SMC_IMGCMD v)))

/-- A write to SMC_RUNCMD (R231): a code without a row is refused with DENIED. -/
def State.runCmdWrite (s : State) (src : Src) (v : Nat) : State :=
  s.ran (fun s => match bits v 31 24 with
    | 1 => .next (s.runStart src (bits v 15 0))
    | 2 => .next (s.runHold src (bits v 15 0))
    | 3 => .next (s.runResume src (bits v 15 0))
    | 4 => execStepRun src (bits v 15 0) s
    | 5 => .next (s.runStop src (bits v 15 0))
    | 6 => .next (s.runLearn src true (bits v 15 0))
    | 7 => .next (s.runLearn src false (bits v 15 0))
    | 8 => .next (s.runLock src true (bits v 15 0))
    | 9 => .next (s.runLock src false (bits v 15 0))
    | 10 => execSteplen src (bits v 15 0) s
    | _ => .next (s.cmdAt src Reg.SMC_RUNCMD (fun s => (s.runResult 2).logRefusal src 2 Reg.SMC_RUNCMD v)))

/-- A write to SEC_CMD (R521). -/
def State.secCmdWrite (s : State) (src : Src) (v : Nat) : State :=
  let role := bits v 17 16
  let slot := bits v 2 0
  s.ran (fun s => match bits v 31 24 with
    | 1 => execChallenge src role slot s
    | 2 => execVerifySession src s
    | 3 => execCloseSession src s
    | 4 => execProgKey src role slot s
    | 5 => execRevokeKey src role slot s
    | 6 => execProvMaker src s
    | _ => .next (s.secCmd src v (fun s => s.secDenied src v)))

/-- A write to PWR_DEVCMD (R552): a code without a row is refused with DENIED. -/
def State.devCmdWrite (s : State) (src : Src) (v : Nat) : State :=
  s.ran (fun s => match bits v 31 24 with
    | 1 => execSleep src s
    | 2 => execDeepState src s
    | 3 => execWake src s
    | 4 => execProfile src (bits v 17 16) (bits v 15 0) s
    | _ => .next (s.devCmd src v (fun s => (s.devResult false 2).logRefusal src 2 Reg.PWR_DEVCMD v)))

/-- A write to RST_CMD (R586): a code without a row is refused with DENIED. -/
def State.rstCmdWrite (s : State) (src : Src) (v : Nat) : State :=
  s.ran (fun s => match bits v 31 24 with
    | 1 => execWarmReset src s
    | 2 => execWarmFull src s
    | _ => .next (s.cmdAt src Reg.RST_CMD (fun s => (s.wf Reg.RST_STAT 7 0 2).logRefusal src 2 Reg.RST_CMD v)))

/-- A write to RST_FWCMD (R586): a code without a row is refused with DENIED. -/
def State.fwCmdWrite (s : State) (src : Src) (v : Nat) : State :=
  s.ran (fun s => match bits v 31 24 with
    | 1 => execFwInstall src (bits v 16 16) s
    | 2 => execFwActivate src (bits v 16 16) s
    | 3 => execFwSetreset src (bits v 16 16) s
    | _ => .next (s.cmdAt src Reg.RST_FWCMD (fun s => (s.fwResult 2).logRefusal src 2 Reg.RST_FWCMD v)))

/-- A write to SPL_LRNCLR (R469). -/
def State.lrnClrWrite (s : State) (src : Src) (v : Nat) : State :=
  s.ran (fun s =>
    if bitAt v 31 then execLearningClearAll src s
    else if bitAt v 8 then execLearningClearOne src (bits v 7 0) s
    else .next (s.cmdAt src Reg.SPL_LRNCLR (fun s => s.regWrite src Reg.SPL_LRNCLR v)))

/-- A write to SPL_LnCTRL (R451, R470): EN by an installer, RETRAIN by any role. -/
def State.linkCtrlWrite (s : State) (src : Src) (k v : Nat) : State :=
  let a := Reg.SPL_LCTRL k
  let s := s.cmdAt src a (fun s =>
    let was := s.bit a 31
    let s := s.regWrite src a (putBits v 30 30 0)
    let now := s.bit a 31
    if now && !was && !s.linkUp k && s.mayTrain k then s.wf (Reg.SPL_LSTAT k) 31 29 1
    else if was && !now then s.linkDisable k else s)
  if bitAt v 30 && s.answers a then s.ran (execLinkRetrainRequest src k) else s

/-- Pending MSI-X vectors that nothing masks any more are sent (R421, R423). -/
def State.msixFlush (s : State) : State :=
  let ctl := mapGet 0 s.cfg 0xB0
  if !s.bit Reg.HIF_LINK 31 || s.bit Reg.HIF_STAT 0 || getF ctl 31 31 = 0 || getF ctl 30 30 = 1 then s
  else ((List.range 2048).filter (fun v => s.bit (Reg.MSIX_PBA (v / 32)) (v % 32) && !s.bit (Reg.MSIX_CTRL v) 0)).foldl
    (fun s v => { s.wf (Reg.MSIX_PBA (v / 32)) (v % 32) (v % 32) 0 with msgs := s.msgs ++ [v] }) s

/-- What a write by access codes brings with it, at the registers that have more than a value. -/
def State.afterWrite (s old : State) (src : Src) (a v : Nat) : State :=
  let off := a % 0x400000
  if a = Reg.SMC_IMGBOOT then
    (if s.installer src then s.logAs src 0x10 0 v (logData (s.rf Reg.SMC_IMGSTAT 28 27) s.imgDigest) else s)
  else if a = Reg.TND_ERRSTAT then s.showDesc
  else if 0x1800000 ≤ a && a < 0x1808000 && a % 16 = 12 then s.msixFlush
  else if 0x100000000 ≤ a && a < 0x200000000 then
    (if (0x310010 ≤ off && off < 0x310030 && off % 8 = 0) || (0x311000 ≤ off && off < 0x311800 && off % 16 = 0) then s.selCheck (winLcn a) none else s)
  else if 0x2001000 ≤ a && a < 0x2001200 then
    let n := (a - 0x2001000) / 32
    let s := if a % 32 = 0 && !old.bit a 31 && s.bit a 31 then
        { s with tnd := { s.tnd with seen := mapSet false s.tnd.seen n false, line := mapSet 0 s.tnd.line n 0 } } else s
    s.showDesc
  else if 0x2000100 ≤ a && a < 0x2000200 && a % 64 = 0 && !s.bit a 31 then s.wf (a + 8) 31 30 0
  else s

/-- Registers that hold words in storage or form them when they are read. -/
def madeWord (a : Nat) : Bool :=
  tableWord a || ruleWord a || historyWord a || (0x10000000 ≤ a && a < 0x14000000 && a % 0x10000 / 0x1000 == 2) || inVernier a

/-- An offset of a block window that no map names (R12): an access to it is not recorded, whether its unit answers or not
(R35); the Vernier window is the exception. -/
def reservedOff (a : Nat) : Bool :=
  mapped a && !storageAt a && !madeWord a && !(0x1400000 ≤ a && a < 0x1600000) && (regRow a).isNone

/-- A write to a register without a row of its own (R10 to R12). -/
def State.plainWrite (s : State) (src : Src) (a v : Nat) : State :=
  if reservedOff a then s
  else s.cmdAt src a (fun s =>
    if tableWord a then s.putNum a 4 v
    else if ruleWord a then
      (if s.installer src then ((s.putNum a 4 v).logAs src 7 0 a (leBytes 4 (s.num a 4) ++ leBytes 4 v)).touchSession
       else s.logAs src 5 0 a (leBytes 4 v))
    else if (regRow a).isNone then s
    else (s.regWrite src a v).afterWrite s src a v)

/-- A write of an aligned word to a core's registers. -/
def State.coreRegWrite (s : State) (src : Src) (a v : Nat) : State :=
  let c := winLcn a
  let off := a % 0x400000
  if off = 0x300020 then s.ran (execNcrDpoolWrite src c v)
  else if off = 0x310004 then s.ran (execMsgRelease src c (bits v 6 0))
  else if 0x311000 ≤ off && off < 0x311800 && (off % 16 = 4 || off % 16 = 8) then
    s.ran (execMsgQueueConfigWrite src c ((off - 0x311000) / 16) (off % 16 = 8) v)
  else s.plainWrite src a v

/-- A write of an aligned word to a timer, an alarm or a halt register. -/
def State.timerRegWrite (s : State) (src : Src) (a v : Nat) : State :=
  if a = Reg.TMR_GROUP then s.ran (execTimerGroupStart src v)
  else if a = Reg.TMR_PCCTRL then s.cmdAt src a (fun s => s.perfCtrl src v)
  else if 0x40100 ≤ a && a < 0x40300 && a % 32 = 0 then s.ran (execTimerCtrlWrite src ((a - 0x40100) / 32) v)
  else if 0x40100 ≤ a && a < 0x40300 && a % 32 = 4 then s.ran (execTimerCompareWrite src ((a - 0x40100) / 32) v)
  else if 0x5000 ≤ a && a < 0x5800 && a % 32 < 16 then s.ran (execEphemerisArm src ((a - 0x5000) / 32) (a % 32 / 4) v)
  else if 0x6040 ≤ a && a < 0x60C0 then s.ran (execDebugHaltWrite src ((a - 0x6040) / 4) v)
  else s.plainWrite src a v

/-- A write of an aligned word to a register of the Ladle. -/
def State.ladleRegWrite (s : State) (src : Src) (a v : Nat) : State :=
  if 0x1020000 ≤ a && a < 0x1022000 && a % 256 = 0 then s.cmdAt src a (fun s => s.chCfg src ((a - 0x1020000) / 256) v)
  else if 0x1020000 ≤ a && a < 0x1022000 && a % 256 = 0x18 then s.ran (execLadleDoorbell src ((a - 0x1020000) / 256) v)
  else if 0x1100000 ≤ a && a < 0x1140000 && a % 64 = 4 then s.ran (execHostQueueLocalWrite src ((a - 0x1100000) / 64) v)
  else s.plainWrite src a v

/-- A write of an aligned word to a register (R9, R10). -/
def State.wordWrite (s : State) (src : Src) (a v : Nat) : State :=
  if inVernier a then s.vernierWrite src a v
  else if a = Reg.SMC_IMGCMD then s.imgCmdWrite src v
  else if a = Reg.SMC_RUNCMD then s.runCmdWrite src v
  else if a = Reg.SEC_CMD then s.secCmdWrite src v
  else if a = Reg.PWR_DEVCMD then s.devCmdWrite src v
  else if a = Reg.PWR_CEIL then s.ran (execPwrCeilWrite src v)
  else if a = Reg.RST_CMD then s.rstCmdWrite src v
  else if a = Reg.RST_FWCMD then s.fwCmdWrite src v
  else if a = Reg.SPL_LRNCLR then s.lrnClrWrite src v
  else if 0x3000100 ≤ a && a < 0x3000300 && a % 64 = 0 then s.linkCtrlWrite src ((a - 0x3000100) / 64) v
  else if a < 0x50000 then s.timerRegWrite src a v
  else if 0x1000000 ≤ a && a < 0x2000000 then s.ladleRegWrite src a v
  else if 0x100000000 ≤ a && a < 0x200000000 then s.coreRegWrite src a v
  else s.plainWrite src a v

/-- End of the piece of storage that an address lies in: the event queue of a core stands by itself (R78). -/
def storageEnd (a : Nat) : Nat :=
  if a < 0x3000000 then 0x3000000
  else if a < 0x200000000 then
    a / 0x400000 * 0x400000 +
      (if a % 0x400000 < 0x24000 then 0x24000 else if a % 0x400000 < 0x28000 then 0x28000 else 0x30000)
  else if a < 0x220000000 then a / 0x2000000 * 0x2000000 + 0x1FF0000
  else 0x304000000

/-- End of a Reserved range of the map (R29). -/
def gapEnd (a : Nat) : Nat :=
  if a < 0x10000000 then 0x10000000 else if a < 0x100000000 then 0x100000000 else if a < 0x300000000 then 0x300000000
  else a + 0x100000000

/-- Length of the access that a range of `n` bytes from `a` up begins with. -/
def pieceLen (a n : Nat) : Nat :=
  min n (if storageAt a then storageEnd a - a else if mapped a then 4 - a % 4 else gapEnd a - a)

/-- The accesses that a range of `n` bytes from `a` up splits into, in ascending order, as address and length (R420). -/
def pieces : Nat → Nat → Nat → List (Nat × Nat)
  | 0, _, _ => []
  | f + 1, a, n => if n = 0 then [] else (a, pieceLen a n) :: pieces f (a + pieceLen a n) (n - pieceLen a n)

/-- Words of a vault's storage that a range meets. -/
def vaultWords (a n : Nat) : Nat := (a + n + 15) / 16 - a / 16

/-- A window access to a vault takes its bank ports (R638). -/
def State.windowGrant (s : State) (a n : Nat) : State :=
  if 0x200000000 ≤ a && a < 0x220000000 then s.bankGrant (winPart a) 18 (vaultWords a n) else s

/-- Bits of the free value `x` from bit `i` up. -/
def freeBits (x i : Nat) : Nat := x / 2 ^ i

/-- A run whose microcode or tables were written under it behaves in an undefined way (R109): its registers, flags, Q and place in
the program are free values (assumption log 10). -/
def Run.disturbed (r : Run) (x : Nat) : Run :=
  { r with
    pc := freeBits x 0 % 2048
    lanes := (r.lanes.zip (List.range r.lanes.length)).map (fun e =>
      let b := 1024 * (e.2 + 1)
      { e.1 with
        regs := (List.range 16).map (fun i => toSigned (if i < 8 then 16 else 32) (freeBits x (b + 32 * i)))
        k := (List.range 4).map (fun i => bitAt x (b + 512 + i))
        q := bitAt x (b + 516) }) }

/-- A window write of `n` bytes from `a` up meets a range of storage. -/
def meetsRange (a n lo len : Nat) : Bool := a < lo + len && lo < a + n

/-- A core in a run met by a window write (R109): a context that the run will write back, or the stores it runs from. -/
def State.runMet (s : State) (a n : Nat) : State :=
  if a < 0x100000000 || 0x200000000 ≤ a then s
  else
    let c := winLcn a
    match (s.core c).run with
    | none => s
    | some r =>
      let hit := r.lanes.any (fun l => l.mask && meetsRange a n (ctxAddr c l.ctx) (if l.paired then 32 else 16))
      let r := if hit then { r with lost := true } else r
      if meetsRange a n (ucodeAddr c) 0x4000 then s.draw.setCore c { s.core c with run := some (r.disturbed (Config.freeNat s.draws)) }
      else if hit then s.setCore c { s.core c with run := some r } else s

/-- The bytes that a write from `a` up leaves: DIS of a context is cleared by the SMC and by installer writes only (R85), so in any
other write a set DIS stays. -/
def State.keepDis (s : State) (src : Src) (a : Nat) : List Byte → List Byte
  | [] => []
  | b :: bs =>
    let off := a % 0x400000
    let dis := 0x100000000 ≤ a && a < 0x200000000 && off < 0x20000 && off % 16 = 14 &&
      !s.isPartner (winLcn a) (off / 16) && bitAt (s.byte a).toNat 2 && src != .smc && !s.installer src
    (if dis then b ||| 4 else b) :: keepDis s src (a + 1) bs

/-- A window write meets the word that a Temper unit has read and not yet written back (R172). -/
def State.lostMark (s : State) (a n : Nat) : State :=
  if a < 0x200000000 || 0x220000000 ≤ a then s
  else
    let p := winPart a
    match (s.temper p).ahead with
    | some (off, bs, _) =>
      if meetsRange a n (vltWin p + off) 16 then s.setTemper p { s.temper p with ahead := some (off, bs, true) } else s
    | none => s

/-- A write to a storage window (R32 to R35, R78, R85, R109, R172). -/
def State.storageWrite (s : State) (src : Src) (a : Nat) (bs : List Byte) : State :=
  s.cmdAt src a (fun s =>
    if 0x100000000 ≤ a && a < 0x200000000 && 0x24000 ≤ a % 0x400000 && a % 0x400000 < 0x28000 then s
    else (((s.store a (s.keepDis src a bs)).windowGrant a bs.length).runMet a bs.length).lostMark a bs.length)

/-- One access of a write: a register access that is not an aligned word has no effect (R9); in the Vernier window it is
recorded all the same (R35). -/
def State.pieceWrite (s : State) (src : Src) (a : Nat) (bs : List Byte) : State :=
  if storageAt a then s.storageWrite src a bs
  else if !mapped a then s.accErr src true 0 a
  else if a % 4 = 0 && bs.length = 4 then s.wordWrite src a (leNat bs)
  else if inVernier a then s.accErr src true 2 a
  else s

/-- A write of bytes from `a` up. -/
def State.busWrite (s : State) (src : Src) (a : Nat) (bs : List Byte) : State :=
  (pieces bs.length a bs.length).foldl (fun s p => s.pieceWrite src p.1 ((bs.drop (p.1 - a)).take p.2)) s

/-- The access is recorded under R35 (R426, R438). -/
def State.recorded (s : State) (src : Src) (write : Bool) (p : Nat × Nat) : Bool :=
  let aligned := storageAt p.1 || !mapped p.1 || (p.1 % 4 == 0 && p.2 == 4)
  if write && inVernier p.1 then
    !(aligned && (p.1 == Reg.VRN_IRQCFG || p.1 == Reg.VRN_IRQSTAT || ((makerWord p.1 || p.1 == Reg.VRN_UPDCMD) && s.makerOk src)))
  else aligned && !reservedOff p.1 && (s.accKind src write p.1).isSome

/-- RTR_ID of a router (R274): position, outward attachment and Sprue link. -/
def rtrId (row col att : Nat) (link : Bool) : Nat := col * 2 ^ 16 + row * 2 ^ 8 + att * 2 ^ 6 + link.toNat * 2 ^ 5

/-- Outward attachment of a logical router (R245, R246). -/
def attOf (l : Nat) : Nat := if l % 32 = 0 then 1 else if 14 ≤ l && l ≤ 17 then 2 else if l = 18 then 3 else 0

/-- RTR_MAP entry of a core (R277). -/
def State.mapEntry (s : State) (n : Nat) : Nat :=
  if s.bit (Reg.RST_MAP (rowDom n)) 31 then 2 ^ 15 + s.corePcn n else 0

/-- Witness halfword of a held report; 0 where there is none (R300, R304). -/
def heldSource (q : Option Packet) : Nat := match q with | some p => p.witness | none => 0

/-- The MIN entry that pins a combining entry, the active bank first (R306): its IN. -/
def State.pinIn (s : State) (l e : Nat) : Nat :=
  let act := s.rf (Reg.RTR_BANK l) 0 0
  let find := fun g => (List.range 1024).find? (fun i => s.minEntry l g i && bits (s.entWord l g i 3) 25 20 == e)
  match find act, find (1 - act) with
  | some i, _ => bits (s.entWord l act i 3) 31 26
  | none, some i => bits (s.entWord l (1 - act) i 3) 31 26
  | none, none => 0

/-- Word `k` of combining entry `e` (R317). -/
def State.combWord (s : State) (l e k : Nat) : Nat :=
  let c := s.comb l e
  let pin := s.pinned l e
  let kind := if pin then 1 else c.kind
  let pk := fun (f : Packet → Nat) => match c.pkt with | some p => f p | none => 0
  match k with
  | 0 => (if pin then 3 else c.st) * 2 ^ 30 + kind * 2 ^ 28 + (if kind = 0 then pk Packet.gen else 0) * 2 ^ 27 +
      (if pin then s.pinIn l e * 2 ^ 21 else 0) + (if kind = 1 then 0 else pk Packet.step)
  | 1 => if kind = 1 then c.lastKey else pk Packet.key
  | 2 => c.sum
  | 3 => 0
  | k =>
    if kind = 3 then (if k < 8 then c.wits.getD (2 * (k - 4)) 0 + c.wits.getD (2 * (k - 4) + 1) 0 * 2 ^ 16 else 0)
    else if kind ≠ 1 then 0
    else if k < 10 then (match c.held.getD (k - 4) none with | some p => p.payload | none => 0xFFFFFFFF)
    else heldSource (c.held.getD (k - 10) none)

/-- A word of a router's window: identity, map, pool and combining entries as they stand, else what is held. -/
def State.routerWord (s : State) (a : Nat) : Nat :=
  let l := (a - 0x10000000) / 0x10000
  let off := a % 0x10000
  if off = 0 then rtrId (l / 32) (s.coreCol l) (attOf l) (lcnLink l).isSome
  else if off = 0x1004 then putBits (s.rd a).toNat 6 0 ((List.range 64).filter (s.pinned l)).length
  else if 0x2000 ≤ off && off < 0x3000 then s.combWord l ((off - 0x2000) / 64) (off % 64 / 4)
  else if tableWord a then s.num a 4
  else if 0x8000 ≤ off && off < 0x8800 then s.mapEntry ((off - 0x8000) / 2) + s.mapEntry ((off - 0x8000) / 2 + 1) * 2 ^ 16
  else (s.rd a).toNat

/-- A word of the Vernier window (R476, R506): while the partition is OFF only VRN_STAT reads. -/
def State.vernierWord (s : State) (a : Nat) : Nat :=
  let off := a % 0x1000000
  if a = Reg.VRN_STAT then (s.rd a).toNat
  else if s.vstate = 0 then 0
  else if off < 0x1000 then s.num a 4
  else if 0x10000 ≤ off && off < 0x20000 then s.num (auditAddr 0 + (off - 0x10000)) 4
  else if 0x101000 ≤ off && off < 0x102000 then s.num a 4
  else (s.rd a).toNat

/-- NCR_HZSTAT (R215): what holds the core as it stands. -/
def State.hzStat (s : State) (c : Nat) : Nat :=
  let b := s.blockOf c
  b.1 * 2 ^ 29 + b.2.1.toNat * 2 ^ 27 + b.2.2 * 2 ^ 24 + s.rf (Reg.NCR_HZSTAT c) 15 0

/-- Bits of word `k` of a stream descriptor that its MODE gives a field (R393); the others are reserved and read 0. -/
def descMask (mode k : Nat) : Nat :=
  match k with
  | 0 => 0xFFFFFF00
  | 1 => if mode = 0 then 0xFFFFFFE0 else 0xFFFFFFFF
  | 2 => if mode ≤ 1 then 0xFFFF0000 else 0x0000FFFF
  | 3 => 0xFFFFC000
  | 4 => if mode = 1 then 0xFFFF8000 else 0
  | 6 => 0xFFFFFFFC
  | _ => 0xFFFFFFFF

/-- The word that a register shows at the moment, before access codes. -/
def State.shown (s : State) (a : Nat) : Nat :=
  let w := (s.rd a).toNat
  if inVernier a then s.vernierWord a
  else if 0x10000000 ≤ a && a < 0x14000000 then s.routerWord a
  else if ruleWord a || historyWord a then s.num a 4
  else if a = Reg.TMR_TIME then s.time % 2 ^ 32
  else if a = Reg.TMR_STAT then putBits w 28 28 (if s.tmr.slew = 0 then 0 else 1)
  else if a = Reg.SYS_GPIN then (List.range 16).foldl (fun n i => n + (s.gpLevel i).toNat * 2 ^ i) 0
  else if a = Reg.SMC_SCHED then s.sched
  else if a = Reg.TND_STAT then putBits w 31 29 s.tndBlock
  else if a = Reg.TND_PSTAT 3 && !s.vrn.live then putBits w 31 30 3
  else if a = Reg.TND_PCFG 3 then putBits w 30 0 0
  else if Reg.TND_DESC 0 0 ≤ a && a < Reg.TND_DESC 16 0 then
    w &&& descMask (s.rf (Reg.TND_DESC ((a - Reg.TND_DESC 0 0) / 32) 0) 30 29) (a % 32 / 4)
  else if a = Reg.PWR_DSTAT 160 || a = Reg.PWR_DSTAT 176 then putBits w 31 29 (s.domState ((a - 0x11000) / 128))
  else if a = Reg.CLK_ISL 176 then (if s.vrn.live then 2 ^ 31 + 200 else 0)
  else if 0x100000000 ≤ a && a < 0x200000000 && a % 0x400000 = 0x300274 then s.hzStat (winLcn a)
  else w

/-- The upper part of a wide counter whose low register is at `a` (R14). -/
def State.upper (s : State) (a : Nat) : Nat := if a = Reg.TMR_TIME then s.time / 2 ^ 32 else (s.rd (a + 4)).toNat

/-- A read of the register at `a` by a source whose access its unit answers (R10, R12, R14). -/
def State.regRead (s : State) (src : Src) (a : Nat) : State × Nat :=
  if madeWord a then (s, s.shown a)
  else match regRow a with
  | none => (s, 0)
  | some r =>
    if r.wide = 2 then (s, mapGet 0 s.latches (4 * (a - 4) + srcCode src))
    else
      let v := visible (s.shown a) r.fields
      if a = Reg.SMC_LAGMAX then (s.wr a 0, v)
      else if r.wide = 1 then ({ s with latches := mapSet 0 s.latches (4 * a + srcCode src) (s.upper a) }, v)
      else (s.wr a (BitVec.ofNat 32 (rcCleared (s.rd a).toNat r.fields)), v)

/-- A read of a register of pass-through router `n` (R242, R276): its identity, and the flits of its east and west outputs; of
what else the map names it has nothing. -/
def State.passRead (s : State) (src : Src) (n off ident : Nat) : State × Nat :=
  let a := rtrWin n + off
  if off = 0 then (s, ident)
  else if off = 0x48 || off = 0x58 then ({ s with latches := mapSet 0 s.latches (4 * a + srcCode src) (s.upper a) }, (s.rd a).toNat)
  else if off = 0x4C || off = 0x5C then (s, mapGet 0 s.latches (4 * (a - 4) + srcCode src))
  else (s, 0)

/-- A read of RST_DIAGDATA (R31, R242, R586): the router register that RST_DIAGSEL names. -/
def State.diagRead (s : State) (src : Src) : State × Nat :=
  let pcn := s.rf Reg.RST_DIAGSEL 31 21
  let off := s.rf Reg.RST_DIAGSEL 11 2 * 4
  let row := pcn / 36
  let col := pcn % 36
  let n := s.nodeAt row col
  if 1151 < pcn || !s.domOn (128 + (row / 8 * 4 + col / 9)) then (s, 0)
  else if n < 1024 then s.regRead src (rtrWin n + off)
  else s.passRead src n off (rtrId row col (if col = 0 then 1 else 0) false)

/-- A read of an aligned word of a register (R9, R34, R35). -/
def State.wordRead (s : State) (src : Src) (a : Nat) : State × Nat :=
  match s.accKind src false a with
  | some k => if reservedOff a then (s, 0) else (s.accErr src false k a, 0)
  | none =>
    let off := a % 0x400000
    if a = Reg.RST_DIAGDATA then s.diagRead src
    else if 0x1400000 ≤ a && a < 0x1600000 then (s, 0)
    else if 0x100000000 ≤ a && a < 0x200000000 && 0x310014 ≤ off && off < 0x310034 && off % 8 = 4 then
      s.selPop (winLcn a) ((off - 0x310014) / 8)
    else s.regRead src a

/-- The ECC word that holds a byte cannot be corrected. -/
def State.badWord (s : State) (a : Nat) : Bool :=
  2 ≤ mapGet 0 s.upsets (eccWord a) || mapGet false s.poison (eccWord a)

/-- A read of a storage window (R32, R82, R175, R176): correctable words are corrected and counted, others are reported, and
the bytes of one that cannot be corrected are free values. -/
def State.storageRead (s : State) (src : Src) (a n : Nat) : State × List Byte :=
  match s.accKind src false a with
  | some k => (s.accErr src false k a, zeros n)
  | none =>
    let bad := (List.range n).any (fun i => s.badWord (a + i))
    let v := (List.range n).map (fun i => if s.badWord (a + i) then BitVec.ofNat 8 (Config.freeNat s.draws / 256 ^ i) else s.byte (a + i))
    let t := if bad then s.draw else s
    if 0x100000000 ≤ a && a < 0x200000000 then ((t.eccRead (winLcn a) a n).1, v)
    else if 0x200000000 ≤ a && a < 0x220000000 then
      let p := winPart a
      let off := a - vltWin p
      (if off < 0x1FF0000 then (t.windowGrant a n).vaultRead p off n else t, v)
    else (t, v)

/-- One access of a read. -/
def State.pieceRead (s : State) (src : Src) (a n : Nat) : State × List Byte :=
  if storageAt a then s.storageRead src a n
  else if !mapped a then (s.accErr src false 0 a, zeros n)
  else if a % 4 = 0 && n = 4 then
    let r := s.wordRead src a
    (r.1, leBytes 4 r.2)
  else (s, zeros n)

/-- A read of `n` bytes from `a` up, access by access. -/
def State.busRead (s : State) (src : Src) (a n : Nat) : State × List Byte :=
  (pieces n a n).foldl (fun (r : State × List Byte) p =>
    let q := r.1.pieceRead src p.1 p.2
    (q.1, r.2 ++ q.2)) (s, [])

/-- A read command: of a pop window by PCIe under R431, else access by access. -/
def State.readRange (s : State) (src : Src) (a n : Nat) : State :=
  if src = .pcie && 0x1400000 ≤ a && a < 0x1600000 then s.ran (execHostQueuePopRead ((a - 0x1400000) / 512) (a % 512) n)
  else
    let r := s.busRead src a n
    r.1.answer r.2

/-- REGISTER_WRITE (R10): the low `len` bytes of `data`. -/
def execRegisterWrite (src : Src) (addr len data : Nat) (s : State) : Out := .next (s.busWrite src addr (leBytes len data))

/-- RC_REGISTER_READ (R10, R13). -/
def execRcRegisterRead (src : Src) (addr len : Nat) (s : State) : Out := .next (s.readRange src addr len)

/-- COUNTER_LOW_READ (R14). -/
def execCounterLowRead (src : Src) (addr len : Nat) (s : State) : Out := .next (s.readRange src addr len)

/-- WINDOW_STORAGE_WRITE (R32). -/
def execWindowStorageWrite (src : Src) (addr : Nat) (data : List Byte) (s : State) : Out := .next (s.busWrite src addr data)

/-- DIAG_DATA_READ (R586). -/
def execDiagDataRead (src : Src) (s : State) : Out := .next (s.readRange src Reg.RST_DIAGDATA 4)

end Sys2Proof.Machine
end

