-- ==== Sys2Proof/Machine/HostPorts.lean ====
section
/-! DEFINITION. What reaches the address space through the Ladle's segments (R426, R429), the SMBus port (R438, R439) and PCIe
configuration requests (R416 to R421, R434, R436). -/

namespace Sys2Proof.Machine

/-- A channel has a segment to move (R429): a transfer in progress while it is RUNNING; EVENTS only once the records read are
handed over. -/
def State.chWants (s : State) (n : Nat) : Bool :=
  let x := s.chan n
  s.domOn 162 && !s.hostGone && s.chState n == 1 && x.cur.isSome && x.evs.isEmpty

/-- The channel that the arbiter takes: the highest PRIO, in rotation after the one granted last (R429). -/
def State.chPick (s : State) : Option Nat :=
  let ready := ((List.range 32).map (fun i => (s.ldl.last + 1 + i) % 32)).filter s.chWants
  let top := (ready.map (fun n => s.rf (Reg.LDL_CHCFG n) 30 29)).foldl max 0
  ready.find? (fun n => s.rf (Reg.LDL_CHCFG n) 30 29 == top)

/-- A grant of the Ladle's arbiter (R646). -/
def State.chGrant (s : State) (n : Nat) : State :=
  { s.wr (Reg.ARB_LDL_GRANT n) (s.rd (Reg.ARB_LDL_GRANT n) + 1) with ldl := { s.ldl with last := n } }

/-- Bytes moved by a channel are counted, and its job stands `k` further; the last segment ends the descriptor (R427, R428). -/
def State.chMoved (s : State) (n k : Nat) (j : ChJob) (acc : Bool) : State :=
  let s := s.bump48 (Reg.LDL_CHBYTES n) k
  let s := if acc then s.setBit Reg.LDL_ERRSTAT 0 else s
  let j := { j with done := j.done + k, acc := j.acc || acc }
  if j.done = j.len then s.chEnd n j j.len (if j.acc then 1 else 0) 0 none
  else s.setChan n { s.chan n with cur := some j }

/-- A segment of at most 4 KiB from the start of what is left (R426, R429). -/
def State.chSegment (s : State) (n : Nat) (j : ChJob) : State :=
  match j.op with
  | 1 =>
    let k := min 4096 (j.len - j.done)
    let a := j.daddr + j.done
    (s.busWrite .pcie a (s.hostBytes (j.haddr + j.done) k)).chMoved n k j ((pieces k a k).any (s.recorded .pcie true))
  | 2 =>
    let k := min 4096 (j.len - j.done)
    let a := j.daddr + j.done
    let r := s.busRead .pcie a k
    (r.1.hostPut (j.haddr + j.done) r.2).chMoved n k j ((pieces k a k).any (s.recorded .pcie false))
  | _ =>
    let k := min 256 (j.len / 16 - j.done)
    let recs := (List.range k).map (fun i => s.hostBytes (j.haddr + 16 * (j.done + i)) 16)
    let s := s.bump48 (Reg.LDL_CHBYTES n) (16 * k)
    s.setChan n { s.chan n with cur := some { j with done := j.done + k }, evs := recs }

/-- LADLE_SEGMENT (R426, R429): only the channel that the arbiter takes moves. -/
def execLadleSegment (ch : Nat) (s : State) : Out :=
  .next <|
    match s.chPick, (s.chan ch).cur with
    | some n, some j => if n = ch then ((s.chGrant ch).chSegment ch j).chShow ch else s
    | _, _ => s

/-- The SMBus port answers (R438). -/
def State.smbOn (s : State) : Bool := s.bit Reg.HIF_SMBCFG 31

/-- A transaction without a valid PEC (R438). -/
def State.smbBad (s : State) : State := { s.bump Reg.HIF_SMBPECCNT 1 with ldl := { s.ldl with smbPec := true } }

/-- A transaction of the SMBus port: a bad PEC discards it. -/
def State.smbus (s : State) (pecOk : Bool) (go : State → State) : State :=
  if !s.smbOn then s else if !pecOk then s.smbBad else go s

/-- The status byte's memory of recorded accesses. -/
def State.smbSaw (s : State) (seen : Bool) : State := { s with ldl := { s.ldl with smbAcc := s.ldl.smbAcc || seen } }

/-- SMBUS_BLOCK_WRITE (R438, R439): one 32-bit write; other counts than 9 are no such command. -/
def execSmbusBlockWrite (bytes : List Byte) (pecOk : Bool) (s : State) : Out :=
  .next <| s.smbus pecOk (fun s =>
    if bytes.length ≠ 9 then s
    else
      let a := leNat (bytes.take 5)
      (s.busWrite .smbus a (bytes.drop 5)).smbSaw ((pieces 4 a 4).any (s.recorded .smbus true)))

/-- SMBUS_SET_POINTER (R438). -/
def execSmbusSetPointer (bytes : List Byte) (pecOk : Bool) (s : State) : Out :=
  .next <| s.smbus pecOk (fun s =>
    if bytes.length ≠ 5 then s else { s with ldl := { s.ldl with ptr := leNat bytes } })

/-- SMBUS_BLOCK_READ (R438): the word at the pointer, which then moves on by 4 in 40 bits. -/
def execSmbusBlockRead (pecOk : Bool) (s : State) : Out :=
  .next <| s.smbus pecOk (fun s =>
    let a := s.ldl.ptr
    let r := s.busRead .smbus a 4
    let t := (r.1.smbSaw ((pieces 4 a 4).any (s.recorded .smbus false))).answer r.2
    { t with ldl := { t.ldl with ptr := (a + 4) % 2 ^ 40 } })

/-- SMBUS_STATUS (R438). -/
def execSmbusStatus (pecOk : Bool) (s : State) : Out :=
  .next <| s.smbus pecOk (fun s =>
    let t := s.answer (leBytes 1 (s.ldl.smbAcc.toNat + 2 * s.ldl.smbPec.toNat + 4 * s.hostGone.toNat))
    { t with ldl := { t.ldl with smbAcc := false, smbPec := false } })

/-- SMBUS_SCL_TIMEOUT (R438): the transaction is discarded; it has no valid PEC. -/
def execSmbusSclTimeout (s : State) : Out := .next (if s.smbOn then s.smbBad else s)

/-- Bits of a configuration dword that the host writes (assumption log 21): command, BARs, interrupt line, power state, Device
Control, Link Control, Device Control 2, Link Control 2, MSI-X control, and of AER the masks, severities and ECRC enables. -/
def cfgMasks : List (Nat × Nat) :=
  [(0x04, 0x0546), (0x10, 0xFC000000), (0x14, 0xFFFFFFFF), (0x1C, 0xFFFFFFFC), (0x3C, 0xFF), (0x44, 0x3), (0x78, 0x79FF), (0x80, 0xCB),
   (0x98, 0x1010), (0xA0, 0xFFBF), (0xB0, 0xC0000000), (0x118, 0x1FF010), (0x11C, 0x1FF010), (0x124, 0x31C1), (0x128, 0x140)]

/-- Those bits of one dword. -/
def cfgMask (off : Nat) : Nat := mapGet 0 cfgMasks off

/-- Reset value of the bits that the host writes (assumption log 21). -/
def cfgReset (off : Nat) : Word := mapGet 0 [(0x78, 0x2810), (0xA0, 0x5), (0x11C, 0x62010), (0x124, 0x2000)] off

/-- The written bits of a configuration dword as they stand. -/
def State.cfgBits (s : State) (off : Nat) : Nat := (mapGet (cfgReset off) s.cfg off).toNat

/-- Fixed bits of configuration space, by dword (R416, R417, R419, R421; the capabilities have the layout of the standard at the
places of assumption log 21): identity and BARs; power management; PCI Express with its device and link capabilities; MSI-X; then
the extended capabilities: serial number, AER, Secondary PCIe, Data Link Feature, 16.0 GT/s, 32.0 GT/s, Lane Margining. -/
def cfgConst : List (Nat × Nat) :=
  [(0x00, 0x96401F2E), (0x04, 0x00100000), (0x10, 0x4), (0x18, 0xC), (0x34, 0x40), (0x40, 0x00037001), (0x70, 0x0002B010),
   (0x74, 0x10008022), (0x7C, 0x00400885), (0x94, 0x00030010), (0x9C, 0x3E), (0xB0, 0x07FF0011), (0xB4, 0x01800000), (0xB8, 0x01808000),
   (0x100, 0x11010003), (0x110, 0x14020001), (0x128, 0xA0), (0x140, 0x16010019), (0x160, 0x17010025), (0x164, 0x80000001),
   (0x170, 0x1A010026), (0x1A0, 0x1D01002A), (0x1D0, 0x00010027)]

/-- Bits of a configuration dword that the host does not write: the fixed ones, the revision, the link's speed and width as Link
Status shows them, and the serial number (R416, R417). -/
def State.cfgFixed (s : State) (off : Nat) : Nat :=
  match off with
  | 0x08 => 0x12000000 + s.rf Reg.SYS_DEVID 7 4
  | 0x80 => s.rf Reg.HIF_LINK 30 28 * 2 ^ 16 + s.rf Reg.HIF_LINK 27 24 * 2 ^ 20
  | 0x104 => s.sec.serial % 2 ^ 32
  | 0x108 => s.sec.serial / 2 ^ 32 % 2 ^ 32
  | _ => mapGet 0 cfgConst off

/-- The endpoint is ready (R418): its domain runs, PCIE_PERST_N is released and the link is up. -/
def State.endpointReady (s : State) : Bool := s.domOn 162 && !s.rst.perst && s.bit Reg.HIF_LINK 31

/-- A configuration write and what it does: host-lost state begins where Bus Master Enable falls, the function goes to D3hot
or is reset (R434), ends under R436, and pending vectors follow MSI-X control (R421). -/
def State.cfgWrite (s : State) (off data : Nat) : State :=
  let t := { s with cfg := mapSet (cfgReset off) s.cfg off (BitVec.ofNat 32 (data &&& cfgMask off)) }
  if off = 0x78 && bitAt data 15 then s.hostLost .flr
  else if off = 0x04 || off = 0x44 then
    if s.busMaster && !t.busMaster then t.hostLost (if off = 0x04 then .busMasterClear else .d3hot) else t.hostBack
  else if off = 0xB0 then t.msixFlush
  else t

/-- PCIE_CONFIG_REQUEST (R416 to R418): until it is ready the endpoint answers Request Retry Status, which carries no data; a
read answers the dword at `off`. -/
def execPcieConfigRequest (write : Bool) (off data : Nat) (s : State) : Out :=
  .next <|
    let o := off % 4096 / 4 * 4
    if !s.endpointReady then s.answer []
    else if write then s.cfgWrite o data
    else s.answer (leBytes 4 (s.cfgFixed o ||| s.cfgBits o))

end Sys2Proof.Machine
end

