-- ==== Sys2Proof/Machine/Dispatch.lean ====
section
/-! DEFINITION. Which meaning each command has: one arm for each constructor of Instr. -/

namespace Sys2Proof.Machine

/-- The effect of a command on everything but the queue. -/
def exec (i : Instr) (s : State) : Host.Outcome State Fault Refusal :=
  match i with
  | .registerWrite src addr len data => Sys2Proof.Machine.execRegisterWrite src addr len data s
  | .rcRegisterRead src addr len => Sys2Proof.Machine.execRcRegisterRead src addr len s
  | .counterLowRead src addr len => Sys2Proof.Machine.execCounterLowRead src addr len s
  | .windowStorageWrite src addr data => Sys2Proof.Machine.execWindowStorageWrite src addr data s
  | .pcieConfigRequest write off data => Sys2Proof.Machine.execPcieConfigRequest write off data s
  | .loadSlot src slot => Sys2Proof.Machine.execLoadSlot src slot s
  | .loadHost src => Sys2Proof.Machine.execLoadHost src s
  | .imageStopForLoad => Sys2Proof.Machine.execImageStopForLoad s
  | .imageClearDone => Sys2Proof.Machine.execImageClearDone s
  | .imageSectionStreamed => Sys2Proof.Machine.execImageSectionStreamed s
  | .configWrite lcn => Sys2Proof.Machine.execConfigWrite lcn s
  | .imageVerifyDone => Sys2Proof.Machine.execImageVerifyDone s
  | .install src slot => Sys2Proof.Machine.execInstall src slot s
  | .installProgramDone => Sys2Proof.Machine.execInstallProgramDone s
  | .activateDelta src arg => Sys2Proof.Machine.execActivateDelta src arg s
  | .discardDelta src => Sys2Proof.Machine.execDiscardDelta src s
  | .settingsReset src slot => Sys2Proof.Machine.execSettingsReset src slot s
  | .eventQueueAccept lcn vc => Sys2Proof.Machine.execEventQueueAccept lcn vc s
  | .accumulateEntry lcn => Sys2Proof.Machine.execAccumulateEntry lcn s
  | .axonEntryRead lcn => Sys2Proof.Machine.execAxonEntryRead lcn s
  | .synapseBeat lcn => Sys2Proof.Machine.execSynapseBeat lcn s
  | .ncrDpoolWrite src lcn data => Sys2Proof.Machine.execNcrDpoolWrite src lcn data s
  | .stepAdmit lcn => Sys2Proof.Machine.execStepAdmit lcn s
  | .accumulateEnd lcn => Sys2Proof.Machine.execAccumulateEnd lcn s
  | .groupRunStart lcn => Sys2Proof.Machine.execGroupRunStart lcn s
  | .nop lcn => Sys2Proof.Machine.execNop lcn s
  | .mov lcn => Sys2Proof.Machine.execMov lcn s
  | .add lcn => Sys2Proof.Machine.execAdd lcn s
  | .sub lcn => Sys2Proof.Machine.execSub lcn s
  | .mul lcn => Sys2Proof.Machine.execMul lcn s
  | .mac lcn => Sys2Proof.Machine.execMac lcn s
  | .minOp lcn => Sys2Proof.Machine.execMinOp lcn s
  | .maxOp lcn => Sys2Proof.Machine.execMaxOp lcn s
  | .absOp lcn => Sys2Proof.Machine.execAbsOp lcn s
  | .andOp lcn => Sys2Proof.Machine.execAndOp lcn s
  | .orOp lcn => Sys2Proof.Machine.execOrOp lcn s
  | .xor lcn => Sys2Proof.Machine.execXor lcn s
  | .shl lcn => Sys2Proof.Machine.execShl lcn s
  | .shr lcn => Sys2Proof.Machine.execShr lcn s
  | .clt lcn => Sys2Proof.Machine.execClt lcn s
  | .cle lcn => Sys2Proof.Machine.execCle lcn s
  | .ceq lcn => Sys2Proof.Machine.execCeq lcn s
  | .movi lcn => Sys2Proof.Machine.execMovi lcn s
  | .addi lcn => Sys2Proof.Machine.execAddi lcn s
  | .muli lcn => Sys2Proof.Machine.execMuli lcn s
  | .clti lcn => Sys2Proof.Machine.execClti lcn s
  | .cgei lcn => Sys2Proof.Machine.execCgei lcn s
  | .lut lcn => Sys2Proof.Machine.execLut lcn s
  | .decay lcn => Sys2Proof.Machine.execDecay lcn s
  | .trace lcn => Sys2Proof.Machine.execTrace lcn s
  | .rda lcn => Sys2Proof.Machine.execRda lcn s
  | .get lcn => Sys2Proof.Machine.execGet lcn s
  | .setq lcn => Sys2Proof.Machine.execSetq lcn s
  | .br lcn => Sys2Proof.Machine.execBr lcn s
  | .emit lcn => Sys2Proof.Machine.execEmit lcn s
  | .emitg lcn => Sys2Proof.Machine.execEmitg lcn s
  | .sendSum lcn => Sys2Proof.Machine.execSendSum lcn s
  | .sendMessage lcn => Sys2Proof.Machine.execSendMessage lcn s
  | .endRun lcn => Sys2Proof.Machine.execEndRun lcn s
  | .uclimitExpiry lcn => Sys2Proof.Machine.execUclimitExpiry lcn s
  | .stepSeal lcn => Sys2Proof.Machine.execStepSeal lcn s
  | .coreScrubWord lcn => Sys2Proof.Machine.execCoreScrubWord lcn s
  | .vaultScrubWord part => Sys2Proof.Machine.execVaultScrubWord part s
  | .rowCopyDone part => Sys2Proof.Machine.execRowCopyDone part s
  | .horizonReportReceive who => Sys2Proof.Machine.execHorizonReportReceive who s
  | .horizonTimeout lcn => Sys2Proof.Machine.execHorizonTimeout lcn s
  | .tundishAdmit => Sys2Proof.Machine.execTundishAdmit s
  | .tundishInjectionEnd => Sys2Proof.Machine.execTundishInjectionEnd s
  | .tundishStepSeal => Sys2Proof.Machine.execTundishStepSeal s
  | .modePrepare who => Sys2Proof.Machine.execModePrepare who s
  | .modeAckReceive => Sys2Proof.Machine.execModeAckReceive s
  | .modeCommitTimeout => Sys2Proof.Machine.execModeCommitTimeout s
  | .modeCommitReceive who => Sys2Proof.Machine.execModeCommitReceive who s
  | .modeAbortReceive who => Sys2Proof.Machine.execModeAbortReceive who s
  | .startRun src => Sys2Proof.Machine.execStartRun src s
  | .holdRun src => Sys2Proof.Machine.execHoldRun src s
  | .resumeRun src => Sys2Proof.Machine.execResumeRun src s
  | .stepRun src arg => Sys2Proof.Machine.execStepRun src arg s
  | .stopRun src => Sys2Proof.Machine.execStopRun src s
  | .learnOn src => Sys2Proof.Machine.execLearnOn src s
  | .learnOff src => Sys2Proof.Machine.execLearnOff src s
  | .lockstepMode src => Sys2Proof.Machine.execLockstepMode src s
  | .horizonMode src => Sys2Proof.Machine.execHorizonMode src s
  | .steplen src arg => Sys2Proof.Machine.execSteplen src arg s
  | .runHeld => Sys2Proof.Machine.execRunHeld s
  | .routerPacketArrive node port err => Sys2Proof.Machine.execRouterPacketArrive node port err s
  | .routerRoute lcn port vc => Sys2Proof.Machine.execRouterRoute lcn port vc s
  | .routerPacketSend lcn out aged => Sys2Proof.Machine.execRouterPacketSend lcn out aged s
  | .passThroughForward pcn port vc => Sys2Proof.Machine.execPassThroughForward pcn port vc s
  | .creditReturn node port vc => Sys2Proof.Machine.execCreditReturn node port vc s
  | .escapeTimeout lcn port vc => Sys2Proof.Machine.execEscapeTimeout lcn port vc s
  | .retirementToken n => Sys2Proof.Machine.execRetirementToken n s
  | .combineWindowClose lcn entry => Sys2Proof.Machine.execCombineWindowClose lcn entry s
  | .faultCoalesceClose lcn entry => Sys2Proof.Machine.execFaultCoalesceClose lcn entry s
  | .injectorDrained who => Sys2Proof.Machine.execInjectorDrained who s
  | .drainReceive => Sys2Proof.Machine.execDrainReceive s
  | .msgRequestAccept lcn => Sys2Proof.Machine.execMsgRequestAccept lcn s
  | .forwardSend lcn => Sys2Proof.Machine.execForwardSend lcn s
  | .selectorPop src lcn sel => Sys2Proof.Machine.execSelectorPop src lcn sel s
  | .msgRelease src lcn queue => Sys2Proof.Machine.execMsgRelease src lcn queue s
  | .msgReplyReceive who => Sys2Proof.Machine.execMsgReplyReceive who s
  | .msgReplyTimeout who desc => Sys2Proof.Machine.execMsgReplyTimeout who desc s
  | .msgQueueConfigWrite src lcn queue ring data => Sys2Proof.Machine.execMsgQueueConfigWrite src lcn queue ring data s
  | .preRecordApply part => Sys2Proof.Machine.execPreRecordApply part s
  | .rewardReceive part => Sys2Proof.Machine.execRewardReceive part s
  | .epochPassBegin part => Sys2Proof.Machine.execEpochPassBegin part s
  | .checkpointComplete part => Sys2Proof.Machine.execCheckpointComplete part s
  | .synapseUpdate part => Sys2Proof.Machine.execSynapseUpdate part s
  | .pass1End part => Sys2Proof.Machine.execPass1End part s
  | .synapseRescale part => Sys2Proof.Machine.execSynapseRescale part s
  | .epochPassEnd part => Sys2Proof.Machine.execEpochPassEnd part s
  | .weightSaveBegin => Sys2Proof.Machine.execWeightSaveBegin s
  | .weightSaveChunk part => Sys2Proof.Machine.execWeightSaveChunk part s
  | .csiLongPacket port header payload crc => Sys2Proof.Machine.execCsiLongPacket port header payload crc s
  | .csiFrameStart port vc frame => Sys2Proof.Machine.execCsiFrameStart port vc frame s
  | .csiFrameEnd port vc frame => Sys2Proof.Machine.execCsiFrameEnd port vc frame s
  | .csi3Copy header payload crc => Sys2Proof.Machine.execCsi3Copy header payload crc s
  | .streamDecode port => Sys2Proof.Machine.execStreamDecode port s
  | .tundishInject row => Sys2Proof.Machine.execTundishInject row s
  | .hostEventInject ch => Sys2Proof.Machine.execHostEventInject ch s
  | .countRecordSend lcn => Sys2Proof.Machine.execCountRecordSend lcn s
  | .countRecordRetry lcn => Sys2Proof.Machine.execCountRecordRetry lcn s
  | .windowRecordRetry => Sys2Proof.Machine.execWindowRecordRetry s
  | .ladleDoorbell src ch tail => Sys2Proof.Machine.execLadleDoorbell src ch tail s
  | .ladleChannelEnable src ch cfg => Sys2Proof.Machine.execLadleChannelEnable src ch cfg s
  | .ladleChannelDisable src ch cfg => Sys2Proof.Machine.execLadleChannelDisable src ch cfg s
  | .ladleNop ch => Sys2Proof.Machine.execLadleNop ch s
  | .ladleH2d ch => Sys2Proof.Machine.execLadleH2d ch s
  | .ladleD2h ch => Sys2Proof.Machine.execLadleD2h ch s
  | .ladleEvents ch => Sys2Proof.Machine.execLadleEvents ch s
  | .ladleMsg ch => Sys2Proof.Machine.execLadleMsg ch s
  | .ladleReadq ch => Sys2Proof.Machine.execLadleReadq ch s
  | .ladleSegment ch => Sys2Proof.Machine.execLadleSegment ch s
  | .ladleCompletion ch => Sys2Proof.Machine.execLadleCompletion ch s
  | .ladleReadTimeout ch => Sys2Proof.Machine.execLadleReadTimeout ch s
  | .hostQueueAccept att => Sys2Proof.Machine.execHostQueueAccept att s
  | .ladleSelectorSignal att => Sys2Proof.Machine.execLadleSelectorSignal att s
  | .hostQueuePopRead queue off len => Sys2Proof.Machine.execHostQueuePopRead queue off len s
  | .hostRingTransfer queue => Sys2Proof.Machine.execHostRingTransfer queue s
  | .hostQueueIrqDelay queue => Sys2Proof.Machine.execHostQueueIrqDelay queue s
  | .hostQueueLocalWrite src queue data => Sys2Proof.Machine.execHostQueueLocalWrite src queue data s
  | .hostLostEntry cause => Sys2Proof.Machine.execHostLostEntry cause s
  | .hostLostExit speed width => Sys2Proof.Machine.execHostLostExit speed width s
  | .smbusBlockWrite bytes pecOk => Sys2Proof.Machine.execSmbusBlockWrite bytes pecOk s
  | .smbusSetPointer bytes pecOk => Sys2Proof.Machine.execSmbusSetPointer bytes pecOk s
  | .smbusBlockRead pecOk => Sys2Proof.Machine.execSmbusBlockRead pecOk s
  | .smbusStatus pecOk => Sys2Proof.Machine.execSmbusStatus pecOk s
  | .smbusSclTimeout => Sys2Proof.Machine.execSmbusSclTimeout s
  | .linkTrainingDone link lanes => Sys2Proof.Machine.execLinkTrainingDone link lanes s
  | .linkTrainRetry link => Sys2Proof.Machine.execLinkTrainRetry link s
  | .linkLaneFail link lane => Sys2Proof.Machine.execLinkLaneFail link lane s
  | .linkRetrainDone link lanes => Sys2Proof.Machine.execLinkRetrainDone link lanes s
  | .linkRetrainRequest src link => Sys2Proof.Machine.execLinkRetrainRequest src link s
  | .linkEnable src link => Sys2Proof.Machine.execLinkEnable src link s
  | .dataFrameReceive link frame => Sys2Proof.Machine.execDataFrameReceive link frame s
  | .returnFrameReceive link frame => Sys2Proof.Machine.execReturnFrameReceive link frame s
  | .idleFrameReceive link frame => Sys2Proof.Machine.execIdleFrameReceive link frame s
  | .nakFrameReceive link frame => Sys2Proof.Machine.execNakFrameReceive link frame s
  | .mgmtFrameReceive link frame => Sys2Proof.Machine.execMgmtFrameReceive link frame s
  | .dataFrameSend link => Sys2Proof.Machine.execDataFrameSend link s
  | .idleFrameSend link => Sys2Proof.Machine.execIdleFrameSend link s
  | .linkAckTimeout link => Sys2Proof.Machine.execLinkAckTimeout link s
  | .linkPeerTimeout link => Sys2Proof.Machine.execLinkPeerTimeout link s
  | .discoveryStable => Sys2Proof.Machine.execDiscoveryStable s
  | .discoveryTimeout => Sys2Proof.Machine.execDiscoveryTimeout s
  | .timeSyncExchange offset => Sys2Proof.Machine.execTimeSyncExchange offset s
  | .remotePrepare => Sys2Proof.Machine.execRemotePrepare s
  | .learningClearAll src => Sys2Proof.Machine.execLearningClearAll src s
  | .learningClearOne src entry => Sys2Proof.Machine.execLearningClearOne src entry s
  | .vernierResetAssert => Sys2Proof.Machine.execVernierResetAssert s
  | .vernierResetRelease => Sys2Proof.Machine.execVernierResetRelease s
  | .vernierBootDone => Sys2Proof.Machine.execVernierBootDone s
  | .lockstepMismatch => Sys2Proof.Machine.execLockstepMismatch s
  | .encoderEdge enc move => Sys2Proof.Machine.execEncoderEdge enc move s
  | .vernierFrameStart => Sys2Proof.Machine.execVernierFrameStart s
  | .profileFrameEnd => Sys2Proof.Machine.execProfileFrameEnd s
  | .profileSummaryDone => Sys2Proof.Machine.execProfileSummaryDone s
  | .resultRecordPublish => Sys2Proof.Machine.execResultRecordPublish s
  | .indicatorRead addr len hits => Sys2Proof.Machine.execIndicatorRead addr len hits s
  | .indicatorStatus => Sys2Proof.Machine.execIndicatorStatus s
  | .indicatorOther cmd len => Sys2Proof.Machine.execIndicatorOther cmd len s
  | .sealChange closed => Sys2Proof.Machine.execSealChange closed s
  | .fwChunk src index => Sys2Proof.Machine.execFwChunk src index s
  | .vrnFwActivate src => Sys2Proof.Machine.execVrnFwActivate src s
  | .parChunk src index => Sys2Proof.Machine.execParChunk src index s
  | .parCommit src => Sys2Proof.Machine.execParCommit src s
  | .archive src => Sys2Proof.Machine.execArchive src s
  | .abortStaged src => Sys2Proof.Machine.execAbortStaged src s
  | .challenge src role slot => Sys2Proof.Machine.execChallenge src role slot s
  | .verifySession src => Sys2Proof.Machine.execVerifySession src s
  | .closeSession src => Sys2Proof.Machine.execCloseSession src s
  | .progKey src role slot => Sys2Proof.Machine.execProgKey src role slot s
  | .revokeKey src role slot => Sys2Proof.Machine.execRevokeKey src role slot s
  | .provMaker src => Sys2Proof.Machine.execProvMaker src s
  | .keyProgramDone good => Sys2Proof.Machine.execKeyProgramDone good s
  | .keyRevokeDone good => Sys2Proof.Machine.execKeyRevokeDone good s
  | .sessionIdleTimeout => Sys2Proof.Machine.execSessionIdleTimeout s
  | .secSealChange closed => Sys2Proof.Machine.execSecSealChange closed s
  | .lockoutExpiry => Sys2Proof.Machine.execLockoutExpiry s
  | .sleep src => Sys2Proof.Machine.execSleep src s
  | .deepState src => Sys2Proof.Machine.execDeepState src s
  | .wake src => Sys2Proof.Machine.execWake src s
  | .profile src prof arg => Sys2Proof.Machine.execProfile src prof arg s
  | .deviceStateReached => Sys2Proof.Machine.execDeviceStateReached s
  | .wakeSource source => Sys2Proof.Machine.execWakeSource source s
  | .limiterTick draw => Sys2Proof.Machine.execLimiterTick draw s
  | .thermalSample temps => Sys2Proof.Machine.execThermalSample temps s
  | .domainIdleEntry dom => Sys2Proof.Machine.execDomainIdleEntry dom s
  | .domainIdleExit dom => Sys2Proof.Machine.execDomainIdleExit dom s
  | .wakeStageReady dom => Sys2Proof.Machine.execWakeStageReady dom s
  | .wakeStageTimeout dom pos => Sys2Proof.Machine.execWakeStageTimeout dom pos s
  | .wakeRetry dom => Sys2Proof.Machine.execWakeRetry dom s
  | .domainHardFailure dom => Sys2Proof.Machine.execDomainHardFailure dom s
  | .domainPowerDownDone dom => Sys2Proof.Machine.execDomainPowerDownDone dom s
  | .voltageRampDone dom => Sys2Proof.Machine.execVoltageRampDone dom s
  | .clockSwitchDone dom => Sys2Proof.Machine.execClockSwitchDone dom s
  | .pmbusStatusPoll status vout => Sys2Proof.Machine.execPmbusStatusPoll status vout s
  | .pwrCeilWrite src data => Sys2Proof.Machine.execPwrCeilWrite src data s
  | .pwrfailAssert => Sys2Proof.Machine.execPwrfailAssert s
  | .pwrfailRelease => Sys2Proof.Machine.execPwrfailRelease s
  | .porstAssert => Sys2Proof.Machine.execPorstAssert s
  | .porstRelease => Sys2Proof.Machine.execPorstRelease s
  | .sysrstAssert => Sys2Proof.Machine.execSysrstAssert s
  | .sysrstRelease => Sys2Proof.Machine.execSysrstRelease s
  | .aonSupplyLow => Sys2Proof.Machine.execAonSupplyLow s
  | .warmReset src => Sys2Proof.Machine.execWarmReset src s
  | .warmFull src => Sys2Proof.Machine.execWarmFull src s
  | .watchdogExpiry => Sys2Proof.Machine.execWatchdogExpiry s
  | .smcBootRestart => Sys2Proof.Machine.execSmcBootRestart s
  | .tapReset => Sys2Proof.Machine.execTapReset s
  | .releaseOrderStep => Sys2Proof.Machine.execReleaseOrderStep s
  | .fuseLoadDone => Sys2Proof.Machine.execFuseLoadDone s
  | .rstoutRelease => Sys2Proof.Machine.execRstoutRelease s
  | .startStageEnd found => Sys2Proof.Machine.execStartStageEnd found s
  | .coreWave wave => Sys2Proof.Machine.execCoreWave wave s
  | .pciePerstRelease => Sys2Proof.Machine.execPciePerstRelease s
  | .isolationComplete part => Sys2Proof.Machine.execIsolationComplete part s
  | .bandRowDrained => Sys2Proof.Machine.execBandRowDrained s
  | .coreCopyDone => Sys2Proof.Machine.execCoreCopyDone s
  | .fwInstall src slot => Sys2Proof.Machine.execFwInstall src slot s
  | .fwActivate src slot => Sys2Proof.Machine.execFwActivate src slot s
  | .fwSetreset src slot => Sys2Proof.Machine.execFwSetreset src slot s
  | .diagDataRead src => Sys2Proof.Machine.execDiagDataRead src s
  | .faultReportIntake => Sys2Proof.Machine.execFaultReportIntake s
  | .hangCheckExpiry slot => Sys2Proof.Machine.execHangCheckExpiry slot s
  | .recoveryBegin part => Sys2Proof.Machine.execRecoveryBegin part s
  | .recoveryRestore part => Sys2Proof.Machine.execRecoveryRestore part s
  | .replayArrivalFeed part => Sys2Proof.Machine.execReplayArrivalFeed part s
  | .recoveryRejoin part => Sys2Proof.Machine.execRecoveryRejoin part s
  | .suspectSearch part ctx guilty => Sys2Proof.Machine.execSuspectSearch part ctx guilty s
  | .recoveryCopyWrite => Sys2Proof.Machine.execRecoveryCopyWrite s
  | .availabilitySave => Sys2Proof.Machine.execAvailabilitySave s
  | .timerFire ch => Sys2Proof.Machine.execTimerFire ch s
  | .timerCompareWrite src ch data => Sys2Proof.Machine.execTimerCompareWrite src ch data s
  | .timerCtrlWrite src ch data => Sys2Proof.Machine.execTimerCtrlWrite src ch data s
  | .timerGroupStart src data => Sys2Proof.Machine.execTimerGroupStart src data s
  | .pulseEnd ch => Sys2Proof.Machine.execPulseEnd ch s
  | .lfModeEntry => Sys2Proof.Machine.execLfModeEntry s
  | .lfModeExit => Sys2Proof.Machine.execLfModeExit s
  | .lfclkLost => Sys2Proof.Machine.execLfclkLost s
  | .ephemerisArm src alarm word data => Sys2Proof.Machine.execEphemerisArm src alarm word data s
  | .ephemerisMessageSend => Sys2Proof.Machine.execEphemerisMessageSend s
  | .perfCounterClear src => Sys2Proof.Machine.execPerfCounterClear src s
  | .perfCountReport events => Sys2Proof.Machine.execPerfCountReport events s
  | .debugHaltWrite src group data => Sys2Proof.Machine.execDebugHaltWrite src group data s
  | .smcDebugHalt => Sys2Proof.Machine.execSmcDebugHalt s
  | .smcDebugResume forced => Sys2Proof.Machine.execSmcDebugResume forced s
  | .csiLinkStateChange port link => Sys2Proof.Machine.execCsiLinkStateChange port link s
  | .lfclkReturn => Sys2Proof.Machine.execLfclkReturn s
  | .aonSupplyReturn => Sys2Proof.Machine.execAonSupplyReturn s
  | .smcRequestReceive => Sys2Proof.Machine.execSmcRequestReceive s

end Sys2Proof.Machine
end

