-- ==== Sys2Proof/WellFormed.lean ====
section
/-! DEFINITION. Which commands are well formed: every operand in the range that the spec gives its field. A command outside
them names nothing of the device; the meanings are total all the same. -/

namespace Sys2Proof

/-- The operands of a command are in their ranges. -/
def Instr.wellFormed (i : Instr) : Bool :=
  match i with
  | .registerWrite _ addr _ data => addr < 1099511627776 && data < 4294967296
  | .rcRegisterRead _ addr _ => addr < 1099511627776
  | .counterLowRead _ addr _ => addr < 1099511627776
  | .windowStorageWrite _ addr _ => addr < 1099511627776
  | .pcieConfigRequest _ _ data => data < 4294967296
  | .loadSlot _ slot => slot < 2
  | .loadHost _ => true
  | .imageStopForLoad => true
  | .imageClearDone => true
  | .imageSectionStreamed => true
  | .configWrite lcn => lcn < 1024
  | .imageVerifyDone => true
  | .install _ slot => slot < 2
  | .installProgramDone => true
  | .activateDelta _ arg => arg < 65536
  | .discardDelta _ => true
  | .settingsReset _ slot => slot < 2
  | .eventQueueAccept lcn vc => lcn < 1024 && vc < 6
  | .accumulateEntry lcn => lcn < 1024
  | .axonEntryRead lcn => lcn < 1024
  | .synapseBeat lcn => lcn < 1024
  | .ncrDpoolWrite _ lcn data => lcn < 1024 && data < 4294967296
  | .stepAdmit lcn => lcn < 1024
  | .accumulateEnd lcn => lcn < 1024
  | .groupRunStart lcn => lcn < 1024
  | .nop lcn => lcn < 1024
  | .mov lcn => lcn < 1024
  | .add lcn => lcn < 1024
  | .sub lcn => lcn < 1024
  | .mul lcn => lcn < 1024
  | .mac lcn => lcn < 1024
  | .minOp lcn => lcn < 1024
  | .maxOp lcn => lcn < 1024
  | .absOp lcn => lcn < 1024
  | .andOp lcn => lcn < 1024
  | .orOp lcn => lcn < 1024
  | .xor lcn => lcn < 1024
  | .shl lcn => lcn < 1024
  | .shr lcn => lcn < 1024
  | .clt lcn => lcn < 1024
  | .cle lcn => lcn < 1024
  | .ceq lcn => lcn < 1024
  | .movi lcn => lcn < 1024
  | .addi lcn => lcn < 1024
  | .muli lcn => lcn < 1024
  | .clti lcn => lcn < 1024
  | .cgei lcn => lcn < 1024
  | .lut lcn => lcn < 1024
  | .decay lcn => lcn < 1024
  | .trace lcn => lcn < 1024
  | .rda lcn => lcn < 1024
  | .get lcn => lcn < 1024
  | .setq lcn => lcn < 1024
  | .br lcn => lcn < 1024
  | .emit lcn => lcn < 1024
  | .emitg lcn => lcn < 1024
  | .sendSum lcn => lcn < 1024
  | .sendMessage lcn => lcn < 1024
  | .endRun lcn => lcn < 1024
  | .uclimitExpiry lcn => lcn < 1024
  | .stepSeal lcn => lcn < 1024
  | .coreScrubWord lcn => lcn < 1024
  | .vaultScrubWord part => part < 16
  | .rowCopyDone part => part < 16
  | .horizonReportReceive who => who < 2066
  | .horizonTimeout lcn => lcn < 1024
  | .tundishAdmit => true
  | .tundishInjectionEnd => true
  | .tundishStepSeal => true
  | .modePrepare who => who < 2066
  | .modeAckReceive => true
  | .modeCommitTimeout => true
  | .modeCommitReceive who => who < 2066
  | .modeAbortReceive who => who < 2066
  | .startRun _ => true
  | .holdRun _ => true
  | .resumeRun _ => true
  | .stepRun _ arg => arg < 65536
  | .stopRun _ => true
  | .learnOn _ => true
  | .learnOff _ => true
  | .lockstepMode _ => true
  | .horizonMode _ => true
  | .steplen _ arg => arg < 65536
  | .runHeld => true
  | .routerPacketArrive node port _ => node < 4096 && port < 8
  | .routerRoute lcn port vc => lcn < 1024 && port < 8 && vc < 6
  | .routerPacketSend lcn out _ => lcn < 1024 && out < 7
  | .passThroughForward pcn port vc => pcn < 1152 && port < 8 && vc < 6
  | .creditReturn node port vc => node < 4096 && port < 8 && vc < 6
  | .escapeTimeout lcn port vc => lcn < 1024 && port < 8 && vc < 6
  | .retirementToken _ => true
  | .combineWindowClose lcn _ => lcn < 1024
  | .faultCoalesceClose lcn _ => lcn < 1024
  | .injectorDrained who => who < 2066
  | .drainReceive => true
  | .msgRequestAccept lcn => lcn < 1024
  | .forwardSend lcn => lcn < 1024
  | .selectorPop _ lcn sel => lcn < 1024 && sel < 4
  | .msgRelease _ lcn queue => lcn < 1024 && queue < 128
  | .msgReplyReceive who => who < 2066
  | .msgReplyTimeout who desc => who < 2066 && desc < 32
  | .msgQueueConfigWrite _ lcn queue _ data => lcn < 1024 && queue < 128 && data < 4294967296
  | .preRecordApply part => part < 16
  | .rewardReceive part => part < 16
  | .epochPassBegin part => part < 16
  | .checkpointComplete part => part < 16
  | .synapseUpdate part => part < 16
  | .pass1End part => part < 16
  | .synapseRescale part => part < 16
  | .epochPassEnd part => part < 16
  | .weightSaveBegin => true
  | .weightSaveChunk part => part < 16
  | .csiLongPacket port header _ _ => port < 4 && header < 4294967296
  | .csiFrameStart port vc _ => port < 4 && vc < 4
  | .csiFrameEnd port vc _ => port < 4 && vc < 4
  | .csi3Copy header _ _ => header < 4294967296
  | .streamDecode port => port < 4
  | .tundishInject row => row < 32
  | .hostEventInject ch => ch < 32
  | .countRecordSend lcn => lcn < 1024
  | .countRecordRetry lcn => lcn < 1024
  | .windowRecordRetry => true
  | .ladleDoorbell _ ch _ => ch < 32
  | .ladleChannelEnable _ ch _ => ch < 32
  | .ladleChannelDisable _ ch _ => ch < 32
  | .ladleNop ch => ch < 32
  | .ladleH2d ch => ch < 32
  | .ladleD2h ch => ch < 32
  | .ladleEvents ch => ch < 32
  | .ladleMsg ch => ch < 32
  | .ladleReadq ch => ch < 32
  | .ladleSegment ch => ch < 32
  | .ladleCompletion ch => ch < 32
  | .ladleReadTimeout ch => ch < 32
  | .hostQueueAccept att => att < 1060
  | .ladleSelectorSignal att => att < 1060
  | .hostQueuePopRead queue off _ => queue < 4096 && off < 512
  | .hostRingTransfer queue => queue < 4096
  | .hostQueueIrqDelay queue => queue < 4096
  | .hostQueueLocalWrite _ queue data => queue < 4096 && data < 4294967296
  | .hostLostEntry _ => true
  | .hostLostExit _ _ => true
  | .smbusBlockWrite _ _ => true
  | .smbusSetPointer _ _ => true
  | .smbusBlockRead _ => true
  | .smbusStatus _ => true
  | .smbusSclTimeout => true
  | .linkTrainingDone link lanes => link < 8 && lanes < 16
  | .linkTrainRetry link => link < 8
  | .linkLaneFail link lane => link < 8 && lane < 4
  | .linkRetrainDone link lanes => link < 8 && lanes < 16
  | .linkRetrainRequest _ link => link < 8
  | .linkEnable _ link => link < 8
  | .dataFrameReceive link _ => link < 8
  | .returnFrameReceive link _ => link < 8
  | .idleFrameReceive link _ => link < 8
  | .nakFrameReceive link _ => link < 8
  | .mgmtFrameReceive link _ => link < 8
  | .dataFrameSend link => link < 8
  | .idleFrameSend link => link < 8
  | .linkAckTimeout link => link < 8
  | .linkPeerTimeout link => link < 8
  | .discoveryStable => true
  | .discoveryTimeout => true
  | .timeSyncExchange _ => true
  | .remotePrepare => true
  | .learningClearAll _ => true
  | .learningClearOne _ _ => true
  | .vernierResetAssert => true
  | .vernierResetRelease => true
  | .vernierBootDone => true
  | .lockstepMismatch => true
  | .encoderEdge enc _ => enc < 8
  | .vernierFrameStart => true
  | .profileFrameEnd => true
  | .profileSummaryDone => true
  | .resultRecordPublish => true
  | .indicatorRead addr _ _ => addr < 1099511627776
  | .indicatorStatus => true
  | .indicatorOther _ _ => true
  | .sealChange _ => true
  | .fwChunk _ index => index < 96
  | .vrnFwActivate _ => true
  | .parChunk _ index => index < 96
  | .parCommit _ => true
  | .archive _ => true
  | .abortStaged _ => true
  | .challenge _ role slot => role < 4 && slot < 8
  | .verifySession _ => true
  | .closeSession _ => true
  | .progKey _ role slot => role < 4 && slot < 8
  | .revokeKey _ role slot => role < 4 && slot < 8
  | .provMaker _ => true
  | .keyProgramDone _ => true
  | .keyRevokeDone _ => true
  | .sessionIdleTimeout => true
  | .secSealChange _ => true
  | .lockoutExpiry => true
  | .sleep _ => true
  | .deepState _ => true
  | .wake _ => true
  | .profile _ prof arg => prof < 4 && arg < 65536
  | .deviceStateReached => true
  | .wakeSource _ => true
  | .limiterTick _ => true
  | .thermalSample _ => true
  | .domainIdleEntry dom => dom < 177
  | .domainIdleExit dom => dom < 177
  | .wakeStageReady dom => dom < 177
  | .wakeStageTimeout dom pos => dom < 177 && pos < 9
  | .wakeRetry dom => dom < 177
  | .domainHardFailure dom => dom < 177
  | .domainPowerDownDone dom => dom < 177
  | .voltageRampDone dom => dom < 177
  | .clockSwitchDone dom => dom < 177
  | .pmbusStatusPoll _ _ => true
  | .pwrCeilWrite _ data => data < 4294967296
  | .pwrfailAssert => true
  | .pwrfailRelease => true
  | .porstAssert => true
  | .porstRelease => true
  | .sysrstAssert => true
  | .sysrstRelease => true
  | .aonSupplyLow => true
  | .warmReset _ => true
  | .warmFull _ => true
  | .watchdogExpiry => true
  | .smcBootRestart => true
  | .tapReset => true
  | .releaseOrderStep => true
  | .fuseLoadDone => true
  | .rstoutRelease => true
  | .startStageEnd _ => true
  | .coreWave wave => wave < 9
  | .pciePerstRelease => true
  | .isolationComplete part => part < 16
  | .bandRowDrained => true
  | .coreCopyDone => true
  | .fwInstall _ slot => slot < 2
  | .fwActivate _ slot => slot < 2
  | .fwSetreset _ slot => slot < 2
  | .diagDataRead _ => true
  | .faultReportIntake => true
  | .hangCheckExpiry case => case < 16
  | .recoveryBegin part => part < 16
  | .recoveryRestore part => part < 16
  | .replayArrivalFeed part => part < 16
  | .recoveryRejoin part => part < 16
  | .suspectSearch part _ _ => part < 16
  | .recoveryCopyWrite => true
  | .availabilitySave => true
  | .timerFire ch => ch < 16
  | .timerCompareWrite _ ch data => ch < 16 && data < 4294967296
  | .timerCtrlWrite _ ch data => ch < 16 && data < 4294967296
  | .timerGroupStart _ data => data < 4294967296
  | .pulseEnd ch => ch < 80
  | .lfModeEntry => true
  | .lfModeExit => true
  | .lfclkLost => true
  | .ephemerisArm _ alarm word data => alarm < 64 && word < 4 && data < 4294967296
  | .ephemerisMessageSend => true
  | .perfCounterClear _ => true
  | .perfCountReport _ => true
  | .debugHaltWrite _ group data => group < 32 && data < 4294967296
  | .smcDebugHalt => true
  | .smcDebugResume _ => true
  | .csiLinkStateChange port link => port < 4 && link < 4
  | .lfclkReturn => true
  | .aonSupplyReturn => true
  | .smcRequestReceive => true

end Sys2Proof
end

