-- ==== Sys2Proof/Safety.lean ====
section
/-! DEFINITION. What counts as a safe step and a safe state, in the terms the statements use. -/

namespace Sys2Proof.Machine

/-- The step goes on: neither a fault nor a refusal. -/
def State.goesOn (s : State) : Prop := ∃ t, step s = .next t

/-- Every command that waits is one the block can be sent. -/
def State.queueWf (s : State) : Prop := ∀ c ∈ s.pending, c.wellFormed = true

/-- The byte storage is in its canonical form: rising addresses, no entry equal to what an unlisted byte reads as. -/
abbrev Memory.wf (m : List (Nat × Byte)) : Prop := mapWf (0 : Byte) m

end Sys2Proof.Machine
end

