-- ==== Sys2Proof/Certificates/Slice0/Obligations.lean ====
section
/-! DEFINITION. The statements for the provers, with the words they are said in. A statement names the rules of the spec
that it formalises; one that rests on a choice of the model names the entry of the assumption log. -/

namespace Sys2Proof.Claims

open Sys2Proof.Machine

/-- The command completes: it answers a next state, and `P` holds of it. -/
abbrev Yields (i : Instr) (s : State) (P : State → Prop) : Prop := ∃ t, exec i s = .next t ∧ P t

/-- Frame: nothing but registers changes, and no register outside the list. -/
abbrev OnlyRegs (s t : State) (l : List Nat) : Prop := t = { s with regs := t.regs } ∧ ∀ a, a ∉ l → t.rd a = s.rd a

/-- Every byte of storage outside `n` bytes from `a` up is as it was. -/
abbrev SameBytesOutside (s t : State) (a n : Nat) : Prop := ∀ x, x < a ∨ a + n ≤ x → t.byte x = s.byte x

/-- No stored word carries wrong bits, and no vault word is marked poisoned (R82, R175, R176). -/
abbrev SoundStorage (s : State) : Prop := s.upsets = [] ∧ s.poison = []

/-- The byte is the one that holds DIS of a context whose neuron is disabled, and the source is neither the SMC nor a session of the
installer role: DIS stays set (R85). -/
def keepsDis (s : State) (src : Src) (a : Nat) : Bool :=
  0x100000000 ≤ a && a < 0x200000000 && a % 0x400000 < 0x20000 && a % 16 = 14 && bitAt (s.byte a).toNat 2 &&
    !s.isPartner ((a - 0x100000000) / 0x400000) (a % 0x400000 / 16) && src != .smc && !(src == .pcie && s.rf Reg.SEC_STAT 31 30 == 1)

/-- Registers that an entry of the security log or the idle count of a session may change (R515, R520). -/
abbrev logRegs : List Nat := [Reg.SEC_LOGSEQ, Reg.SEC_LOGLOST, Reg.SEC_STAT]

/-- The register lies where a write takes effect by its fields' access codes alone: a router's registers but for the tables,
the Sprue block above the links but for SPL_LRNCLR, a vault's registers but for rule sets and history records. -/
def plainRegister (a : Nat) : Bool :=
  (0x10000000 ≤ a && a < 0x14000000 && !tableWord a) || (0x3000300 ≤ a && a < 0x4000000 && a != Reg.SPL_LRNCLR) ||
    (0x200000000 ≤ a && a < 0x220000000 && 0x1FF0000 ≤ a % 0x2000000 && !ruleWord a && !historyWord a)

/-- The register lies where a read shows what the register holds: the access-error block, the Sprue block, a vault. -/
def plainRead (a : Nat) : Bool :=
  (0x10 ≤ a && a < 0x20) || (0x3000300 ≤ a && a < 0x4000000) ||
    (0x200000000 ≤ a && a < 0x220000000 && 0x1FF0000 ≤ a % 0x2000000 && !ruleWord a && !historyWord a)

/-- A bit of a field after a write, by the field's access code (R10, R11): it held `old` and `new` is written. -/
def bitAfter (s : State) (src : Src) (ac : Access) (old new : Bool) : Bool :=
  match ac with
  | .rw | .wo => new
  | .ro | .rc => old
  | .w1c => old && !new
  | .w1s => old || new
  | .rwi => if src = .pcie ∧ s.rf Reg.SEC_STAT 31 30 = 1 then new else old
  | .rwm => if src = .pcie ∧ s.rf Reg.SEC_STAT 31 30 = 2 ∧ s.bit Reg.SEC_STAT 26 then new else old

/-- The core is in a run `r` whose next instruction is the word `w` (R102, R103, R143): it updates, the cycle limit is not
reached, and no stored word carries wrong bits (R82). -/
def UcAt (s : State) (c : Nat) (r : Run) (w : Nat) : Prop :=
  s.rf (Reg.NCR_STAT c) 31 29 = 1 ∧ (s.core c).stopped = false ∧ (s.core c).run = some r ∧ r.pc < 2047 ∧
    r.cycles < (if s.rf (Reg.NCR_UCLIMIT c) 11 0 = 0 then 4096 else s.rf (Reg.NCR_UCLIMIT c) 11 0) ∧
    s.num (0x100000000 + c * 0x400000 + 0x20000 + 4 * r.pc) 4 = w ∧ s.upsets = []

/-- The state after an instruction of one cycle that only changes the lanes: nothing else of the machine changes. -/
def afterUc (s : State) (c : Nat) (r : Run) (lanes : List Lane) : State :=
  s.setCore c { s.core c with run := some { r with pc := r.pc + 1, cycles := r.cycles + 1, lanes := lanes } }

/-- A lane executes a predicated instruction (R119, R120). -/
def live (w : Nat) (l : Lane) : Bool := l.mask && (!bitAt w 10 || (l.k.getD (bits w 8 7) false != bitAt w 9))

/-- The value that a register code reads (R114). -/
def regVal (s : State) (c : Nat) (r : Run) (l : Lane) (code : Nat) : Int :=
  if code < 16 then l.regs.getD code 0
  else toSigned 16 (s.num (0x100000000 + c * 0x400000 + 0x22100 + 32 * r.model + 2 * (code - 16)) 2)

/-- A result written to a register (R114, R121): V0, V1, X and V2 to V6 hold 16 bits, T0 to T7 hold 32; V2 to V6 of an unpaired
member discard it. -/
def wrote (l : Lane) (d : Nat) (x : Int) : Lane :=
  if 3 ≤ d ∧ d ≤ 7 ∧ l.paired = false then l
  else { l with regs := l.regs.set d (if d < 8 then max (-32768) (min 32767 x) else max (-2147483648) (min 2147483647 x)) }

/-- A bit pattern written to a register (R122). -/
def wroteBits (l : Lane) (d x : Nat) : Lane :=
  if 3 ≤ d ∧ d ≤ 7 ∧ l.paired = false then l
  else { l with regs := l.regs.set d (if d < 8 then toSigned 16 x else toSigned 32 x) }

/-- The right shift of R123 that an ALU word names. -/
def shifted (w : Nat) (x : Int) : Int :=
  if bits w 6 2 = 0 then x else if bitAt w 1 then (x + 2 ^ (bits w 6 2 - 1)) / 2 ^ bits w 6 2 else x / 2 ^ bits w 6 2

/-- A legal word of the ALU format (R125, R128); a field that the row does not use is 0. -/
def aluWord (op : Nat) (b sh rnd : Bool) (w : Nat) : Prop :=
  bits w 31 26 = op ∧ bits w 25 21 < 16 ∧ (bitAt w 10 = true ∨ bitAt w 9 = false) ∧ bitAt w 0 = false ∧
    (b = true ∨ bits w 15 11 = 0) ∧ (sh = true ∨ bits w 6 2 = 0) ∧ (rnd = true ∨ bitAt w 1 = false)

/-- An ALU instruction: its result, from d, a and b. -/
def AluRow (i : Nat → Instr) (op : Nat) (b sh rnd : Bool) (f : Nat → Int → Int → Int → Int) : Prop :=
  ∀ (s : State) (c : Nat) (r : Run) (w : Nat), UcAt s c r w → aluWord op b sh rnd w →
    exec (i c) s = .next (afterUc s c r (r.lanes.map (fun l => if live w l then
      wrote l (bits w 25 21) (f w (regVal s c r l (bits w 25 21)) (regVal s c r l (bits w 20 16)) (regVal s c r l (bits w 15 11))) else l)))

/-- A bitwise instruction. -/
def BitRow (i : Nat → Instr) (op : Nat) (f : Nat → Nat → Nat) : Prop :=
  ∀ (s : State) (c : Nat) (r : Run) (w : Nat), UcAt s c r w → aluWord op true false false w →
    exec (i c) s = .next (afterUc s c r (r.lanes.map (fun l => if live w l then
      wroteBits l (bits w 25 21) (f (toPattern 32 (regVal s c r l (bits w 20 16))) (toPattern 32 (regVal s c r l (bits w 15 11)))) else l)))

/-- An instruction of the IMM format: in every lane with member mask 1. -/
def ImmRow (i : Nat → Instr) (op : Nat) (a : Bool) (f : Int → Int → Int) : Prop :=
  ∀ (s : State) (c : Nat) (r : Run) (w : Nat), UcAt s c r w → bits w 31 26 = op → bits w 25 21 < 16 → (a = true ∨ bits w 20 16 = 0) →
    exec (i c) s = .next (afterUc s c r (r.lanes.map (fun l => if l.mask then
      wrote l (bits w 25 21) (f (regVal s c r l (bits w 20 16)) (toSigned 16 (bits w 15 0))) else l)))

/-- A flag after a comparison (R126). -/
def flagged (w : Nat) (l : Lane) (o : Bool) : Lane :=
  { l with k := l.k.set (bits w 22 21) (if bits w 24 23 = 0 then o else if bits w 24 23 = 1 then l.k.getD (bits w 22 21) false && o
      else l.k.getD (bits w 22 21) false || o) }

/-- A comparison of two registers. -/
def CmpRow (i : Nat → Instr) (op : Nat) (f : Int → Int → Bool) : Prop :=
  ∀ (s : State) (c : Nat) (r : Run) (w : Nat), UcAt s c r w → bits w 31 26 = op → bitAt w 25 = false → bits w 24 23 ≠ 3 →
    (bitAt w 10 = true ∨ bitAt w 9 = false) → bits w 6 0 = 0 →
    exec (i c) s = .next (afterUc s c r (r.lanes.map (fun l => if live w l then
      flagged w l (f (regVal s c r l (bits w 20 16)) (regVal s c r l (bits w 15 11))) else l)))

/-- A comparison with an immediate. -/
def CmpImmRow (i : Nat → Instr) (op : Nat) (f : Int → Int → Bool) : Prop :=
  ∀ (s : State) (c : Nat) (r : Run) (w : Nat), UcAt s c r w → bits w 31 26 = op → bitAt w 25 = false → bits w 24 23 ≠ 3 →
    exec (i c) s = .next (afterUc s c r (r.lanes.map (fun l => if l.mask then
      flagged w l (f (regVal s c r l (bits w 20 16)) (toSigned 16 (bits w 15 0))) else l)))

/-- A legal word of the TBL format (R125, R128). -/
def tblWord (op w : Nat) : Prop :=
  bits w 31 26 = op ∧ bits w 25 21 < 16 ∧ (bitAt w 10 = true ∨ bitAt w 9 = false) ∧ bits w 15 11 = 0 ∧ bits w 6 4 = 0

/-- The table descriptor that a word names (R133). -/
def descAt (s : State) (c w : Nat) : Nat := s.num (0x100000000 + c * 0x400000 + 0x22800 + 4 * bits w 3 0) 4

/-- Entry `n` of the table that descriptor `d` describes (R133). -/
def entryAt (s : State) (c d n : Nat) : Nat := s.num (0x100000000 + c * 0x400000 + 0x22840 + 2 * (bits d 11 0 + n)) 2

/-- The lanes keep what R114 says they hold: 16 registers, the first 8 in 16 bits and the others in 32, 4 flags. -/
def lanesOk (r : Run) : Prop :=
  ∀ l ∈ r.lanes, l.regs.length = 16 ∧ l.k.length = 4 ∧
    (∀ d, d < 8 → -32768 ≤ l.regs.getD d 0 ∧ l.regs.getD d 0 ≤ 32767) ∧
    (∀ d, d < 16 → -2147483648 ≤ l.regs.getD d 0 ∧ l.regs.getD d 0 ≤ 2147483647)

/-- The rows of the update engine that change lanes and nothing else of a run. -/
def laneRows (c : Nat) : List Instr :=
  [.mov c, .add c, .sub c, .mul c, .mac c, .minOp c, .maxOp c, .absOp c, .andOp c, .orOp c, .xor c, .shl c, .shr c, .clt c, .cle c,
   .ceq c, .movi c, .addi c, .muli c, .clti c, .cgei c, .lut c, .decay c, .trace c, .rda c, .get c, .setq c]

/-- A run command is accepted: RESULT is 0, and a commit of its changes begins; the generation it will bear is the next one. -/
def RunBegins (s t : State) (kinds : List ChangeKind) (c : Nat → Prop) : Prop :=
  t.rf Reg.SMC_RUNSTAT 23 16 = 0 ∧ t.bit Reg.SMC_RUNSTAT 28 = true ∧ t.rf Reg.SMC_RUNSTAT 31 29 = s.rf Reg.SMC_RUNSTAT 31 29 ∧
    ∃ ch : Change, t.runc.change = some ch ∧ ch.kinds = kinds ∧ ch.gen = (s.rf Reg.SMC_MODEGEN 15 0 + 1) % 2 ^ 16 ∧ c ch.c

/-- The device takes run commands from the source: the register answers, no commit is open, the device is ACTIVE, not failing
and device 0 of its system (R231, R649). -/
def RunReady (s : State) (src : Src) : Prop :=
  s.accKind src true Reg.SMC_RUNCMD = none ∧ s.commitOpen = false ∧ s.runBarred = false

end Sys2Proof.Claims

open Sys2Proof Sys2Proof.Machine Sys2Proof.Claims

/-- A step runs the command at the front of the queue, with the rest of the queue behind it (assumption log 1). -/
def Obligations.StepRunsFrontCommand : Prop :=
  ∀ (s : State) (c : Instr) (rest : List Instr), step { s with pending := c :: rest } = exec c { s with pending := rest }

/-- R9: a register access that is not an aligned 32-bit access has no effect; a read of it answers zeros. -/
def Sys2Proof.Claims.UnalignedRegisterAccess : Prop :=
  (∀ (s : State) (src : Src) (a n v : Nat), mapped a = true → storageAt a = false → inVernier a = false →
    0 < n → a % 4 + n ≤ 4 → n ≠ 4 → exec (.registerWrite src a n v) s = .next s) ∧
  (∀ (s : State) (src : Src) (a n : Nat), mapped a = true → storageAt a = false → (a < 0x1400000 ∨ 0x1600000 ≤ a) →
    0 < n → a % 4 + n ≤ 4 → n ≠ 4 →
    exec (.rcRegisterRead src a n) s = .next (s.answer (zeros n)) ∧ exec (.counterLowRead src a n) s = .next (s.answer (zeros n)))

/-- R10, R11: an aligned write to a register takes effect field by field by the access codes, and leaves every other register
and every byte of storage outside the security log as it was. -/
def Obligations.RegisterWriteByAccessCode : Prop :=
  ∀ (s : State) (src : Src) (a v : Nat) (r : RegRow), plainRegister a = true → a % 4 = 0 → regRow a = some r →
    protectedFor a = none → s.answers a = true → v < 2 ^ 32 →
    Yields (.registerWrite src a 4 v) s (fun t =>
      (∀ f ∈ r.fields, ∀ i, f.2.1 ≤ i → i ≤ f.1 →
        bitAt (t.rd a).toNat i = bitAfter s src f.2.2 (bitAt (s.rd a).toNat i) (bitAt v i)) ∧
      (∀ b, b ≠ a → b ∉ logRegs → t.rd b = s.rd b) ∧
      SameBytesOutside s t 0x300C00000 0x40000 ∧
      ((∀ f ∈ r.fields, f.2.2 ≠ .rwi ∧ f.2.2 ≠ .rwm) → OnlyRegs s t [a]))

/-- R10: a read answers the register's fields, WO fields as 0, and then clears RC fields; nothing else changes. -/
def Sys2Proof.Claims.RegisterReadClearsRC : Prop :=
  ∀ (s : State) (src : Src) (a : Nat) (r : RegRow), plainRead a = true → a % 4 = 0 → regRow a = some r → r.wide = 0 →
    s.answers a = true →
    Yields (.rcRegisterRead src a 4) s (fun t =>
      t = { s with regs := t.regs, rdata := t.rdata } ∧ t.rdata.length = 4 ∧
      (∀ f ∈ r.fields, ∀ i, f.2.1 ≤ i → i ≤ f.1 →
        bitAt (leNat t.rdata) i = (bitAt (s.rd a).toNat i && f.2.2 != .wo) ∧
        bitAt (t.rd a).toNat i = (bitAt (s.rd a).toNat i && f.2.2 != .rc)) ∧
      (∀ b, b ≠ a → t.rd b = s.rd b))

/-- R14: reading the low register of a wide counter latches the high register for that source alone, and the next read of the
high register by that source answers the latched value. -/
def Sys2Proof.Claims.WideCounterLatch : Prop :=
  ∀ (s : State) (src : Src) (a : Nat) (r h : RegRow), plainRead a = true → a % 4 = 0 → regRow a = some r → r.wide = 1 →
    regRow (a + 4) = some h → h.wide = 2 → plainRead (a + 4) = true → s.answers a = true → s.answers (a + 4) = true →
    Yields (.counterLowRead src a 4) s (fun t =>
      t = { s with latches := t.latches, rdata := t.rdata } ∧
      (∀ k, k ≠ 4 * a + srcCode src → mapGet 0 t.latches k = mapGet 0 s.latches k) ∧
      (∀ u : State, u.latches = t.latches → u.answers (a + 4) = true →
        Yields (.rcRegisterRead src (a + 4) 4) u (fun w => w = { u with rdata := leBytes 4 (s.rd (a + 4)).toNat })))

/-- R32 to R34: a write of any length to a storage window stores exactly its bytes; one to an event queue is discarded (R78);
one to MRAM from another source than the SMC is discarded and recorded (R33, R36); one to a context that a run has read and will
write back marks the run, which sets WR_LOST as it ends (R109); DIS of a context is cleared by the SMC and the installer alone (R85);
a word that is written is no longer wrong or poisoned (R176; of a word written in part this is a choice, assumption log 45). -/
def Obligations.StorageWindowWrite : Prop :=
  (∀ (s : State) (src : Src) (a : Nat) (bs : List Byte), bs ≠ [] → storageAt a = true → a + bs.length ≤ storageEnd a →
    ¬ (0x100000000 ≤ a ∧ a < 0x200000000 ∧ 0x24000 ≤ a % 0x400000 ∧ a % 0x400000 < 0x28000) →
    (0x300000000 ≤ a → src = .smc) → s.answers a = true →
    (0x100000000 ≤ a → a < 0x200000000 → (s.core (winLcn a)).run = none) →
    Yields (.windowStorageWrite src a bs) s (fun t =>
      (∀ i, i < bs.length → t.byte (a + i) = if keepsDis s src (a + i) then bs.getD i 0 ||| 4 else bs.getD i 0) ∧
      SameBytesOutside s t a bs.length ∧
      t = { s with mem := t.mem, regs := t.regs, upsets := mapClear s.upsets (State.eccWord a) (a + bs.length),
                   poison := mapClear s.poison (State.eccWord a) (a + bs.length), tempers := t.tempers } ∧
      (∀ p, (s.temper p).ahead = none → t.temper p = s.temper p) ∧
      (∀ b, (∀ p, b ≠ Reg.ARB_VLT_GRANT p 18) → t.rd b = s.rd b))) ∧
  (∀ (s : State) (src : Src) (a : Nat) (bs : List Byte), bs ≠ [] → 0x100000000 ≤ a → a < 0x200000000 → 0x24000 ≤ a % 0x400000 →
    a % 0x400000 + bs.length ≤ 0x28000 → s.answers a = true → exec (.windowStorageWrite src a bs) s = .next s) ∧
  (∀ (s : State) (src : Src) (a : Nat) (bs : List Byte), bs ≠ [] → 0x300000000 ≤ a → a + bs.length ≤ 0x304000000 → src ≠ .smc →
    Yields (.windowStorageWrite src a bs) s (fun t => t.mem = s.mem ∧
      t.rd Reg.SYS_ACCERR_CNT = BitVec.ofNat 32 (min ((s.rd Reg.SYS_ACCERR_CNT).toNat + 1) 0xFFFFFFFF))) ∧
  (∀ (s : State) (src : Src) (c : Nat) (r : Run) (l : Lane) (bs : List Byte), c < 1024 → (s.core c).run = some r → l ∈ r.lanes →
    l.mask = true → l.ctx < 8192 → 0 < bs.length → bs.length ≤ 16 → s.answers (0x100000000 + c * 0x400000 + 16 * l.ctx) = true →
    Yields (.windowStorageWrite src (0x100000000 + c * 0x400000 + 16 * l.ctx) bs) s (fun t =>
      (t.core c).run = some { r with lost := true } ∧ SameBytesOutside s t (0x100000000 + c * 0x400000 + 16 * l.ctx) bs.length))

/-- R36: an access to a Reserved range is counted; while nothing is captured it is captured with its source, direction, kind
and address, and while something is captured that stays. -/
def Sys2Proof.Claims.AccessErrorCapture : Prop :=
  (∀ (s : State) (src : Src) (a v : Nat), mapped a = false → a + 4 ≤ gapEnd a → s.bit Reg.SYS_ACCERR_STAT 31 = false →
    Yields (.registerWrite src a 4 v) s (fun t =>
      t.rd Reg.SYS_ACCERR_STAT = BitVec.ofNat 32 (2 ^ 31 + srcCode src * 2 ^ 29 + 2 ^ 28) ∧
      t.rd Reg.SYS_ACCERR_ADDR_LO = BitVec.ofNat 32 a ∧ t.rd Reg.SYS_ACCERR_ADDR_HI = BitVec.ofNat 32 (a / 2 ^ 32 % 256) ∧
      t.rd Reg.SYS_ACCERR_CNT = BitVec.ofNat 32 (min ((s.rd Reg.SYS_ACCERR_CNT).toNat + 1) 0xFFFFFFFF) ∧
      OnlyRegs s t [Reg.SYS_ACCERR_STAT, Reg.SYS_ACCERR_ADDR_LO, Reg.SYS_ACCERR_ADDR_HI, Reg.SYS_ACCERR_CNT])) ∧
  (∀ (s : State) (src : Src) (a v : Nat), mapped a = false → a + 4 ≤ gapEnd a → s.bit Reg.SYS_ACCERR_STAT 31 = true →
    Yields (.registerWrite src a 4 v) s (fun t =>
      t.rd Reg.SYS_ACCERR_CNT = BitVec.ofNat 32 (min ((s.rd Reg.SYS_ACCERR_CNT).toNat + 1) 0xFFFFFFFF) ∧
      OnlyRegs s t [Reg.SYS_ACCERR_CNT]))

/-- R9, R10, R14, R36: what a read answers and clears, the latch of a wide counter, what a register access that is no aligned word does, and how an access error is captured and counted. -/
def Obligations.RegisterAccesses : Prop := RegisterReadClearsRC ∧ WideCounterLatch ∧ UnalignedRegisterAccess ∧ AccessErrorCapture

/-- R416 to R418: the endpoint answers a configuration request with data only once it is ready; identity, and the writable
bits of BAR2, BAR4 and the interrupt line. -/
def Sys2Proof.Claims.ConfigurationRequests : Prop :=
  (∀ (s : State) (w : Bool) (off data : Nat), s.endpointReady = false →
    exec (.pcieConfigRequest w off data) s = .next { s with rdata := [] }) ∧
  (∀ (s : State) (data : Nat), s.endpointReady = true → mapGet 0 s.cfg 0 = 0 →
    Yields (.pcieConfigRequest false 0 data) s (fun t => t = { s with rdata := [0x2E, 0x1F, 0x40, 0x96] })) ∧
  (∀ (s : State) (off data : Nat), s.endpointReady = true → off ∈ [0x10, 0x14, 0x1C, 0x3C] →
    Yields (.pcieConfigRequest true off data) s (fun t => t = { s with cfg := t.cfg } ∧
      mapGet 0 t.cfg off = BitVec.ofNat 32 (data &&& (if off = 0x10 then 0xFC000000 else if off = 0x14 then 0xFFFFFFFF
        else if off = 0x1C then 0xFFFFFFFC else 0xFF)) ∧
      (∀ o, o ≠ off → mapGet 0 t.cfg o = mapGet 0 s.cfg o)))

/-- R438, R439: the SMBus commands: a block write writes one word, the pointer is set, a block read answers the word at the
pointer and moves it on by 4, the status answers and clears what it remembers; a bad PEC or an SCL timeout discards. -/
def Sys2Proof.Claims.SmbusCommands : Prop :=
  (∀ (s : State) (bs : List Byte), s.bit Reg.HIF_SMBCFG 31 = true →
    ∀ i ∈ [Instr.smbusSclTimeout, .smbusBlockWrite bs false, .smbusSetPointer bs false, .smbusBlockRead false, .smbusStatus false],
    Yields i s (fun t =>
      t.rd Reg.HIF_SMBPECCNT = BitVec.ofNat 32 (min ((s.rd Reg.HIF_SMBPECCNT).toNat + 1) 0xFFFFFFFF) ∧
      t.ldl = { s.ldl with smbPec := true } ∧ t.mem = s.mem ∧ ∀ a, a ≠ Reg.HIF_SMBPECCNT → t.rd a = s.rd a)) ∧
  (∀ (s : State) (bs : List Byte), s.bit Reg.HIF_SMBCFG 31 = true → bs.length = 9 → s.answers (leNat (bs.take 5)) = true →
    storageAt (leNat (bs.take 5)) = true → leNat (bs.take 5) + 4 ≤ storageEnd (leNat (bs.take 5)) →
    leNat (bs.take 5) < 0x100000000 ∨ 0x200000000 ≤ leNat (bs.take 5) → leNat (bs.take 5) < 0x300000000 →
    Yields (.smbusBlockWrite bs true) s (fun t =>
      (∀ i, i < 4 → t.byte (leNat (bs.take 5) + i) = (bs.drop 5).getD i 0) ∧ SameBytesOutside s t (leNat (bs.take 5)) 4)) ∧
  (∀ (s : State) (bs : List Byte), s.bit Reg.HIF_SMBCFG 31 = true → bs.length = 5 →
    Yields (.smbusSetPointer bs true) s (fun t => t = { s with ldl := { s.ldl with ptr := leNat bs } })) ∧
  (∀ (s : State) (r : RegRow), s.bit Reg.HIF_SMBCFG 31 = true → plainRead s.ldl.ptr = true → s.ldl.ptr % 4 = 0 →
    regRow s.ldl.ptr = some r → r.wide = 0 → (∀ f ∈ r.fields, f.2.2 = .ro ∨ f.2.2 = .rw) → s.answers s.ldl.ptr = true →
    Yields (.smbusBlockRead true) s (fun t => t.rdata = leBytes 4 (s.rd s.ldl.ptr).toNat ∧
      t.ldl.ptr = (s.ldl.ptr + 4) % 2 ^ 40 ∧ t.mem = s.mem ∧ ∀ a, t.rd a = s.rd a)) ∧
  (∀ s : State, s.bit Reg.HIF_SMBCFG 31 = true →
    Yields (.smbusStatus true) s (fun t =>
      t.rdata = [BitVec.ofNat 8 ((if s.ldl.smbAcc then 1 else 0) + (if s.ldl.smbPec then 2 else 0) + (if s.hostGone then 4 else 0))] ∧
      t = { s with rdata := t.rdata, ldl := { s.ldl with smbAcc := false, smbPec := false } }))

/-- R416 to R418, R438, R439: configuration requests and the SMBus commands. -/
def Obligations.ConfigurationAndSmbus : Prop := ConfigurationRequests ∧ SmbusCommands

/-- R64, R75, R77: commands of the image loader that begin: a full load with checks 1 to 7 passed is LOADING and BUSY, and an
installation erases its slot. -/
def Sys2Proof.Claims.ImageCommandsBegin : Prop :=
  (∀ (s : State) (src : Src) (slot : Nat), slot < 2 → s.accKind src true Reg.SMC_IMGCMD = none → s.bit Reg.SMC_IMGSTAT 26 = false →
    s.imgBarred = false → s.imgState ≠ 3 →
    s.precheck (s.slotJob slot false (src == .smc) (0x01000000 + slot * 0x10000) (srcCode src)) = none →
    Yields (.loadSlot src slot) s (fun t => t.rf Reg.SMC_IMGSTAT 31 29 = 1 ∧ t.bit Reg.SMC_IMGSTAT 26 = true ∧
      t.img.job = some { s.slotJob slot false (src == .smc) (0x01000000 + slot * 0x10000) (srcCode src) with phase := 1, was := s.imgState })) ∧
  (∀ (s : State), s.accKind .pcie true Reg.SMC_IMGCMD = none → s.rf Reg.SEC_STAT 31 30 = 1 → s.bit Reg.SMC_IMGSTAT 26 = false →
    s.imgBarred = false → s.imgState = 3 → (s.touchSession.hostJob false 0 0x02000000 0).delta = false →
    s.touchSession.precheck (s.touchSession.hostJob false 0 0x02000000 0) = none →
    Yields (.loadHost .pcie) s (fun t => t.rf Reg.SMC_IMGSTAT 31 29 = 1 ∧ t.bit Reg.SMC_IMGSTAT 26 = true ∧
      t.img.job = some { s.touchSession.hostJob false 0 0x02000000 0 with phase := 0, was := 3 })) ∧
  (∀ (s : State) (slot : Nat), slot < 2 → s.accKind .pcie true Reg.SMC_IMGCMD = none → s.rf Reg.SEC_STAT 31 30 = 1 →
    s.bit Reg.SMC_IMGSTAT 26 = false → s.imgBarred = false → s.touchSession.precheck (s.touchSession.hostJob true slot (0x03000000 + slot * 0x10000) 0) = none →
    s.touchSession.directory.isSome → s.touchSession.imgLen (s.touchSession.hostJob true slot (0x03000000 + slot * 0x10000) 0) ≤ ((s.touchSession.slotPlace slot).getD (0, 0)).2 →
    Yields (.install .pcie slot) s (fun t => t.bit Reg.SMC_IMGSTAT 26 = true ∧
      t.img.job = some { s.touchSession.hostJob true slot (0x03000000 + slot * 0x10000) 0 with phase := 4 } ∧
      ∀ x, t.byte x = if flashBase + ((s.touchSession.slotPlace slot).getD (0, 0)).1 ≤ x ∧
        x < flashBase + ((s.touchSession.slotPlace slot).getD (0, 0)).1 + ((s.touchSession.slotPlace slot).getD (0, 0)).2 then 0 else s.byte x))

/-- R64, R252: the phases of a full load: the running image stops, everything that a section may write is cleared, a section
is streamed, and a network interface writes the contents of a CONFIG packet that names its core. -/
def Obligations.ImageLoadPhases : Prop :=
  (∀ (s : State) (j : ImgJob), s.img.job = some j → j.install = false → j.phase = 0 → s.imageStopped = true →
    Yields .imageStopForLoad s (fun t => t.img.job = some { j with phase := 1 } ∧ t.rf Reg.SMC_RUNSTAT 31 29 = 0)) ∧
  (∀ (s : State) (j : ImgJob), s.img.job = some j → j.install = false → j.phase = 1 → s.targetsOn j = true →
    s.keep.busy = false → s.keep.due = false → s.configFlying = false →
    Yields .imageClearDone s (fun t => t.img.job = some { j with phase := 2, next := 0 } ∧
      ∀ x, t.byte x = if clearedByte x || (j.source == 2 && x == markerAddr) then 0 else s.byte x)) ∧
  (∀ (s u : State) (j k : ImgJob) (x : List Byte), s.img.job = some j → j.install = false → j.phase = 2 → j.gone = false →
    s.expand j (s.alm j j.next) = .ok x → s.applySection j (s.alm j j.next) x = .ok (u, k) → j.next + 1 < s.almCount j →
    Yields .imageSectionStreamed s (fun t => t = { u with img := t.img } ∧ t.img.job = some { k with next := j.next + 1 })) ∧
  (∀ (s : State) (c : Nat) (p : Packet), c < 1024 → s.inboxHead c 3 = some p → p.cls = 6 → p.good = true →
    configTarget p.key c = true → bitAt p.key 1 = false → p.payload % 4 = 0 → p.payload + p.data.length ≤ 0x24000 →
    Yields (.configWrite c) s (fun t =>
      (∀ i, i < p.data.length → t.byte (0x100000000 + c * 0x400000 + p.payload + i) = p.data.getD i 0) ∧
      SameBytesOutside s t (0x100000000 + c * 0x400000 + p.payload) p.data.length ∧ ∀ a, t.rd a = s.rd a))

/-- R57, R64, R69: a delta image that passes its checks waits in the shadow banks; a full image that passes check 10 to 12 is
LOADED; an installed image is in its slot; each command ends with RESULT OK and BUSY 0. -/
def Sys2Proof.Claims.ImageCommandsEnd : Prop :=
  (∀ (s : State) (j : ImgJob), s.img.job = some j → j.install = false → j.phase = 3 → j.delta = true → j.gone = false →
    s.configFlying = false → s.signatureBad j = none →
    Yields .imageVerifyDone s (fun t => t.bit Reg.SMC_IMGSTAT 25 = true ∧ t.bit Reg.SMC_IMGSTAT 26 = false ∧
      t.rf Reg.SMC_IMGSTAT 19 12 = 0 ∧ t.rf Reg.SMC_IMGSTAT 31 29 = s.rf Reg.SMC_IMGSTAT 31 29 ∧ t.img.job = none ∧
      (∀ l, t.rd (Reg.RTR_BANK l) = s.rd (Reg.RTR_BANK l)))) ∧
  (∀ (s : State) (j : ImgJob), s.img.job = some j → j.install = true → j.phase = 4 → s.flashBad = false →
    (∀ u : State, u = s.store (flashBase + (s.readBack j).base) (s.src j 0 (s.imgLen j)) →
      u.sectionsBad (s.readBack j) 0 (u.almanac (s.readBack j)) = none ∧ u.signatureBad (s.readBack j) = none) →
    Yields .installProgramDone s (fun t => t.bit Reg.SMC_IMGSTAT 26 = false ∧ t.rf Reg.SMC_IMGSTAT 19 12 = 0 ∧ t.img.job = none ∧
      ∀ i, i < s.imgLen j → t.byte (flashBase + (s.readBack j).base + i) = (s.src j 0 (s.imgLen j)).getD i 0))

/-- R64 order 8: a full load that passes every check is LOADED, with both banks and the generation at 0. -/
def Obligations.FullLoadEndsLoaded : Prop :=
  ∀ (s u : State) (j : ImgJob), s.img.job = some j → j.install = false → j.phase = 3 → j.delta = false → j.gone = false →
    j.own = false → j.source < 3 → s.configFlying = false → (s.copyBank 0).axonBad = none →
    (s.copyBank 0).signatureBad j = none → (s.copyBank 0).settingsStep j = some u →
    Yields .imageVerifyDone s (fun t => t.rf Reg.SMC_IMGSTAT 31 29 = 2 ∧ t.rf Reg.SMC_IMGSTAT 28 27 = j.source + 1 ∧
      t.bit Reg.SMC_IMGSTAT 26 = false ∧ t.rf Reg.SMC_IMGSTAT 19 12 = 0 ∧ t.img.job = none ∧
      ∀ l, l < 1024 → t.rd (Reg.RTR_BANK l) = 0)

/-- R63, R70, R71: ACTIVATE_DELTA puts a staged delta to a mode commit, DISCARD_DELTA drops it, SETTINGS_RESET rewrites a
settings block from the slot's image. -/
def Sys2Proof.Claims.DeltaAndSettingsCommands : Prop :=
  (∀ (s : State) (arg : Nat), s.accKind .pcie true Reg.SMC_IMGCMD = none → s.rf Reg.SEC_STAT 31 30 = 1 →
    s.bit Reg.SMC_IMGSTAT 26 = false → s.imgBarred = false → s.bit Reg.SMC_IMGSTAT 25 = true → s.commitOpen = false →
    Yields (.activateDelta .pcie arg) s (fun t => t.bit Reg.SMC_IMGSTAT 26 = true ∧ t.mem = s.mem ∧
      ∃ ch, t.runc.change = some ch ∧ ch.kinds = [.bankSwap] ∧ ch.c = s.touchSession.cmdStep arg false ∧ ch.gen = (s.rf Reg.SMC_MODEGEN 15 0 + 1) % 2 ^ 16)) ∧
  (∀ s : State, s.accKind .pcie true Reg.SMC_IMGCMD = none → s.rf Reg.SEC_STAT 31 30 = 1 →
    s.bit Reg.SMC_IMGSTAT 26 = false → s.imgBarred = false →
    Yields (.discardDelta .pcie) s (fun t => t.bit Reg.SMC_IMGSTAT 25 = false ∧ t.rf Reg.SMC_IMGSTAT 19 12 = 0 ∧
      t.rf Reg.SMC_IMGSTAT 31 29 = s.rf Reg.SMC_IMGSTAT 31 29 ∧ t.mem = s.mem)) ∧
  (∀ (s : State) (slot : Nat) (x : List Byte), slot < 2 → s.accKind .pcie true Reg.SMC_IMGCMD = none → s.rf Reg.SEC_STAT 31 30 = 1 →
    s.bit Reg.SMC_IMGSTAT 26 = false → s.imgBarred = false →
    s.touchSession.slotSettings (s.touchSession.slotJob slot false false (0x06000000 + slot * 0x10000) 0) = .ok x →
    Yields (.settingsReset .pcie slot) s (fun t => t.rf Reg.SMC_IMGSTAT 19 12 = 0 ∧
      (s.rf (Reg.SMC_IMGSLOT slot) 31 30 = 3 → t.rf (Reg.SMC_IMGSLOT slot) 31 30 = 1) ∧
      ∀ i, i < x.length → i < 4092 → t.byte (settingsAddr slot + i) = x.getD i 0))

/-- R57 to R77: the image commands begin, and how they end; deltas and settings. -/
def Obligations.ImageCommands : Prop := ImageCommandsBegin ∧ ImageCommandsEnd ∧ DeltaAndSettingsCommands

/-- R88 to R95: a core accepts an event into its queue, takes a due event and reads its axon entry, and a write of NCR_DPOOL
empties the pool. -/
def Sys2Proof.Claims.EventQueueCommands : Prop :=
  (∀ (s : State) (c v : Nat) (p : Packet) (words : List Nat), c < 1024 → s.inboxHead c v = some p → p.cls ≤ 2 → p.good = true →
    s.wrapped c = false → s.entryOf c p = some words → s.rf (Reg.NCR_EQSTAT c) 12 0 + words.length ≤ 4096 → p.ret.kind ≠ 3 →
    Yields (.eventQueueAccept c v) s (fun t =>
      t.rf (Reg.NCR_EQSTAT c) 12 0 = s.rf (Reg.NCR_EQSTAT c) 12 0 + words.length ∧
      (∀ i, i < words.length → t.num (0x100000000 + c * 0x400000 + 0x24000 +
        4 * (((s.core c).eqHead + s.rf (Reg.NCR_EQSTAT c) 12 0 + i) % 4096)) 4 = words.getD i 0 % 2 ^ 32) ∧
      t.rd48 (Reg.NCR_EVCNT c) = (s.rd48 (Reg.NCR_EVCNT c) + 1) % 2 ^ 48 ∧ t.tokens = s.tokens ++ [p.ret])) ∧
  (∀ (s : State) (c h : Nat), c < 1024 → s.accReady c = true → s.slotDue c = false → s.rf (Reg.NCR_STAT c) 31 29 = 0 →
    0 < s.rf (Reg.NCR_EQSTAT c) 12 0 → 0 < (s.core c).eqPresent → s.eqNext c = [h] → bits h 31 30 = 0 → SoundStorage s →
    s.axonOff c (bits h 13 0) < 0x1800000 →
    s.dueStep c h = (s.rd (Reg.NCR_STEP c)).toNat →
    Yields (.accumulateEntry c) s (fun t => (t.core c).cur = some ⟨false, 0, bits h 13 0, false, [], 0, 0, 0, false⟩ ∧ t.mem = s.mem ∧
      t.rf (Reg.NCR_EQSTAT c) 12 0 = s.rf (Reg.NCR_EQSTAT c) 12 0 - 1)) ∧
  (∀ (s : State) (c w : Nat) (st : Stream), c < 1024 → (s.core c).cur = some st → st.ready = false → (s.core c).stopped = false → SoundStorage s →
    8 * (s.rf (Reg.NCR_AXBASE c) 21 0 + st.axon) < 0x1800000 →
    s.num (0x200000000 + partOf c * 0x2000000 + 8 * (s.rf (Reg.NCR_AXBASE c) 21 0 + st.axon)) 8 = w → bits w 55 53 = 0 →
    Yields (.axonEntryRead c) s (fun t => (t.core c).cur = some { st with ready := true, segs := [w], j := 0, esc := 0, prev := bits w 50 38, short := false } ∧
      t.mem = s.mem)) ∧
  (∀ (s : State) (c data : Nat), c < 1024 → s.accKind .pcie true (Reg.NCR_DPOOL c) = none → s.rf Reg.SEC_STAT 31 30 = 1 →
    Yields (.ncrDpoolWrite .pcie c data) s (fun t =>
      t.rf (Reg.NCR_DPOOL c) 25 16 = bits data 25 16 ∧ t.rf (Reg.NCR_DPOOL c) 8 0 = bits data 8 0 ∧
      t.rd (Reg.NCR_DROPCNT c) = BitVec.ofNat 32 (min ((s.rd (Reg.NCR_DROPCNT c)).toNat + s.parked c) 0xFFFFFFFF) ∧
      (t.core c).poolHead = [] ∧ (t.core c).poolFree = List.range (bits data 25 16)))

/-- R98, R99: a due SUM entry adds its 32-bit value to the accumulator it names; the exact sum is clamped to 24 bits, and a clamp is counted. -/
def Obligations.DueSumEntryAdds : Prop :=
  ∀ (s : State) (c h d : Nat), c < 1024 → s.accReady c = true → s.slotDue c = false → s.rf (Reg.NCR_STAT c) 31 29 = 0 →
    0 < s.rf (Reg.NCR_EQSTAT c) 12 0 → 0 < (s.core c).eqPresent → s.eqNext c = [h, d] → bits h 31 30 = 2 → s.upsets = [] →
    s.dueStep c h = (s.rd (Reg.NCR_STEP c)).toNat → bitAt (s.ctx c (s.govern c (bits h 12 0))) 114 = false →
    Yields (.accumulateEntry c) s (fun t =>
      bits (t.ctx c (bits h 12 0)) (if bitAt h 13 then 79 else 55) (if bitAt h 13 then 56 else 32) =
        toPattern 24 (max (-8388608) (min 8388607 (toSigned 24 (bits (s.ctx c (bits h 12 0)) (if bitAt h 13 then 79 else 55)
          (if bitAt h 13 then 56 else 32)) + toSigned 32 d))) ∧
      t.rf (Reg.NCR_EQSTAT c) 12 0 = s.rf (Reg.NCR_EQSTAT c) 12 0 - 2 ∧ s.govern c (bits h 12 0) ∈ (t.core c).active ∧
      SameBytesOutside s t (0x100000000 + c * 0x400000 + 16 * bits h 12 0) 16 ∧
      let sum := toSigned 24 (bits (s.ctx c (bits h 12 0)) (if bitAt h 13 then 79 else 55) (if bitAt h 13 then 56 else 32)) + toSigned 32 d
      (-8388608 ≤ sum → sum ≤ 8388607 → t.rd (Reg.NCR_SATCNT c) = s.rd (Reg.NCR_SATCNT c)) ∧
      (sum < -8388608 ∨ 8388607 < sum → t.bit (Reg.NCR_ERRSTAT c) 0 = true ∧
        t.rd (Reg.NCR_SATCNT c) = BitVec.ofNat 32 (min ((s.rd (Reg.NCR_SATCNT c)).toNat + 1) 0xFFFFFFFF)))

/-- R96 to R98, R156, R183: a beat over a DENSE4 list of one synapse adds the level of its code to its target and ends the
event. -/
def Sys2Proof.Claims.SynapseBeatAddsLevel : Prop :=
  ∀ (s : State) (c w pl ax prev : Nat), c < 1024 →
    (s.core c).cur = some ⟨false, pl, ax, true, [w], 0, 0, prev, false⟩ → (s.core c).stopped = false →
    bits w 63 62 = 0 → bits w 13 0 = 1 → bits w 37 17 * 16 + 1 ≤ 0x1800000 → bits w 50 38 + bits w 52 51 / 2 ≤ 8191 →
    SoundStorage s →
    (s.byte (0x200000000 + partOf c * 0x2000000 + bits w 37 17 * 16)).toNat % 16 ≠ 15 →
    bitAt (s.ctx c (s.govern c (bits w 50 38 + bits w 52 51 / 2))) 114 = false →
    Yields (.synapseBeat c) s (fun t =>
      let i := bits w 50 38 + bits w 52 51 / 2
      let hi := if bits w 52 51 % 2 = 1 then 79 else 55
      let lo := if bits w 52 51 % 2 = 1 then 56 else 32
      let code := (s.byte (0x200000000 + partOf c * 0x2000000 + bits w 37 17 * 16)).toNat % 16
      bits (t.ctx c i) hi lo = toPattern 24 (max (-8388608) (min 8388607 (toSigned 24 (bits (s.ctx c i) hi lo) +
        toSigned 8 (s.byte (0x100000000 + c * 0x400000 + 0x22000 + code)).toNat))) ∧
      (t.core c).cur = none ∧ s.govern c i ∈ (t.core c).active ∧
      t.rd48 (Reg.NCR_SYNCNT c) = (s.rd48 (Reg.NCR_SYNCNT c) + 1) % 2 ^ 48 ∧
      SameBytesOutside s t (0x100000000 + c * 0x400000 + 16 * i) 16)

/-- R88 to R98: entries of the event queue, and a beat of synapses. -/
def Obligations.EventsInCores : Prop := EventQueueCommands ∧ SynapseBeatAddsLevel

/-- R102, R106, R209, R215, R230: the phases of a core's step: admission, the end of ACCUMULATE, the load of a group run, the end of
UPDATE, and sealing with the horizon report of the device group. -/
def Sys2Proof.Claims.CoreStepPhases : Prop :=
  (∀ (s : State) (c : Nat), c < 1024 → s.canAdmit c = true → s.upsets = [] → (s.part c).committed = none → (s.part (2048 + partOf c)).committed = none →
    (s.blockAt c (s.nextStep c)).1 = 0 →
    Yields (.stepAdmit c) s (fun t => t.rd (Reg.NCR_STEP c) = BitVec.ofNat 32 (((s.rd (Reg.NCR_SEALED c)).toNat + 1) % 2 ^ 32) ∧
      t.rf (Reg.NCR_STAT c) 31 29 = 0 ∧ t.rd (Reg.RTR_INJSTEP c) = t.rd (Reg.NCR_STEP c) ∧ t.rd (Reg.RTR_INJCNT c) = 0 ∧
      (t.core c).eqPresent = s.rf (Reg.NCR_EQSTAT c) 12 0 ∧ (t.core c).active = [])) ∧
  (∀ (s : State) (c : Nat), c < 1024 → s.accDone c = true → s.feedWaits c = false →
    Yields (.accumulateEnd c) s (fun t => t.rf (Reg.NCR_STAT c) 31 29 = 1 ∧ (t.core c).plan = s.updatePlan c ∧ (t.core c).run = none ∧
      t.mem = s.mem ∧ ∀ a, a ≠ Reg.NCR_STAT c → t.rd a = s.rd a)) ∧
  (∀ (s : State) (c g m : Nat) (rest : List (Nat × Nat)), c < 1024 → s.runReady c = true → (s.core c).plan = (g, m) :: rest →
    bitAt (s.entryPoint c m) 15 = true → s.upsets = [] →
    Yields (.groupRunStart c) s (fun t => ∃ r : Run, (t.core c).run = some r ∧ (t.core c).plan = rest ∧ r.group = g ∧ r.model = m ∧
      r.pc = bits (s.entryPoint c m) 10 0 ∧ r.cycles = 0 ∧ r.lanes.map Lane.ctx = [4 * g, 4 * g + 1, 4 * g + 2, 4 * g + 3] ∧
      t.mem = s.mem ∧ ∀ a, t.rd a = s.rd a)) ∧
  (∀ (s : State) (c : Nat), c < 1024 → s.runReady c = true → (s.core c).plan = [] →
    s.windowLast (s.rd (Reg.NCR_TAPWIN c)).toNat (s.rd (Reg.NCR_STEP c)).toNat = false →
    Yields (.groupRunStart c) s (fun t => t.rf (Reg.NCR_STAT c) 31 29 = 2 ∧ ∀ a, a ≠ Reg.NCR_STAT c → t.rd a = s.rd a)) ∧
  (∀ (s : State) (c : Nat), c < 1024 → s.rf (Reg.NCR_STAT c) 31 29 = 2 → (s.core c).stopped = false → s.inUse c = true →
    s.rd (Reg.NCR_SEALED c) ≠ s.rd (Reg.NCR_STEP c) → s.unretired c (s.rd (Reg.NCR_STEP c)).toNat = false → (s.part c).committed = none →
    (s.core c).replay = none → mapGet 0 s.img.horizKeys 255 ≠ 0 →
    Yields (.stepSeal c) s (fun t => t.rd (Reg.NCR_SEALED c) = s.rd (Reg.NCR_STEP c) ∧
      ∃ p ∈ mapGet [] t.wires (8 * c + 4), p.cls = 3 ∧ p.key = mapGet 0 s.img.horizKeys 255 ∧ p.payload = (s.rd (Reg.NCR_STEP c)).toNat))

/-- R82, R175, R177, R179: the scrubbers correct single-bit errors and move on; a copied row takes its spare. -/
def Sys2Proof.Claims.Scrubbing : Prop :=
  (∀ (s : State) (c : Nat), c < 1024 → mapWf 0 s.upsets → (∀ e ∈ s.upsets, e.1 % 4 = 0) →
    mapGet 0 s.upsets (0x100000000 + c * 0x400000 + 4 * ((s.core c).scrub % 49152)) = 1 →
    Yields (.coreScrubWord c) s (fun t => t.rd (Reg.NCR_ECCCNT c) = BitVec.ofNat 32 (min ((s.rd (Reg.NCR_ECCCNT c)).toNat + 1) 0xFFFFFFFF) ∧
      mapGet 0 t.upsets (0x100000000 + c * 0x400000 + 4 * ((s.core c).scrub % 49152)) = 0 ∧
      (t.core c).scrub = ((s.core c).scrub + 1) % 49152 ∧ t.mem = s.mem)) ∧
  (∀ (s : State) (p : Nat), p < 16 → s.bit (Reg.VLT_SCRUB p) 31 = true → s.domOn (144 + p) = true → s.upsets = [] → s.poison = [] →
    Yields (.vaultScrubWord p) s (fun t => (t.vault p).scrub = ((s.vault p).scrub + 1) % 2 ^ 21 ∧ t.mem = s.mem ∧
      ((s.vault p).scrub + 1 = 2 ^ 21 → t.rd (Reg.VLT_SCRUBPASS p) = s.rd (Reg.VLT_SCRUBPASS p) + 1) ∧
      ((s.vault p).scrub + 1 ≠ 2 ^ 21 → t.rd (Reg.VLT_SCRUBPASS p) = s.rd (Reg.VLT_SCRUBPASS p)))) ∧
  (∀ (s : State) (p r : Nat) (rows : List Nat), p < 16 → (s.vault p).rows = r :: rows →
    Yields (.rowCopyDone p) s (fun t => (t.vault p).rows = rows ∧ (t.vault p).spares = (s.vault p).spares ++ [r]))

/-- R82, R176: a core that reads a word with a single-bit error corrects and counts it and goes on; a double-bit error stops it, with
NCR_ERRSTAT.ECC_UE set; a poisoned word among the axon entries that it fetches ends the event, stops it, and is counted. -/
def Sys2Proof.Claims.WrongWords : Prop :=
  (∀ (s : State) (c g m k n : Nat) (rest : List (Nat × Nat)), c < 1024 → s.runReady c = true → (s.core c).plan = (g, m) :: rest →
    g < 2048 → k < 16 → bitAt (s.entryPoint c m) 15 = true → s.upsets = [(0x100000000 + c * 0x400000 + 64 * g + 4 * k, n)] →
    Yields (.groupRunStart c) s (fun t =>
      (n = 1 → t.upsets = [] ∧ (t.core c).stopped = false ∧ (t.core c).run.isSome ∧
        t.rd (Reg.NCR_ECCCNT c) = BitVec.ofNat 32 (min ((s.rd (Reg.NCR_ECCCNT c)).toNat + 1) 0xFFFFFFFF)) ∧
      (2 ≤ n → t.bit (Reg.NCR_ERRSTAT c) 6 = true ∧ (t.core c).stopped = true))) ∧
  (∀ (s : State) (c a : Nat) (st : Stream), c < 1024 → (s.core c).cur = some st → st.ready = false → (s.core c).stopped = false →
    8 * (s.rf (Reg.NCR_AXBASE c) 21 0 + st.axon) < 0x1800000 → bits (s.axonWord c st.axon) 55 53 = 0 → s.upsets = [] →
    a = 0x200000000 + partOf c * 0x2000000 + (s.rf (Reg.NCR_AXBASE c) 21 0 + st.axon) / 2 * 16 → s.poison = [(a, true)] →
    Yields (.axonEntryRead c) s (fun t => (t.core c).cur = none ∧ (t.core c).stopped = true ∧
      t.bit (Reg.VLT_ERRSTAT (partOf c)) 1 = true ∧
      t.rd (Reg.VLT_UECNT (partOf c)) = BitVec.ofNat 32 (min ((s.rd (Reg.VLT_UECNT (partOf c))).toNat + 1) 0xFFFFFFFF) ∧
      (s.bit (Reg.VLT_ERRSTAT (partOf c)) 1 = false →
        t.rf (Reg.VLT_UEADDR (partOf c)) 24 4 = (s.rf (Reg.NCR_AXBASE c) 21 0 + st.axon) / 2)))

/-- R82, R102 to R106, R176, R177, R209, R215: the phases of a step, the scrubbers, and words that carry wrong bits. -/
def Obligations.CoreStepsAndScrubbing : Prop := CoreStepPhases ∧ Scrubbing ∧ WrongWords

/-- R121, R123, R127: the arithmetic instructions: the exact result, saturated to the destination. -/
def Sys2Proof.Claims.ArithmeticInstructions : Prop :=
  AluRow .mov 0x01 false false false (fun _ _ a _ => a) ∧
  AluRow .add 0x02 true false false (fun _ _ a b => a + b) ∧
  AluRow .sub 0x03 true false false (fun _ _ a b => a - b) ∧
  AluRow .mul 0x04 true true true (fun w _ a b => shifted w (a * b)) ∧
  AluRow .mac 0x05 true true true (fun w d a b => d + shifted w (a * b)) ∧
  AluRow .minOp 0x06 true false false (fun _ _ a b => if a ≤ b then a else b) ∧
  AluRow .maxOp 0x07 true false false (fun _ _ a b => if a ≤ b then b else a) ∧
  AluRow .absOp 0x08 false false false (fun _ _ a _ => if a < 0 then -a else a) ∧
  AluRow .shl 0x0C false true false (fun w _ a _ => a * 2 ^ bits w 6 2) ∧
  AluRow .shr 0x0D false true true (fun w _ a _ => shifted w a) ∧
  ImmRow .movi 0x18 false (fun _ i => i) ∧
  ImmRow .addi 0x19 true (fun a i => a + i) ∧
  ImmRow .muli 0x1A true (fun a i => (a * i + 16384) / 32768)

/-- R122: the bitwise instructions act on 32-bit patterns, their result is not saturated, and a 16-bit destination takes its low bits. -/
def Obligations.BitwiseInstructions : Prop :=
  BitRow .andOp 0x09 (· &&& ·) ∧ BitRow .orOp 0x0A (· ||| ·) ∧ BitRow .xor 0x0B (· ^^^ ·)

/-- R126: the comparisons set a flag, alone or joined with what it held. -/
def Sys2Proof.Claims.ComparisonInstructions : Prop :=
  CmpRow .clt 0x10 (fun a b => a < b) ∧ CmpRow .cle 0x11 (fun a b => a ≤ b) ∧ CmpRow .ceq 0x12 (fun a b => a = b) ∧
  CmpImmRow .clti 0x1B (fun a i => a < i) ∧ CmpImmRow .cgei 0x1C (fun a i => i ≤ a)

/-- R121, R123, R126, R127: arithmetic and comparisons. -/
def Obligations.LaneArithmetic : Prop := ArithmeticInstructions ∧ ComparisonInstructions

/-- R135, R136, R141: table lookup with interpolation, decay by elapsed steps, and the trace update. -/
def Sys2Proof.Claims.TableInstructions : Prop :=
  (∀ (s : State) (c : Nat) (r : Run) (w d : Nat), UcAt s c r w → tblWord 0x20 w → descAt s c w = d → bitAt d 31 = true →
    bits d 29 28 = 0 → bits d 23 12 ≠ 0 → bits d 11 0 + bits d 23 12 ≤ 3040 →
    exec (.lut c) s = .next (afterUc s c r (r.lanes.map (fun l => if live w l then
      wrote l (bits w 25 21)
        (let a := regVal s c r l (bits w 20 16)
         let i := a / 2 ^ bits d 27 24
         let f := a - i * 2 ^ bits d 27 24
         let e := fun n => toSigned 16 (entryAt s c d n)
         if i < 0 then e 0 else if (bits d 23 12 : Int) - 1 ≤ i then e (bits d 23 12 - 1)
         else if bitAt d 30 = true ∧ 0 < f then e i.toNat + (e (i.toNat + 1) - e i.toNat) * f / 2 ^ bits d 27 24
         else e i.toNat)
      else l)))) ∧
  (∀ (s : State) (c : Nat) (r : Run) (w d : Nat), UcAt s c r w → tblWord 0x21 w → descAt s c w = d → bitAt d 31 = true →
    bitAt d 30 = false → bits d 29 28 = 1 → bits d 27 24 = 0 → bits d 23 12 ≠ 0 → bits d 11 0 + bits d 23 12 ≤ 3040 →
    exec (.decay c) s = .next (afterUc s c r (r.lanes.map (fun l => if live w l then
      wrote l (bits w 25 21) ((regVal s c r l (bits w 20 16) * entryAt s c d (min l.elapsed (bits d 23 12 - 1)) + 16384) / 32768) else l)))) ∧
  (∀ (s : State) (c : Nat) (r : Run) (w d : Nat), UcAt s c r w → tblWord 0x22 w → bits w 25 21 = 0 → descAt s c w = d →
    bitAt d 31 = true → bitAt d 30 = false → bits d 29 28 = 1 → bits d 27 24 = 0 → bits d 23 12 ≠ 0 → bits d 11 0 + bits d 23 12 ≤ 3040 →
    s.learning (partOf c) = false →
    exec (.trace c) s = .next (afterUc s c r (r.lanes.map (fun l => if l.mask then
      (let l' := wrote l 2 ((l.regs.getD 2 0 * entryAt s c d (min l.elapsed (bits d 23 12 - 1)) + 16384) / 32768)
       if live w l then wrote l' 2 (l'.regs.getD 2 0 + regVal s c r l (bits w 20 16)) else l')
      else l))))

/-- R129 to R131, R142: accumulators, lane values, Q, branches, and the instruction that does nothing. -/
def Sys2Proof.Claims.LaneValueInstructions : Prop :=
  (∀ (s : State) (c : Nat) (r : Run) (w : Nat), UcAt s c r w → bits w 31 26 = 0x23 → bits w 25 21 < 16 →
    (bitAt w 10 = true ∨ bitAt w 9 = false) → bits w 20 18 = 0 → bits w 15 11 = 0 → bits w 6 1 = 0 → bitAt w 0 = true →
    exec (.rda c) s = .next (afterUc s c r (r.lanes.map (fun l => if live w l then wrote l (bits w 25 21) (l.acc.getD (bits w 17 16) 0) else l)))) ∧
  (∀ (s : State) (c : Nat) (r : Run) (w : Nat), UcAt s c r w → bits w 31 26 = 0x24 → bits w 25 21 < 16 → bits w 20 16 = 0 → bits w 15 0 ≤ 5 →
    exec (.get c) s = .next (afterUc s c r (r.lanes.map (fun l => if l.mask then wrote l (bits w 25 21)
      (if bits w 15 0 = 0 then l.elapsed else if bits w 15 0 = 1 then l.ctx else if bits w 15 0 = 2 then (s.rd (Reg.NCR_STEP c)).toNat % 65536
       else if bits w 15 0 = 3 then l.ctx % 4 else if bits w 15 0 = 4 then bits l.raw 123 116 else r.model : Nat) else l)))) ∧
  (∀ (s : State) (c : Nat) (r : Run) (w : Nat), UcAt s c r w → bits w 31 26 = 0x25 → bits w 25 11 = 0 →
    (bitAt w 10 = true ∨ bitAt w 9 = false) → bits w 6 1 = 0 →
    exec (.setq c) s = .next (afterUc s c r (r.lanes.map (fun l => if live w l then { l with q := bitAt w 0 } else l)))) ∧
  (∀ (s : State) (c : Nat) (r : Run) (w : Nat), UcAt s c r w → bits w 31 26 = 0x28 → bits w 25 20 = 0 → bits w 15 11 = 0 →
    exec (.br c) s = .next (s.setCore c { s.core c with run := some { r with
      cycles := r.cycles + 1,
      pc := if bits w 19 18 = 0 ∨ (bits w 19 18 = 1 ∧ ∃ l ∈ r.lanes, l.mask = true ∧ l.k.getD (bits w 17 16) false = true) ∨
               (bits w 19 18 = 2 ∧ ∀ l ∈ r.lanes, l.mask = true → l.k.getD (bits w 17 16) false = true) ∨
               (bits w 19 18 = 3 ∧ ∀ l ∈ r.lanes, l.mask = true → l.k.getD (bits w 17 16) false = false)
             then bits w 10 0 else r.pc + 1 } })) ∧
  (∀ (s : State) (c : Nat) (r : Run), UcAt s c r 0 → exec (.nop c) s = .next (afterUc s c r r.lanes))

/-- R133 to R141: tables, and the values that a lane reads and sets. -/
def Obligations.LaneAccess : Prop := TableInstructions ∧ LaneValueInstructions

/-- R128, R147: an illegal word aborts the run: cause 3 is captured unless an abort is captured already, nothing is written
back and the core stops. -/
def Sys2Proof.Claims.IllegalWordAborts : Prop :=
  ∀ (s : State) (c : Nat) (r : Run) (w : Nat), c < 1024 → UcAt s c r w → w ≠ 0 → bits w 31 26 = 0 → s.bit (Reg.NCR_ERRSTAT c) 5 = false →
    Yields (.nop c) s (fun t =>
      t.rd (Reg.NCR_UCFAULT c) = BitVec.ofNat 32 (3 * 2 ^ 29 + r.model * 2 ^ 24 + r.pc * 2 ^ 13 + r.group) ∧
      t.bit (Reg.NCR_ERRSTAT c) 5 = true ∧ (t.core c).stopped = true ∧ (t.core c).run = none ∧ t.mem = s.mem ∧
      ∀ a, a ∉ [Reg.NCR_UCFAULT c, Reg.NCR_ERRSTAT c] → t.rd a = s.rd a)

/-- R103, R147: a run that has used its cycles aborts with cause 2. -/
def Sys2Proof.Claims.CycleLimitAborts : Prop :=
  ∀ (s : State) (c : Nat) (r : Run), c < 1024 → s.rf (Reg.NCR_STAT c) 31 29 = 1 → (s.core c).stopped = false → (s.core c).run = some r →
    (if s.rf (Reg.NCR_UCLIMIT c) 11 0 = 0 then 4096 else s.rf (Reg.NCR_UCLIMIT c) 11 0) ≤ r.cycles → s.bit (Reg.NCR_ERRSTAT c) 5 = false →
    Yields (.uclimitExpiry c) s (fun t =>
      t.rd (Reg.NCR_UCFAULT c) = BitVec.ofNat 32 (2 * 2 ^ 29 + r.model * 2 ^ 24 + r.pc * 2 ^ 13 + r.group) ∧
      t.bit (Reg.NCR_ERRSTAT c) 5 = true ∧ (t.core c).stopped = true ∧ (t.core c).run = none ∧ t.mem = s.mem)

/-- R103, R125, R128, R143: an illegal word and the cycle limit abort the run. -/
def Obligations.AbortedRuns : Prop := IllegalWordAborts ∧ CycleLimitAborts

/-- R114, R121: the lanes' registers stay in the range of their width under every instruction that changes lanes only. -/
def Obligations.LanesStayInRange : Prop :=
  ∀ (s t : State) (c : Nat) (r : Run) (i : Instr), i ∈ laneRows c → (s.core c).run = some r → lanesOk r → exec i s = .next t →
    (∀ r', (t.core c).run = some r' → lanesOk r') ∧ t.mem = s.mem ∧ ∀ d, d ≠ c → t.core d = s.core d

/-- R104, R137 to R140: an output instruction of one executing lane sends one packet into the core's router. -/
def Obligations.OutputInstructions : Prop :=
  (∀ (s : State) (c : Nat) (r : Run) (w : Nat) (l : Lane), c < 1024 → UcAt s c r w → bits w 31 26 = 0x30 → bits w 25 11 = 0 →
    (bitAt w 10 = true ∨ bitAt w 9 = false) → bits w 6 5 = 0 → r.lanes.filter (live w) = [l] → s.outFlits c < 64 →
    (s.core c).replay = none → (s.core c).tapOn = [] →
    Yields (.emit c) s (fun t => ∃ p : Packet, mapGet [] t.wires (8 * c + 4) = mapGet [] s.wires (8 * c + 4) ++ [p] ∧ p.cls = 0 ∧
      p.key = ((s.rd (Reg.NCR_KEYBASE c)).toNat ||| (l.ctx * 2 ^ s.rf (Reg.NCR_KEYCFG c) 4 0) % 2 ^ 32) ||| bits w 4 0 ∧
      p.step = (s.rd (Reg.NCR_STEP c)).toNat % 65536 ∧ p.srcLcn = c ∧ p.good = true ∧
      (t.core c).run = some { r with pc := r.pc + 1, cycles := r.cycles + 1 } ∧ t.mem = s.mem ∧ ∀ a, t.rd a = s.rd a)) ∧
  (∀ (s : State) (c : Nat) (r : Run) (w : Nat) (l : Lane), c < 1024 → UcAt s c r w → bits w 31 26 = 0x31 → bits w 25 21 = 0 → bits w 15 11 = 0 →
    (bitAt w 10 = true ∨ bitAt w 9 = false) → bits w 6 5 = 0 → r.lanes.filter (live w) = [l] → s.outFlits c < 64 →
    (s.core c).replay = none → (s.core c).tapOn = [] →
    Yields (.emitg c) s (fun t => ∃ p : Packet, mapGet [] t.wires (8 * c + 4) = mapGet [] s.wires (8 * c + 4) ++ [p] ∧ p.cls = 1 ∧
      p.payload = toPattern 16 (max (-32768) (min 32767 (regVal s c r l (bits w 20 16)))) ∧
      p.step = (s.rd (Reg.NCR_STEP c)).toNat % 65536 ∧ p.srcLcn = c ∧
      (t.core c).run = some { r with pc := r.pc + 1, cycles := r.cycles + 1 } ∧ t.mem = s.mem ∧ ∀ a, t.rd a = s.rd a)) ∧
  (∀ (s : State) (c : Nat) (r : Run) (w : Nat) (l : Lane), c < 1024 → UcAt s c r w → bits w 31 26 = 0x32 → bits w 25 21 = 0 → bitAt w 6 = false →
    (bitAt w 10 = true ∨ bitAt w 9 = false) → bitAt w 5 = false → 8 ≤ bits w 15 11 → bits w 15 11 ≤ 15 →
    r.lanes.filter (live w) = [l] → s.outFlits c < 64 → (s.core c).replay = none →
    Yields (.sendSum c) s (fun t => ∃ p : Packet, mapGet [] t.wires (8 * c + 4) = mapGet [] s.wires (8 * c + 4) ++ [p] ∧ p.cls = 2 ∧
      p.key = toPattern 32 (regVal s c r l (bits w 15 11)) ∧ p.payload = toPattern 32 (regVal s c r l (bits w 20 16)) ∧
      p.srcLcn = c ∧ (t.core c).run = some { r with pc := r.pc + 1, cycles := r.cycles + 1 } ∧ t.mem = s.mem ∧ ∀ a, t.rd a = s.rd a)) ∧
  (∀ (s : State) (c : Nat) (r : Run) (w : Nat) (l : Lane), c < 1024 → UcAt s c r w → bits w 31 26 = 0x32 → bits w 25 21 = 0 → bitAt w 6 = true →
    (bitAt w 10 = true ∨ bitAt w 9 = false) → bitAt w 5 = false → bits w 15 11 = 0 → l ∈ r.lanes → live w l = true →
    s.rf (Reg.MSG_SDLAND c (bits w 4 0)) 27 23 ≠ 0 → s.outFlits c + 2 ≤ 64 →
    s.rf (Reg.MSG_SDSTAT c (bits w 4 0)) 19 15 < min 16 (s.rf (Reg.MSG_SDLAND c (bits w 4 0)) 27 23) → (s.core c).replay = none →
    Yields (.sendMessage c) s (fun t => ∃ p : Packet, mapGet [] t.wires (8 * c + 4) = mapGet [] s.wires (8 * c + 4) ++ [p] ∧ p.cls = 4 ∧
      p.key = s.rf (Reg.MSG_SDKEY c (bits w 4 0)) 31 5 * 32 ∧
      p.data = r.lanes.flatMap (fun l => leBytes 4 (if live w l then toPattern 32 (regVal s c r l (bits w 20 16)) else 0)) ∧
      t.rf (Reg.MSG_SDSTAT c (bits w 4 0)) 31 24 = (s.rf (Reg.MSG_SDSTAT c (bits w 4 0)) 31 24 + 1) % 256 ∧
      t.rf (Reg.MSG_SDSTAT c (bits w 4 0)) 19 15 = s.rf (Reg.MSG_SDSTAT c (bits w 4 0)) 19 15 + 1 ∧ t.mem = s.mem)) ∧
  (∀ (s : State) (c : Nat) (r : Run), c < 1024 → UcAt s c r 0xFC000000 → r.lanes = [] → (s.core c).plan ≠ [] →
    Yields (.endRun c) s (fun t => (t.core c).run = none ∧ (t.core c).plan = (s.core c).plan ∧ t.mem = s.mem ∧
      t.rd48 (Reg.NCR_RUNCNT c) = (s.rd48 (Reg.NCR_RUNCNT c) + 1) % 2 ^ 48 ∧
      t.bit (Reg.NCR_ERRSTAT c) 4 = (s.bit (Reg.NCR_ERRSTAT c) 4 || r.lost))) ∧
  (∀ (s : State) (c : Nat) (r : Run) (l : Lane), c < 1024 → UcAt s c r 0xFC000000 → r.lanes = [l] → l.mask = true → l.paired = false →
    l.ctx < 8192 → (s.core c).plan ≠ [] →
    Yields (.endRun c) s (fun t => (t.core c).run = none ∧ t.bit (Reg.NCR_ERRSTAT c) 4 = (s.bit (Reg.NCR_ERRSTAT c) 4 || r.lost) ∧
      t.num (0x100000000 + c * 0x400000 + 16 * l.ctx) 2 = toPattern 16 (l.regs.getD 0 0) ∧
      t.num (0x100000000 + c * 0x400000 + 16 * l.ctx + 4) 6 = 0 ∧
      t.num (0x100000000 + c * 0x400000 + 16 * l.ctx + 12) 2 = (s.rd (Reg.NCR_STEP c)).toNat % 65536 ∧
      SameBytesOutside s t (0x100000000 + c * 0x400000 + 16 * l.ctx) 16))

/-- R225, R231 to R235, R238: the commands of any role: START at step 0, HOLD and STOP at the commit step of R225, with the least distance
that the ARG of a write to SMC_RUNCMD asks for (their rows stand for ARG 0), RESUME and STEP at the held step. -/
def Sys2Proof.Claims.RunCommandsOfAnyRole : Prop :=
  ∀ (s : State) (src : Src) (arg : Nat), RunReady s src → arg < 65536 →
    ((s.rf Reg.SMC_RUNSTAT 31 29 = 1 ∨ s.rf Reg.SMC_RUNSTAT 31 29 = 5) → Yields (.startRun src) s (fun t => RunBegins s t [.start] (· = 0))) ∧
    (s.rf Reg.SMC_RUNSTAT 31 29 = 2 → Yields (.holdRun src) s (fun t => RunBegins s t [.hold] (· = s.commitStep 0 0 false)) ∧
      Yields (.registerWrite src Reg.SMC_RUNCMD 4 (0x02000000 + arg)) s (fun t => RunBegins s t [.hold] (· = s.commitStep arg 0 false))) ∧
    (s.rf Reg.SMC_RUNSTAT 31 29 = 4 → s.runc.stopping = false →
      Yields (.resumeRun src) s (fun t => RunBegins s t [.resume] (· = s.runc.hold.getD 0)) ∧
      (∀ n, 0 < n → n < 65536 → Yields (.stepRun src n) s (fun t => RunBegins s t [.step n] (· = s.runc.hold.getD 0)))) ∧
    ((s.rf Reg.SMC_RUNSTAT 31 29 = 2 ∨ s.rf Reg.SMC_RUNSTAT 31 29 = 4) → s.runc.stopping = false →
      Yields (.stopRun src) s (fun t => RunBegins s t [.stop] (· = s.cmdStep 0 false)) ∧
      Yields (.registerWrite src Reg.SMC_RUNCMD 4 (0x05000000 + arg)) s (fun t => RunBegins s t [.stop] (· = s.cmdStep arg false)))

/-- R207, R219, R224, R225, R231: the commands of an installer: learning, lockstep and horizon modes, with the least distance that the ARG of
a write to SMC_RUNCMD asks for (their rows stand for ARG 0), and the step length. -/
def Sys2Proof.Claims.RunCommandsOfInstallers : Prop :=
  ∀ (s : State) (arg : Nat), RunReady s .pcie → arg < 65536 → s.rf Reg.SEC_STAT 31 30 = 1 →
    (s.rf Reg.SMC_RUNSTAT 31 29 = 2 ∨ s.rf Reg.SMC_RUNSTAT 31 29 = 4) →
    (s.heldAtEpoch = true →
      Yields (.learnOn .pcie) s (fun t => RunBegins s t [.learn true] (· = s.touchSession.cmdStep 0 true)) ∧
      Yields (.learnOff .pcie) s (fun t => RunBegins s t [.learn false] (· = s.touchSession.cmdStep 0 true)) ∧
      Yields (.registerWrite .pcie Reg.SMC_RUNCMD 4 (0x06000000 + arg)) s (fun t => RunBegins s t [.learn true] (· = s.touchSession.cmdStep arg true)) ∧
      Yields (.registerWrite .pcie Reg.SMC_RUNCMD 4 (0x07000000 + arg)) s (fun t => RunBegins s t [.learn false] (· = s.touchSession.cmdStep arg true))) ∧
    Yields (.lockstepMode .pcie) s (fun t => RunBegins s t [.lock true] (· = s.touchSession.cmdStep 0 false)) ∧
    Yields (.horizonMode .pcie) s (fun t => RunBegins s t [.lock false] (· = s.touchSession.cmdStep 0 false)) ∧
    Yields (.registerWrite .pcie Reg.SMC_RUNCMD 4 (0x08000000 + arg)) s (fun t => RunBegins s t [.lock true] (· = s.touchSession.cmdStep arg false)) ∧
    Yields (.registerWrite .pcie Reg.SMC_RUNCMD 4 (0x09000000 + arg)) s (fun t => RunBegins s t [.lock false] (· = s.touchSession.cmdStep arg false)) ∧
    (∀ us, 0 < us → us < 65536 → Yields (.steplen .pcie us) s (fun t => RunBegins s t [.stepLen us] (fun _ => True)))

/-- R231: a run command in a state of the run that it does not name is refused as STATE, one while a commit is open as BUSY, and
an installer's command outside an installer session as DENIED; nothing of the run changes. -/
def Sys2Proof.Claims.RunCommandRefusals : Prop :=
  (∀ (s : State) (src : Src), s.accKind src true Reg.SMC_RUNCMD = none → s.commitOpen = true →
    ∀ i ∈ [Instr.startRun src, .holdRun src, .resumeRun src, .stopRun src],
      Yields i s (fun t => t.rf Reg.SMC_RUNSTAT 23 16 = 1 ∧ OnlyRegs s t [Reg.SMC_RUNSTAT])) ∧
  (∀ (s : State) (src : Src) (arg : Nat), RunReady s src →
    ∀ e ∈ [(Instr.startRun src, [1, 5]), (.holdRun src, [2]), (.resumeRun src, [4]), (.stepRun src arg, [4]), (.stopRun src, [2, 4])],
      s.rf Reg.SMC_RUNSTAT 31 29 ∉ e.2 →
      Yields e.1 s (fun t => t.rf Reg.SMC_RUNSTAT 23 16 = 0x12 ∧ t.runc = s.runc ∧ t.parts = s.parts)) ∧
  (∀ (s : State) (src : Src) (arg : Nat), s.accKind src true Reg.SMC_RUNCMD = none → s.installer src = false →
    ∀ i ∈ [Instr.learnOn src, .learnOff src, .lockstepMode src, .horizonMode src, .steplen src arg],
      Yields i s (fun t => t.rf Reg.SMC_RUNSTAT 23 16 = 2 ∧ t.runc = s.runc ∧ t.parts = s.parts))

/-- R231, R233, R238, R649: the run commands and their refusals. -/
def Obligations.RunCommands : Prop := RunCommandsOfAnyRole ∧ RunCommandsOfInstallers ∧ RunCommandRefusals

/-- R225: the commit step of a command lies at least `dist` steps beyond the scheduled step and its tick at least 2 ms away, and one
of a change of learning is the first step of an epoch; the 1,024 steps that a NAK in free-run adds (R229) come on top; while no 32-bit step number wraps. -/
def Obligations.CommitStepDistance : Prop :=
  ∀ (s : State) (dist more : Nat) (epoch : Bool), s.rf Reg.SMC_RUNSTAT 31 29 = 2 → s.runc.tstart ≤ s.time →
    s.runc.anchorC + s.sinceAnchor.toNat + dist + more + 2000000 + 2 * 65536 < 2 ^ 32 → s.epochLen ≤ 65536 →
    s.sched + dist + more ≤ s.commitStep dist more epoch ∧
    (s.time : Int) + 2000000 ≤ (s.runc.tstart : Int) + ((s.commitStep dist more epoch : Int) - s.runc.anchorC) * (s.lenNs : Int) ∧
    (epoch = true → (s.commitStep dist more epoch - more) % s.epochLen = 0)

/-- R226, R253, R309: a participant that still stands before the commit step holds the change prepared and acknowledges it once; it takes the
change up at COMMIT and drops it at ABORT, a core with the copy of the MODE packet that its router delivered; a router whose partition the
SMC answers for swaps its banks at COMMIT; the SMC counts acknowledgements, and a timeout repeats the commit once. -/
def Sys2Proof.Claims.ModeCommitPhases : Prop :=
  (∀ (s : State) (n : Nat) (ch : Change), 1024 ≤ n → s.castOf 0 = some ch → (s.part n).acked = false → (s.part n).prepared = none →
    s.isParticipant n = true → (unitPart n).any s.behalf = false → s.startWaits n ch = none → s.before n ch = true →
    Yields (.modePrepare n) s (fun t => t.part n = { s.part n with acked := true, prepared := some ch } ∧
      (∀ m, m ≠ n → t.part m = s.part m) ∧ t.mem = s.mem ∧ (∀ a, t.rd a = s.rd a) ∧
      ∃ p : Packet, mapGet [] t.wires (s.injWire (ackPort n)) = mapGet [] s.wires (s.injWire (ackPort n)) ++ [p] ∧
        p.key = 3 * 2 ^ 28 + ch.gen ∧ p.payload = 1 ∧ p.step = ch.c % 2 ^ 16)) ∧
  (∀ (s : State) (n v : Nat) (m : Packet) (ch : Change), n < 1024 → s.ctrlHead n 2 = some (v, m) → s.wrapped n = false → m.good = true →
    s.castOf 0 = some ch → (s.part n).acked = false → (s.part n).prepared = none → s.inUse n = true → s.behalf (partOf n) = false →
    s.startWaits n ch = none → ((s.takeInbox n v).retire m.ret).before n ch = true →
    Yields (.modePrepare n) s (fun t => t.part n = { s.part n with acked := true, prepared := some ch } ∧
      mapGet [] (t.port n).inbox v = (mapGet [] (s.port n).inbox v).tail ∧ t.tokens = (s.retire m.ret).tokens ∧ t.mem = s.mem ∧
      ∃ p : Packet, mapGet [] t.wires (8 * n + 4) = mapGet [] s.wires (8 * n + 4) ++ [p] ∧
        p.key = 3 * 2 ^ 28 + ch.gen ∧ p.payload = 1 ∧ p.step = ch.c % 2 ^ 16)) ∧
  (∀ (s : State) (p : Packet) (ch : Change), s.inboxHead 1060 0 = some p → (p.cls = 3 ∨ p.cls = 7) → p.good = true → bits p.key 31 28 = 3 →
    s.runc.change = some ch → s.runc.phase = 1 → s.notFirst = false → bits p.key 15 0 = ch.gen → p.step = ch.c % 2 ^ 16 → p.payload = 1 →
    s.rf Reg.SMC_MODEACK 31 16 = 0 → s.rf Reg.SMC_MODEACK 15 0 + 1 < s.runc.expect → s.runc.expect < 2 ^ 16 →
    Yields .modeAckReceive s (fun t => t.rf Reg.SMC_MODEACK 15 0 = s.rf Reg.SMC_MODEACK 15 0 + 1 ∧ t.runc = s.runc ∧
      ∀ a, a ≠ Reg.SMC_MODEACK → t.rd a = s.rd a)) ∧
  (∀ (s : State) (ch : Change), s.runc.change = some ch → s.runc.phase = 1 → s.smcHalted = false → s.notFirst = false →
    s.runc.again = false → ch.kinds = [.start] →
    Yields .modeCommitTimeout s (fun t => t.runc.again = true ∧ t.runc.change = some ch ∧ t.runc.phase = 1 ∧ (2, ch) ∈ t.runc.cast ∧ (0, ch) ∈ t.runc.cast)) ∧
  (∀ (s : State) (ch : Change), s.runc.change = some ch → s.runc.phase = 1 → s.smcHalted = false → s.notFirst = false →
    s.runc.again = true → ch.kinds = [.hold] →
    Yields .modeCommitTimeout s (fun t => t.rf Reg.SMC_RUNSTAT 23 16 = 0x0D ∧ t.runc.change = none ∧
      t.rd Reg.SMC_ABORTCNT = BitVec.ofNat 32 (min ((s.rd Reg.SMC_ABORTCNT).toNat + 1) 0xFFFFFFFF))) ∧
  (∀ (s : State) (n : Nat) (ch : Change), 1024 ≤ n → s.castOf 1 = some ch → (s.part n).prepared = some ch → ch.kinds.contains .bankSwap = false →
    (∀ u : State, u = s.setPart n { s.part n with prepared := none, committed := some ch } → u.reached n ch = false) →
    Yields (.modeCommitReceive n) s (fun t => t = s.setPart n { s.part n with prepared := none, committed := some ch })) ∧
  (∀ (s u : State) (n v : Nat) (m : Packet) (ch : Change), n < 1024 → s.ctrlHead n 2 = some (v, m) → s.wrapped n = false → m.good = true →
    s.castOf 1 = some ch → (s.part n).prepared = some ch →
    u = ((s.takeInbox n v).retire m.ret).setPart n { s.part n with prepared := none, committed := some ch } → u.reached n ch = false →
    Yields (.modeCommitReceive n) s (fun t => t = u)) ∧
  (∀ (s : State) (l : Nat) (ch : Change), l < 1024 → s.castOf 1 = some ch → s.domOn (128 + partOf l) = true → s.behalf (partOf l) = true →
    ch.kinds = [.bankSwap] → (s.part (1024 + l)).gen ≠ ch.gen → ch.gen < 2 ^ 16 →
    Yields (.modeCommitReceive (1024 + l)) s (fun t => (t.part (1024 + l)).gen = ch.gen ∧
      t.rd (Reg.RTR_BANK l) = BitVec.ofNat 32 (ch.gen * 2 ^ 16 + 2 + (1 - s.rf (Reg.RTR_BANK l) 0 0)))) ∧
  (∀ (s : State) (n : Nat) (ch : Change), 1024 ≤ n → s.castOf 2 = some ch → (s.part n).prepared = some ch →
    Yields (.modeAbortReceive n) s (fun t => t = s.setPart n { s.part n with prepared := none })) ∧
  (∀ (s : State) (n v : Nat) (m : Packet) (ch : Change), n < 1024 → s.ctrlHead n 2 = some (v, m) → s.wrapped n = false → m.good = true →
    s.castOf 2 = some ch → (s.part n).prepared = some ch →
    Yields (.modeAbortReceive n) s (fun t => t = ((s.takeInbox n v).retire m.ret).setPart n { s.part n with prepared := none }))

/-- R223, R233: a run whose units have sealed the step before the hold is HELD; a core whose wait reaches its limit reports once. -/
def Sys2Proof.Claims.HoldAndTimeout : Prop :=
  (∀ (s : State) (c : Nat), s.runc.hold = some c → s.runc.stopping = false → s.rf Reg.SMC_RUNSTAT 31 29 = 3 →
    (∀ p, p < 16 → s.heldPart p = false) → stepGe (s.rd Reg.SMC_DEVHZ).toNat ((c + 2 ^ 32 - 1) % 2 ^ 32) = true →
    Yields .runHeld s (fun t => t.rf Reg.SMC_RUNSTAT 31 29 = 4 ∧ t.runc = s.runc ∧ t.mem = s.mem)) ∧
  (∀ (s : State) (c : Nat), c < 1024 → s.rf (Reg.NCR_HZCFG c) 15 0 ≠ 0 → s.rf (Reg.NCR_HZCFG c) 15 0 ≤ (s.core c).hzWait → s.bit Reg.SMC_RUNSTAT 25 = false → s.rf Reg.SMC_RUNSTAT 31 29 = 2 →
    (s.core c).timedOut = false → s.replaying (partOf c) (s.nextStep c) = false → (s.blockOf c).1 = 2 →
    Yields (.horizonTimeout c) s (fun t => (t.core c).timedOut = true ∧
      t.rd (Reg.NCR_HZTOCNT c) = BitVec.ofNat 32 (min ((s.rd (Reg.NCR_HZTOCNT c)).toNat + 1) 0xFFFFFFFF) ∧
      ∃ p : Packet, mapGet [] t.wires (8 * c + 4) = mapGet [] s.wires (8 * c + 4) ++ [p] ∧ p.cls = 3 ∧ bits p.key 31 28 = 4 ∧ bits p.key 27 24 = 1))

/-- R226 to R228, R233: a commit of a change among the participants, a hold, and timeouts. -/
def Obligations.ModeCommits : Prop := ModeCommitPhases ∧ HoldAndTimeout

/-- R209, R212, R213, R218: the Tundish is admitted, stops injecting and seals; a core takes a horizon report that is not older than
what it holds. -/
def Obligations.TundishStepsAndHorizons : Prop :=
  (∀ s : State, s.tndWaiting = true → s.loadStops = false → (s.part 2064).committed = none →
    s.tndBlockAt (((s.rd Reg.TND_STEP).toNat + 1) % 2 ^ 32) = 0 →
    Yields .tundishAdmit s (fun t => t.rd Reg.TND_STEP = BitVec.ofNat 32 (((s.rd Reg.TND_STEP).toNat + 1) % 2 ^ 32) ∧
      t.tnd.isOpen = true ∧ t.tnd.ran = true ∧ OnlyRegs { s with tnd := t.tnd } t [Reg.TND_STEP, Reg.TND_STAT])) ∧
  (∀ s : State, s.tnd.isOpen = true → s.bit Reg.SMC_STEPCFG 23 = false → s.tickPassed (((s.rd Reg.TND_STEP).toNat + 1) % 2 ^ 32) = true →
    Yields .tundishInjectionEnd s (fun t => t.tnd = { s.tnd with isOpen := false } ∧ OnlyRegs { s with tnd := t.tnd } t [Reg.TND_STAT])) ∧
  (∀ s : State, s.tnd.isOpen = false → s.rd Reg.TND_SEALED ≠ s.rd Reg.TND_STEP → s.tnd.ran = true →
    (∀ r, r < 32 → s.unretired (1024 + r) (s.rd Reg.TND_STEP).toNat = false) → (s.part 2064).committed = none →
    s.windowLast (s.rd Reg.TND_WIN).toNat (s.rd Reg.TND_STEP).toNat = false →
    Yields .tundishStepSeal s (fun t => t.rd Reg.TND_SEALED = s.rd Reg.TND_STEP ∧ ∀ a, a ≠ Reg.TND_SEALED → t.rd a = s.rd a)) ∧
  (∀ (s : State) (c n : Nat) (p : Packet), c < 1024 → n < 8 → s.inboxHead c 0 = some p → p.cls = 3 → bits p.key 31 28 = 1 → p.good = true →
    s.wrapped c = false → mapGet 0 s.img.horizKeys (s.rf (Reg.NCR_HZLIST c n) 7 0) = p.key →
    stepGe p.payload (s.rd (Reg.NCR_HZVAL c n)).toNat = true → p.payload < 2 ^ 32 →
    Yields (.horizonReportReceive c) s (fun t => t.rd (Reg.NCR_HZVAL c n) = BitVec.ofNat 32 p.payload ∧ t.mem = s.mem ∧
      mapGet 0 (t.core c).hzSrc n = p.witness)) ∧
  (∀ (s : State) (c : Nat) (p : Packet), c < 1024 → s.inboxHead c 0 = some p → p.cls = 3 → bits p.key 31 28 = 1 → p.good = true →
    s.wrapped c = false → (∀ n, n < 8 → mapGet 0 s.img.horizKeys (s.rf (Reg.NCR_HZLIST c n) 7 0) = p.key →
      stepGe p.payload (s.rd (Reg.NCR_HZVAL c n)).toNat = false) →
    Yields (.horizonReportReceive c) s (fun t => ∀ n, n < 8 → t.rd (Reg.NCR_HZVAL c n) = s.rd (Reg.NCR_HZVAL c n)))

/-- R255, R256: the CRC tells a packet apart from the same packet with any one bit wrong. -/
def Obligations.CrcFindsOneWrongBit : Prop :=
  ∀ (bs : List Byte) (i j : Nat), i < bs.length → j < 8 → crc16 (bs.set i (bs.getD i 0 ^^^ BitVec.ofNat 8 (2 ^ j))) ≠ crc16 bs

/-- R21, R257, R258, R261, R263, R265, R337: while the fabric runs, a packet enters an input buffer with room, and none waits behind one of
another channel; a message is routed in dimension order toward its home router; a granted copy crosses a link against credit with its hop
counted; a wait for a record counts; an escaped packet at its target returns to its normal channel against the credit of that channel; and
freed flits return as credit, up to the 17 of a buffer. -/
def Sys2Proof.Claims.RouterForwards : Prop :=
  (∀ (s : State) (l p : Nat) (pk : Packet) (t : List Packet), l < 1024 → p < 4 → s.bit Reg.PWR_DEVSTAT 29 = false →
    mapGet [] s.wires (8 * l + p) = pk :: t → s.bufFlits l p pk.channel + pk.flits ≤ 17 →
    Yields (.routerPacketArrive l p false) s (fun u => mapGet [] u.wires (8 * l + p) = t ∧
      u.buf l p pk.channel = s.buf l p pk.channel ++ [⟨pk, none, none, false⟩] ∧ u.mem = s.mem ∧ ∀ a, u.rd a = s.rd a)) ∧
  (∀ (s : State) (l p : Nat) (q pk : Packet) (t : List Packet), l < 1024 → p < 4 → s.bit Reg.PWR_DEVSTAT 29 = false →
    mapGet [] s.wires (8 * l + p) = q :: pk :: t → 17 < s.bufFlits l p q.channel + q.flits → pk.channel ≠ q.channel →
    s.bufFlits l p pk.channel + pk.flits ≤ 17 →
    Yields (.routerPacketArrive l p false) s (fun u => mapGet [] u.wires (8 * l + p) = q :: t ∧
      u.buf l p pk.channel = s.buf l p pk.channel ++ [⟨pk, none, none, false⟩] ∧ u.buf l p q.channel = s.buf l p q.channel)) ∧
  (∀ (s : State) (l p v : Nat) (h : Held), l < 1024 → v ≠ 5 → s.bit Reg.PWR_DEVSTAT 29 = false → s.bufHead l p v = some h → h.branches = none → h.pkt.cls = 4 →
    bits h.pkt.key 31 28 = s.rf Reg.SPL_SYSSTAT 23 20 → homeLcn h.pkt.key ≠ l →
    Yields (.routerRoute l p v) s (fun u => u.bufHead l p v = some { h with branches := some [⟨
        if l % 32 < homeLcn h.pkt.key % 32 then 1 else if homeLcn h.pkt.key % 32 < l % 32 then 3
        else if l / 32 < homeLcn h.pkt.key / 32 then 2 else 0, some (homeLcn h.pkt.key), false⟩] } ∧
      u.mem = s.mem ∧ ∀ a, u.rd a = s.rd a)) ∧
  (∀ (s : State) (l o p v m q : Nat) (aged : List Nat) (h : Held) (b : Branch), l < 1024 → o < 4 → s.bit Reg.PWR_DEVSTAT 29 = false →
    s.recWaits l o = false → s.grant l o 0 none = some (p, v) →
    s.candidate l p v o 0 = some (h, b) → h.branches = some [b] → h.needsRecd = false → s.linkTo l o = .router m q → h.pkt.hops < 127 →
    Yields (.routerPacketSend l o aged) s (fun u =>
      mapGet [] u.wires (8 * m + q) = mapGet [] s.wires (8 * m + q) ++
        [{ h.pkt with ret := (match h.recd with | some i => RetPt.mk 0 l i | none => h.pkt.ret), hops := h.pkt.hops + 1,
                      esc := h.pkt.esc || b.esc, escTo := if b.esc then b.target else none }] ∧
      u.credit l o 0 = s.credit l o 0 - h.pkt.flits ∧ u.buf l p v = (s.buf l p v).tail ∧ u.mem = s.mem)) ∧
  (∀ (s : State) (l o : Nat) (aged : List Nat), l < 1024 → o < 6 → s.bit Reg.PWR_DEVSTAT 29 = false → s.recWaits l o = true →
    Yields (.routerPacketSend l o aged) s (fun u =>
      u.rd (Reg.RTR_RETWAIT l) = BitVec.ofNat 32 (min ((s.rd (Reg.RTR_RETWAIT l)).toNat + 1) 0xFFFFFFFF) ∧ u.mem = s.mem)) ∧
  (∀ (s : State) (l p m o : Nat) (h : Held) (t : List Held), l < 1024 → p < 4 → s.bit Reg.PWR_DEVSTAT 29 = false → s.buf l p 5 = h :: t →
    h.branches = none → h.pkt.escTo = some l → h.pkt.cls < 8 → s.bufFlits l p (vcOf h.pkt.cls) + h.pkt.flits ≤ 17 → s.feeds l p = some (m, o) →
    h.pkt.flits ≤ s.credit m o (vcOf h.pkt.cls) →
    Yields (.routerRoute l p 5) s (fun u => u.buf l p 5 = t ∧
      u.buf l p (vcOf h.pkt.cls) = s.buf l p (vcOf h.pkt.cls) ++ [⟨{ h.pkt with escTo := none }, none, none, false⟩] ∧
      u.credit m o (vcOf h.pkt.cls) = s.credit m o (vcOf h.pkt.cls) - h.pkt.flits ∧
      mapGet 0 u.owed ((8 * l + p) * 8 + 5) = mapGet 0 s.owed ((8 * l + p) * 8 + 5) + h.pkt.flits)) ∧
  (∀ (s : State) (pcn v m q : Nat) (h : Held), s.bit Reg.PWR_DEVSTAT 29 = false → s.bufHead (1024 + pcn) 3 v = some h → s.linkTo (1024 + pcn) 1 = .router m q →
    h.pkt.flits ≤ s.credit (1024 + pcn) 1 v →
    Yields (.passThroughForward pcn 3 v) s (fun u =>
      mapGet [] u.wires (8 * m + q) = mapGet [] s.wires (8 * m + q) ++ [{ h.pkt with hops := min 127 (h.pkt.hops + 1) }] ∧
      u.credit (1024 + pcn) 1 v = s.credit (1024 + pcn) 1 v - h.pkt.flits ∧ u.buf (1024 + pcn) 3 v = (s.buf (1024 + pcn) 3 v).tail)) ∧
  (∀ (s : State) (n p v m o : Nat), s.noCredit n p = false → s.feeds n p = some (m, o) →
    Yields (.creditReturn n p v) s (fun u => u.credit m o v = min 17 (s.credit m o v + mapGet 0 s.owed ((8 * n + p) * 8 + v)) ∧
      mapGet 0 u.owed ((8 * n + p) * 8 + v) = 0 ∧ u = { s with credits := u.credits, owed := u.owed }))

/-- R260, R265 to R267, R292, R305: branches that wait too long move to the escape channel, a token lowers the count of its
return point, and combining entries send what they hold. -/
def Sys2Proof.Claims.EscapeRetirementAndMerging : Prop :=
  (∀ (s : State) (l p v : Nat) (h : Held) (bs : List Branch), v ≤ 2 → s.bufHead l p v = some h → h.branches = some bs →
    bs.any (fun b => !b.esc) = true →
    Yields (.escapeTimeout l p v) s (fun u => (∃ h' : Held, u.bufHead l p v = some h' ∧ h'.pkt = h.pkt ∧
        ∃ bs', h'.branches = some bs' ∧ bs'.length = bs.length ∧ ∀ b ∈ bs', b.esc = true) ∧
      u.rd (Reg.RTR_ESCCNT l) = BitVec.ofNat 32 (min ((s.rd (Reg.RTR_ESCCNT l)).toNat + (bs.filter (fun b => !b.esc)).length) 0xFFFFFFFF) ∧
      u.bit (Reg.RTR_ERRSTAT l) 0 = true)) ∧
  (∀ (s : State) (n c i : Nat), s.tokens[n]? = some ⟨1, c, i⟩ →
    Yields (.retirementToken n) s (fun u => u.tokens = s.tokens.eraseIdx n ∧
      mapGet 0 (u.port c).slots i = mapGet 0 (s.port c).slots i - 1 ∧ (∀ j, j ≠ i → mapGet 0 (u.port c).slots j = mapGet 0 (s.port c).slots j))) ∧
  (∀ (s : State) (l e : Nat) (q : Packet), l < 1024 → (s.comb l e).pkt = some q → (s.comb l e).st = 1 → (s.comb l e).kind = 0 →
    Yields (.combineWindowClose l e) s (fun u => (u.comb l e).st = 2 ∧ (u.recd l (448 + e)).count = (s.comb l e).branches.length ∧
      ∃ h : Held, u.buf l 7 (vcOf q.cls) = s.buf l 7 (vcOf q.cls) ++ [h] ∧ h.pkt.key = q.key ∧ h.pkt.payload = (s.comb l e).sum ∧
        h.pkt.good = (q.cls < 4 || q.cls = 7 || q.step % 32 ≤ 16) ∧ h.branches = some (s.comb l e).branches)) ∧
  (∀ (s : State) (l e w : Nat) (q : Packet), l < 1024 → (s.comb l e).pkt = some q → (s.comb l e).st = 1 → (s.comb l e).kind = 3 →
    (s.comb l e).wits = [w] →
    Yields (.faultCoalesceClose l e) s (fun u => (u.comb l e).st = 2 ∧
      ∃ h : Held, u.buf l 7 0 = s.buf l 7 0 ++ [h] ∧ h.pkt.key = q.key ∧ h.pkt.payload = (s.comb l e).sum ∧
        h.pkt.srcDev = bits w 13 10 ∧ h.pkt.srcLcn = bits w 9 0))

/-- R310, R311: an injector whose copies of the old generation have retired reports once, and the SMC counts the reports; with the last it
clears DRAIN_PENDING and sends one CONFIG broadcast, which clears DRAINING in every logical router. -/
def Sys2Proof.Claims.DrainOfASwap : Prop :=
  (∀ (s : State) (c : Nat), c < 1024 → s.drainReady c = true →
    Yields (.injectorDrained c) s (fun u => (u.port c).drained = true ∧ u.drainReady c = false ∧ (∀ a, u.rd a = s.rd a) ∧
      ∃ p : Packet, mapGet [] u.wires (8 * c + 4) = mapGet [] s.wires (8 * c + 4) ++ [p] ∧ p.cls = 3 ∧
        p.key = 5 * 2 ^ 28 + s.rf (Reg.RTR_BANK c) 31 16 ∧ p.payload = 1)) ∧
  (∀ (s : State) (p : Packet), s.inboxHead 1060 0 = some p → (p.cls = 3 ∨ p.cls = 7) → p.good = true → bits p.key 31 28 = 5 →
    bits p.key 15 0 = s.runc.swapGen → s.rf Reg.SMC_DRAIN 15 0 + bits p.payload 15 0 < s.rf Reg.SMC_DRAIN 31 16 →
    Yields .drainReceive s (fun u => u.rf Reg.SMC_DRAIN 15 0 = s.rf Reg.SMC_DRAIN 15 0 + bits p.payload 15 0 ∧
      ∀ a, a ≠ Reg.SMC_DRAIN → u.rd a = s.rd a)) ∧
  (∀ (s : State) (p : Packet), s.inboxHead 1060 0 = some p → (p.cls = 3 ∨ p.cls = 7) → p.good = true → bits p.key 31 28 = 5 →
    bits p.key 15 0 = s.runc.swapGen → s.rf Reg.SMC_DRAIN 15 0 + bits p.payload 15 0 = s.rf Reg.SMC_DRAIN 31 16 →
    s.bit Reg.SMC_IMGSTAT 23 = true → s.rf Reg.SMC_RECSTAT 31 16 = 0 →
    Yields .drainReceive s (fun u => u.bit Reg.SMC_IMGSTAT 23 = false ∧
      ∃ k : Packet, mapGet [] u.wires (s.injWire 1060) = mapGet [] s.wires (s.injWire 1060) ++ [k] ∧ k.cls = 6 ∧ bitAt k.key 1 = true ∧
        (∀ c, c < 1024 → configTarget k.key c = true) ∧ k.payload = 0x1000 ∧ k.data.length = 4 ∧ bitAt (leNat k.data) 1 = false)) ∧
  (∀ (s : State) (c : Nat) (k : Packet), c < 1024 → s.inboxHead c 3 = some k → k.cls = 6 → k.good = true → configTarget k.key c = true →
    bitAt k.key 1 = true → k.payload = 0x1000 → k.data.length = 4 → bitAt (leNat k.data) 1 = false →
    Yields (.configWrite c) s (fun u => u.bit (Reg.RTR_BANK c) 1 = false ∧ u.rf (Reg.RTR_BANK c) 31 16 = s.rf (Reg.RTR_BANK c) 31 16 ∧
      u.bit (Reg.RTR_BANK c) 0 = s.bit (Reg.RTR_BANK c) 0 ∧ u.mem = s.mem ∧ ∀ a, a ≠ Reg.RTR_BANK c → u.rd a = s.rd a))

/-- R256 to R311: forwarding, the escape channel, retirement, merging, and the drain of a swap. -/
def Obligations.Routers : Prop := RouterForwards ∧ EscapeRetirementAndMerging ∧ DrainOfASwap

/-- R325, R326, R329: a request that passes the checks lands: its payload, its entry, then TAIL; one that fails a check is refused
with that check's status. -/
def Obligations.MessageRequestLands : Prop :=
  (∀ (s : State) (c : Nat) (p : Packet), c < 1024 → s.inboxHead c 3 = some p → p.cls = 4 → p.good = true → s.wrapped c = false →
    s.refusals c < 16 → s.queueOk c (bits p.key 16 5) = true →
    s.landOk c (bits p.key 16 5) (bits p.payload 14 0) (p.step % 32) = true → s.queueFull c (bits p.key 16 5) = false →
    p.data.length = 16 * (p.step % 32) → bits p.payload 14 0 + p.data.length ≤ 0x8000 →
    Yields (.msgRequestAccept c) s (fun t =>
      let q := bits p.key 16 5
      let land := 0x100000000 + c * 0x400000 + 0x28000 + bits p.payload 14 0
      let ent := 0x100000000 + c * 0x400000 + 0x28000 + s.entryOff c q (s.qTail c q)
      (∀ i, i < p.data.length → (land + i < ent ∨ ent + 8 ≤ land + i) → t.byte (land + i) = p.data.getD i 0) ∧
      t.num ent 4 = bits p.step 15 12 * 2 ^ 28 + p.step % 32 * 2 ^ 23 + bits p.payload 31 24 * 2 ^ 15 + bits p.payload 14 0 ∧
      t.num (ent + 4) 4 = ((if p.sysSrc then 2 ^ 31 else 0) + p.srcDev * 2 ^ 27 + p.srcLcn * 2 ^ 17 + bits p.payload 23 19 * 2 ^ 12 +
        (s.rd (Reg.NCR_STEP c)).toNat % 2 ^ 12) % 2 ^ 32 ∧
      (∀ x, (x < land ∨ land + p.data.length ≤ x) → (x < ent ∨ ent + 8 ≤ x) → t.byte x = s.byte x) ∧
      t.qTail c q = (s.qTail c q + 1) % 512 ∧ t.qRel c q = s.qRel c q ∧
      t.rd (Reg.MSG_QACC c q) = BitVec.ofNat 32 (min ((s.rd (Reg.MSG_QACC c q)).toNat + 1) 0xFFFFFFFF) ∧
      mapGet [] (t.port c).inbox 3 = (mapGet [] (s.port c).inbox 3).tail ∧
      ∀ a, a ≠ Reg.MSG_QPTR c q → a ≠ Reg.MSG_QACC c q → t.rd a = s.rd a)) ∧
  (∀ (s : State) (c : Nat) (p : Packet), c < 1024 → s.inboxHead c 3 = some p → p.cls = 4 → p.good = true → s.wrapped c = false →
    s.refusals c < 16 →
    (s.queueOk c (bits p.key 16 5) = false ∨ s.landOk c (bits p.key 16 5) (bits p.payload 14 0) (p.step % 32) = false) →
    Yields (.msgRequestAccept c) s (fun t =>
      t.rd (Reg.MSG_REFCNT c) = BitVec.ofNat 32 (min ((s.rd (Reg.MSG_REFCNT c)).toNat + 1) 0xFFFFFFFF) ∧ t.bit (Reg.MSG_STAT c) 0 = true ∧
      t.mem = s.mem ∧ ∃ r : Packet, mapGet [] t.wires (8 * c + 4) = mapGet [] s.wires (8 * c + 4) ++ [r] ∧ r.cls = 5 ∧
        bits r.payload 18 15 = (if s.queueOk c (bits p.key 16 5) then 2 else 1)))

/-- R330 to R332, R340: a read of a selector pops its lowest ready queue, a release frees the oldest popped entry and replies OK, a
forwarded copy leaves for its host queue, and a write of a queue's place resets its pointers. -/
def Sys2Proof.Claims.MessageQueueCommands : Prop :=
  (∀ (s : State) (src : Src) (c sel q : Nat) (rest : List Nat), c < 1024 → sel < 4 → s.accKind src false (Reg.MSG_SELPOP c sel) = none →
    s.bit (Reg.MSG_SELCFG c sel) 31 = true → s.bit (Reg.MSG_SELCFG c sel) 30 = false → s.readyQueues c sel = q :: rest →
    Yields (.selectorPop src c sel) s (fun t => t.rdata = leBytes 4 (2 ^ 31 + q * 2 ^ 24 + s.entryOff c q (s.qHead c q)) ∧
      t.qHead c q = (s.qHead c q + 1) % 512 ∧ t.mem = s.mem ∧ ∀ a, a ≠ Reg.MSG_QPTR c q → t.rd a = s.rd a)) ∧
  (∀ (s : State) (src : Src) (c q : Nat), c < 1024 → q < 128 → s.accKind src true (Reg.MSG_RELEASE c) = none →
    s.consumer c q < 2 → mapGet 0 (s.core c).relDone q = 0 → s.qHead c q ≠ s.qRel c q → s.forwardOpen c q (s.qRel c q) = false →
    Yields (.msgRelease src c q) s (fun t => t.qRel c q = (s.qRel c q + 1) % 512 ∧ t.mem = s.mem ∧
      (∀ a, a ≠ Reg.MSG_QPTR c q → t.rd a = s.rd a) ∧
      ∃ r : Packet, mapGet [] t.wires (8 * c + 4) = mapGet [] s.wires (8 * c + 4) ++ [r] ∧ r.cls = 5 ∧ bits r.payload 18 15 = 0 ∧
        bits r.payload 31 24 = bits (s.num (padAddr c + s.entryOff c q (s.qRel c q)) 4) 22 15)) ∧
  (∀ (s : State) (c q ptr : Nat) (rest : List (Nat × Nat)), c < 1024 → (s.core c).fwdWait = (q, ptr) :: rest → (s.core c).fwds.length < 8 →
    Yields (.forwardSend c) s (fun t => (t.core c).fwdWait = rest ∧
      (t.core c).fwds = (s.core c).fwds ++ [((s.core c).fwdSeq % 256, 512 * q + ptr)] ∧ t.mem = s.mem ∧ (∀ a, t.rd a = s.rd a) ∧
      ∃ r : Packet, mapGet [] t.wires (8 * c + 4) = mapGet [] s.wires (8 * c + 4) ++ [r] ∧ r.cls = 4 ∧
        bits r.key 16 5 = s.rf (Reg.MSG_QCFG c q) 27 16 ∧ bits r.key 4 2 = 4 ∧
        r.data = s.bytes (padAddr c + bits (s.num (padAddr c + s.entryOff c q ptr) 4) 14 0)
          (16 * bits (s.num (padAddr c + s.entryOff c q ptr) 4) 27 23))) ∧
  (∀ (s : State) (c q data : Nat) (ring : Bool), c < 1024 → q < 128 →
    s.accKind .pcie true (if ring then Reg.MSG_QRING c q else Reg.MSG_QLAND c q) = none → s.rf Reg.SEC_STAT 31 30 = 1 →
    Yields (.msgQueueConfigWrite .pcie c q ring data) s (fun t => t.rd (Reg.MSG_QPTR c q) = 0 ∧ mapGet 0 (t.core c).relDone q = 0 ∧
      t.rf (if ring then Reg.MSG_QRING c q else Reg.MSG_QLAND c q) 27 16 = bits data 27 16))

/-- R333 to R335, R426: the reply to the oldest request of a send descriptor returns its credit, at a core and at the Ladle, whose
waiting entry may then be written; a request whose reply does not come ends as TIMEOUT. -/
def Sys2Proof.Claims.RepliesAndTimeouts : Prop :=
  (∀ (s : State) (c : Nat) (p : Packet), c < 1024 → s.inboxHead c 4 = some p → p.cls = 5 → p.good = true → bits p.key 4 2 = 0 →
    s.sdOldest (Reg.MSG_SDKEY c (bits p.payload 23 19)) (bits p.payload 31 24) = true →
    Yields (.msgReplyReceive c) s (fun t =>
      t.rf (Reg.MSG_SDKEY c (bits p.payload 23 19) + 12) 19 15 = s.rf (Reg.MSG_SDKEY c (bits p.payload 23 19) + 12) 19 15 - 1 ∧
      (bits p.payload 18 15 ≠ 0 → t.rf (Reg.MSG_SDKEY c (bits p.payload 23 19) + 12) 3 0 = bits p.payload 18 15 ∧
        t.bit (Reg.MSG_STAT c) 2 = true) ∧
      (bits p.payload 18 15 = 0 → ∀ a, a ≠ Reg.MSG_SDKEY c (bits p.payload 23 19) + 12 → t.rd a = s.rd a) ∧ t.mem = s.mem)) ∧
  (∀ (s : State) (c : Nat) (p : Packet), c < 1024 → s.inboxHead c 4 = some p → p.cls = 5 → p.good = true → bits p.key 4 2 = 0 →
    s.sdOldest (Reg.MSG_SDKEY c (bits p.payload 23 19)) (bits p.payload 31 24) = false →
    Yields (.msgReplyReceive c) s (fun t => t.bit (Reg.MSG_STAT c) 3 = true ∧ ∀ a, a ≠ Reg.MSG_STAT c → t.rd a = s.rd a)) ∧
  (∀ (s : State) (k : Nat) (p : Packet), k < 4 → s.inboxHead (1056 + k) 4 = some p → p.cls = 5 → p.good = true →
    s.sdOldest (Reg.LDL_SDKEY (bits p.payload 23 19)) (bits p.payload 31 24) = true → bits p.payload 18 15 = 0 →
    Yields (.msgReplyReceive (1056 + k)) s (fun t =>
      t.rf (Reg.LDL_SDKEY (bits p.payload 23 19) + 12) 19 15 = s.rf (Reg.LDL_SDKEY (bits p.payload 23 19) + 12) 19 15 - 1 ∧
      ∀ n, ∀ e ∈ (t.chan n).ents, e.wait ≠ some (bits p.payload 23 19, bits p.payload 31 24))) ∧
  (∀ (s : State) (c d : Nat), c < 1024 → d < 32 → s.rf (Reg.MSG_SDKEY c d + 8) 15 0 ≠ 0 → s.rf (Reg.MSG_SDKEY c d + 12) 19 15 ≠ 0 →
    Yields (.msgReplyTimeout c d) s (fun t =>
      t.rf (Reg.MSG_SDKEY c d + 12) 19 15 = s.rf (Reg.MSG_SDKEY c d + 12) 19 15 - 1 ∧ t.rf (Reg.MSG_SDKEY c d + 12) 3 0 = 0xF ∧
      t.bit (Reg.MSG_STAT c) 4 = true ∧ t.mem = s.mem))

/-- R330 to R335, R340, R426: queues, replies and timeouts. -/
def Obligations.MessageQueues : Prop := MessageQueueCommands ∧ RepliesAndTimeouts

/-- R389: a camera packet header with one wrong bit is corrected, and one with two wrong bits cannot be. -/
def Obligations.CameraHeaderCode : Prop :=
  ∀ h : Nat, h < 2 ^ 32 → hdrEcc (hdrData h) = bits h 29 24 →
    hdrFix h = some (hdrData h, false) ∧
    (∀ i, i < 32 → hdrFix (h ^^^ 2 ^ i) = some (hdrData h, true)) ∧
    (∀ i j, i < j → j < 32 → hdrFix (h ^^^ 2 ^ i ^^^ 2 ^ j) = none)

/-- R389 to R392, R412: camera packets enter their port's input buffer or are counted by what is wrong with them, and a lost line keeps its
number (for one whose CRC fails too: DEDUCED, assumption log 17); port 3 takes what
the Vernier receiver accepts. -/
def Sys2Proof.Claims.CameraPackets : Prop :=
  (∀ (s : State) (p h crc : Nat) (d : List Byte), p < 3 → s.bit (Reg.TND_PCFG p) 31 = true → s.domOn 163 = true →
    h < 2 ^ 32 → hdrEcc (hdrData h) = bits h 29 24 → bits h 5 0 ≠ 0x12 → bits h 23 8 = d.length →
    (crcCsi d = crc → csiType (bits h 5 0) = true →
      ((s.tndBuf p).map (fun i => i.len)).sum + d.length ≤ s.rf (Reg.TND_PBUF p) 14 0 * 1024 →
      Yields (.csiLongPacket p h d crc) s (fun t => t.tndBuf p = s.tndBuf p ++ [⟨0, bits h 7 6 + 4 * bits h 31 30, bits h 5 0,
          mapGet 0 s.tnd.wrote p % (s.rf (Reg.TND_PBUF p) 14 0 * 1024), d.length, false⟩] ∧
        t.rd (Reg.TND_PPKTCNT p) = BitVec.ofNat 32 (min ((s.rd (Reg.TND_PPKTCNT p)).toNat + 1) 0xFFFFFFFF) ∧
        OnlyRegs { s with tnd := t.tnd, mem := t.mem, upsets := t.upsets, poison := t.poison } t [Reg.TND_PPKTCNT p, Reg.TND_PSTAT p] ∧
        let base := s.rf (Reg.TND_PBUF p) 31 15 * 64
        let size := s.rf (Reg.TND_PBUF p) 14 0 * 1024
        (base + size ≤ 0x800000 → SameBytesOutside s t (0x2800000 + base) size ∧
          ∀ i, i < d.length → t.byte (0x2800000 + base + (mapGet 0 s.tnd.wrote p + i) % size) = d.getD i 0))) ∧
    (crcCsi d = crc → csiType (bits h 5 0) = true →
      s.rf (Reg.TND_PBUF p) 14 0 * 1024 < ((s.tndBuf p).map (fun i => i.len)).sum + d.length →
      Yields (.csiLongPacket p h d crc) s (fun t => t.tndBuf p = s.tndBuf p ++ [⟨3, bits h 7 6 + 4 * bits h 31 30, bits h 5 0, 0, 0, false⟩] ∧ t.mem = s.mem ∧
        t.tnd.broken = true ∧ t.bit Reg.TND_ERRSTAT 0 = true ∧
        t.rd (Reg.TND_PDROPCNT p) = BitVec.ofNat 32 (min ((s.rd (Reg.TND_PDROPCNT p)).toNat + 1) 0xFFFFFFFF))) ∧
    (crcCsi d ≠ crc →
      Yields (.csiLongPacket p h d crc) s (fun t => t.tndBuf p = s.tndBuf p ++ [⟨3, bits h 7 6 + 4 * bits h 31 30, bits h 5 0, 0, 0, false⟩] ∧ t.mem = s.mem ∧
        t.tnd.broken = true ∧ t.bit Reg.TND_ERRSTAT 2 = true ∧
        t.rd (Reg.TND_PCRCCNT p) = BitVec.ofNat 32 (min ((s.rd (Reg.TND_PCRCCNT p)).toNat + 1) 0xFFFFFFFF)))) ∧
  (∀ (s : State) (p vc n : Nat), p < 4 → s.csiOn p = true →
    Yields (.csiFrameStart p vc n) s (fun t => t.tndBuf p = s.tndBuf p ++ [⟨1, vc, 0, 0, 0, false⟩] ∧ t.bit (Reg.TND_PSTAT p) 29 = true ∧
      OnlyRegs { s with tnd := t.tnd } t [Reg.TND_PSTAT p]) ∧
    Yields (.csiFrameEnd p vc n) s (fun t => t.tndBuf p = s.tndBuf p ++ [⟨2, vc, 0, 0, 0, false⟩] ∧ t.bit (Reg.TND_PSTAT p) 29 = false ∧
      OnlyRegs { s with tnd := t.tnd } t [Reg.TND_PSTAT p])) ∧
  (∀ (s : State) (p l : Nat), p < 4 → l < 4 → s.domOn 163 = true → s.bit (Reg.TND_PCFG p) 31 = true →
    Yields (.csiLinkStateChange p l) s (fun t => t.rf (Reg.TND_PSTAT p) 31 30 = l ∧ OnlyRegs s t [Reg.TND_PSTAT p])) ∧
  (∀ (s : State) (h : Nat) (d : List Byte), s.vrn.live = true → s.csiOn 3 = true → h < 2 ^ 32 → hdrEcc (hdrData h) = bits h 29 24 →
    bits h 23 8 = d.length → csiType (bits h 5 0) = true →
    ((s.tndBuf 3).map (fun i => i.len)).sum + d.length ≤ s.rf (Reg.TND_PBUF 3) 14 0 * 1024 →
    Yields (.csi3Copy h d (crcCsi d)) s (fun t => t.tndBuf 3 = s.tndBuf 3 ++ [⟨0, bits h 7 6 + 4 * bits h 31 30, bits h 5 0,
      mapGet 0 s.tnd.wrote 3 % (s.rf (Reg.TND_PBUF 3) 14 0 * 1024), d.length, false⟩]))

/-- R395 to R398: a word of an event stream, its coordinates, key and row queue; a pixel of a frame-delta stream, both read from the input buffer in the SRAM (R387); and a packet that
no descriptor takes. -/
def Sys2Proof.Claims.StreamDecoding : Prop :=
  (∀ (s : State) (p : Nat) (it : TndItem) (rest : List TndItem), p < 4 → s.tndBuf p = it :: rest → it.kind = 0 →
    s.descFor p it.vc it.dt = none →
    Yields (.streamDecode p) s (fun t => t.tndBuf p = rest ∧ t.bit Reg.TND_ERRSTAT 3 = true ∧ t.mem = s.mem ∧ t.tnd.rows = s.tnd.rows ∧
      t.rd (Reg.TND_PUNSUPCNT p) = BitVec.ofNat 32 (min ((s.rd (Reg.TND_PUNSUPCNT p)).toNat + 1) 0xFFFFFFFF))) ∧
  (∀ (s : State) (p n : Nat) (it : TndItem) (rest : List TndItem), p < 4 → s.tndBuf p = it :: rest → it.kind = 0 →
    s.descFor p it.vc it.dt = some n → mapGet 0 s.tnd.pos p = 0 → it.len = 2 → bits (s.desc n 0) 30 29 = 0 → bits (s.desc n 0) 16 15 = 0 →
    bits (s.desc n 2) 31 24 = 0 → bits (s.desc n 2) 23 16 = 0 → bitAt (s.desc n 1) 5 = false → bitAt (s.desc n 0) 14 = false →
    bitAt (s.desc n 0) 13 = true → bitAt (s.desc n 6) 2 = false → (s.row (bits (s.desc n 0) 12 8)).length < 256 →
    leNat (s.itemBytes p it 0 2) / 2 ^ bits (s.desc n 1) 31 26 % 2 ^ (bits (s.desc n 1) 25 22 + 1) / 2 ^ bits (s.desc n 6) 31 28 <
      bits (s.desc n 6) 23 12 →
    Yields (.streamDecode p) s (fun t => t.tndBuf p = rest ∧ t.mem = s.mem ∧ t.row (bits (s.desc n 0) 12 8) = s.row (bits (s.desc n 0) 12 8) ++
      [⟨(s.desc n 5 + (leNat (s.itemBytes p it 0 2) / 2 ^ bits (s.desc n 1) 21 16 % 2 ^ (bits (s.desc n 1) 15 12 + 1) / 2 ^ bits (s.desc n 6) 27 24 *
          bits (s.desc n 6) 23 12 + leNat (s.itemBytes p it 0 2) / 2 ^ bits (s.desc n 1) 31 26 % 2 ^ (bits (s.desc n 1) 25 22 + 1) / 2 ^ bits (s.desc n 6) 31 28) *
          2 ^ bits (s.desc n 6) 11 8) % 2 ^ 32, 0, false, p, it.old⟩])) ∧
  (∀ (s : State) (n p i : Nat) (it : TndItem), i < it.len → bits (s.desc n 0) 30 29 = 1 → bits (s.desc n 0) 16 15 = 0 → it.dt ≠ 0x1E →
    bitAt (s.desc n 3) 14 = false → mapGet false s.tnd.seen n = true → i < bits (s.desc n 1) 31 16 →
    mapGet 0 s.tnd.line n < max 1 (bits (s.desc n 1) 15 0) →
    let a := tndSram (bits (s.desc n 3) 31 15 * 64 + mapGet 0 s.tnd.line n * bits (s.desc n 1) 31 16 + i)
    let v := (s.byte (tndSram (s.rf (Reg.TND_PBUF p) 31 15 * 64 + (it.pos + i) % (s.rf (Reg.TND_PBUF p) 14 0 * 1024)))).toNat
    (s.elem n p it i).put = some (a, leBytes 1 v) ∧
    (s.elem n p it i).event = if (s.byte a).toNat + bits (s.desc n 2) 31 24 < v then some (i, mapGet 0 s.tnd.line n, 1)
      else if v + bits (s.desc n 2) 23 16 < (s.byte a).toNat then some (i, mapGet 0 s.tnd.line n, 0) else none)

/-- R389 to R398, R412: camera packets and the decoding of a stream. -/
def Obligations.CameraStreams : Prop := CameraPackets ∧ StreamDecoding

/-- R209, R398, R400, R402, R403: the head of a row queue is injected with the Tundish's step, in free-run only what stood there at the
admission; a host event is injected in that step, waits for
its STEP, or is discarded as late. -/
def Sys2Proof.Claims.TundishInjection : Prop :=
  (∀ (s : State) (r : Nat) (e : TndEvent) (rest : List TndEvent), r < 32 → s.row r = e :: rest →
    (s.bit Reg.SMC_STEPCFG 23 = false ∨ e.old = true) → s.tnd.isOpen = true → s.rowRoom r = true →
    Yields (.tundishInject r) s (fun t => t.row r = rest ∧ t.rd48 (Reg.TND_PEVCNT e.port) = (s.rd48 (Reg.TND_PEVCNT e.port) + 1) % 2 ^ 48 ∧
      t.mem = s.mem ∧ ∃ p : Packet, mapGet [] t.wires (s.injWire (1024 + r)) = mapGet [] s.wires (s.injWire (1024 + r)) ++ [p] ∧
        p.cls = (if e.graded then 1 else 0) ∧ p.key = e.key ∧ p.payload = e.payload ∧ p.step = (s.rd Reg.TND_STEP).toNat % 2 ^ 16 ∧
        p.srcLcn = 0 ∧ p.sysSrc = true)) ∧
  (∀ (s : State) (r : Nat), s.bit Reg.SMC_STEPCFG 23 = true → (∀ e ∈ s.row r, e.old = false) → exec (.tundishInject r) s = .next s) ∧
  (∀ (s : State) (ch : Nat) (r : List Byte) (rest : List (List Byte)) (j : ChJob), (s.chan ch).evs = r :: rest → (s.chan ch).cur = some j →
    let at_ := (s.rd Reg.TND_STEP).toNat
    let row := if bitAt (numAt r 6 1) 2 then numAt r 7 1 % 32 else homeLcn (numAt r 0 4) / 32
    (stepGt (numAt r 8 4) at_ = true → exec (.hostEventInject ch) s = .next s) ∧
    (stepGt (numAt r 8 4) at_ = false → (numAt r 8 4 = at_ ∨ bitAt (numAt r 6 1) 1 = false) → s.tnd.isOpen = true → s.rowRoom row = true →
      Yields (.hostEventInject ch) s (fun t => (t.chan ch).evs = rest ∧
        t.rd48 Reg.TND_HEVCNT = (s.rd48 Reg.TND_HEVCNT + 1) % 2 ^ 48 ∧ t.mem = s.mem ∧
        ∃ p : Packet, mapGet [] t.wires (s.injWire (1024 + row)) = mapGet [] s.wires (s.injWire (1024 + row)) ++ [p] ∧
          p.cls = (if bitAt (numAt r 6 1) 0 then 1 else 0) ∧ p.key = numAt r 0 4 ∧ p.step = at_ % 2 ^ 16)) ∧
    (stepGt (numAt r 8 4) at_ = false → numAt r 8 4 ≠ at_ → bitAt (numAt r 6 1) 1 = true →
      Yields (.hostEventInject ch) s (fun t => t.wires = s.wires ∧ t.bit Reg.TND_ERRSTAT 5 = true ∧
        t.rd Reg.TND_HLATECNT = BitVec.ofNat 32 (min ((s.rd Reg.TND_HLATECNT).toNat + 1) 0xFFFFFFFF))))

/-- R406, R410: a core's next COUNT record leaves as a message of 64 bytes, at most 4 in flight; one refused as FULL is sent again; the
Tundish offers its WINDOW records in order. -/
def Sys2Proof.Claims.CountAndWindowRecords : Prop :=
  (∀ (s : State) (c : Nat) (r : Nat × Nat × List Byte), c < 1024 → (s.core c).tapOut.length < 4 →
    ∀ i, (i = Instr.countRecordSend c ∧ (s.core c).tapFull = [] ∧ (s.core c).tapNext false = some r) ∨
      (i = .countRecordRetry c ∧ (s.core c).tapFull ≠ [] ∧ (s.core c).tapNext true = some r) →
    Yields i s (fun t => (t.core c).tapOut = (s.core c).tapOut ++ [((s.core c).tapSeq % 256, r.1 * 256 + r.2.1)] ∧ (t.core c).tapFull = (s.core c).tapFull ∧
      (t.core c).taps = (s.core c).taps ∧ t.mem = s.mem ∧
      ∃ p : Packet, mapGet [] t.wires (8 * c + 4) = mapGet [] s.wires (8 * c + 4) ++ [p] ∧ p.cls = 4 ∧ p.step = 0x2004 ∧ p.data = r.2.2 ∧
        bits p.key 16 5 = s.rf (Reg.NCR_TAPCTRL c) 11 0 ∧ bits p.key 4 2 = 6 ∧ p.payload = (s.core c).tapSeq % 256 * 2 ^ 24)) ∧
  (∀ (s : State) (r : List Byte), s.tnd.held = [r] → s.bit (Reg.LDL_HQCFG (s.rf Reg.TND_CTRL 11 0)) 31 = true →
    s.hqCount (s.rf Reg.TND_CTRL 11 0) < s.hqSize (s.rf Reg.TND_CTRL 11 0) →
    Yields .windowRecordRetry s (fun t => t.tnd.held = [] ∧ t.hqCount (s.rf Reg.TND_CTRL 11 0) = s.hqCount (s.rf Reg.TND_CTRL 11 0) + 1 ∧
      t.bytes (s.hqRec (s.rf Reg.TND_CTRL 11 0) (s.hqCount (s.rf Reg.TND_CTRL 11 0))) 64 = fitBytes 64 r)) ∧
  (∀ (s : State) (r : List Byte) (rest : List (List Byte)), s.tnd.held = r :: rest → s.bit (Reg.LDL_HQCFG (s.rf Reg.TND_CTRL 11 0)) 31 = true →
    s.hqSize (s.rf Reg.TND_CTRL 11 0) < s.hqCount (s.rf Reg.TND_CTRL 11 0) + 1 →
    Yields .windowRecordRetry s (fun t => t.tnd.held = r :: rest ∧ t.mem = s.mem))

/-- R395 to R410: events that the Tundish injects, and its records. -/
def Obligations.TundishOutput : Prop := TundishInjection ∧ CountAndWindowRecords

/-- R424, R435: ringing a channel's doorbell, enabling it and disabling it. -/
def Sys2Proof.Claims.LadleChannelCommands : Prop :=
  (∀ (s : State) (src : Src) (n tail : Nat), n < 32 → s.accKind src true (Reg.LDL_CHTAIL n) = none →
    Yields (.ladleDoorbell src n tail) s (fun t => t.rf (Reg.LDL_CHTAIL n) 15 0 = bits tail 15 0 ∧
      (s.bit (Reg.LDL_CHCFG n) 31 = true → s.chState n < 2 → s.chHead n ≠ bits tail 15 0 → t.chState n = 1) ∧
      OnlyRegs s t [Reg.LDL_CHTAIL n, Reg.LDL_CHSTAT n])) ∧
  (∀ (s : State) (src : Src) (n cfg : Nat), n < 32 → s.accKind src true (Reg.LDL_CHCFG n) = none → s.bit (Reg.LDL_CHCFG n) 31 = false →
    s.hostGone = false → (s.chan n).cur = none → (s.chan n).ents = [] →
    Yields (.ladleChannelEnable src n cfg) s (fun t => t.bit (Reg.LDL_CHCFG n) 31 = true ∧ t.rf (Reg.LDL_CHCFG n) 30 29 = bits cfg 30 29 ∧
      t.rf (Reg.LDL_CHCFG n) 28 24 = bits cfg 28 24 ∧ t.chHead n = s.rf (Reg.LDL_CHTAIL n) 15 0 ∧ t.chState n = 0 ∧
      OnlyRegs s t [Reg.LDL_CHCFG n, Reg.LDL_CHHEAD n, Reg.LDL_CHSTAT n])) ∧
  (∀ (s : State) (src : Src) (n cfg : Nat) (j : ChJob), n < 32 → s.accKind src true (Reg.LDL_CHCFG n) = none → s.bit (Reg.LDL_CHCFG n) 31 = true →
    (s.chan n).cur = some j → j.op ≠ 3 → (s.chan n).ents = [] →
    Yields (.ladleChannelDisable src n cfg) s (fun t => t.bit (Reg.LDL_CHCFG n) 31 = false ∧
      t.chan n = ⟨none, [⟨j.p, j.tag, j.done, 4, 0, bitAt j.flags 0, none⟩], []⟩)) ∧
  (∀ (s : State) (src : Src) (n cfg : Nat), n < 32 → s.accKind src true (Reg.LDL_CHCFG n) = none → s.bit (Reg.LDL_CHCFG n) 31 = true →
    (s.chan n).cur = none → (s.chan n).ents = [] →
    Yields (.ladleChannelDisable src n cfg) s (fun t => t.bit (Reg.LDL_CHCFG n) 31 = false ∧ t.chState n = 3))

/-- R425 to R428: a channel fetches the descriptor at HEAD, which moves on; a bad one halts it, a NOP ends at once, a transfer
begins, a MSG leaves as a request whose entry waits for the reply, a READQ takes the oldest records of a queue. -/
def Sys2Proof.Claims.LadleDescriptors : Prop :=
  (∀ (s : State) (n : Nat), n < 32 → s.chMay n = true → s.descOk (s.chDesc n) = true →
    let d := s.chDesc n
    let next : State → Prop := fun t => t.chHead n = (s.chHead n + 1) % 65536
    let job : ChJob := ⟨s.chHead n, d.op, d.flags, d.len, d.haddr, d.daddr, d.tag, 0, false⟩
    (d.op = 0 → Yields (.ladleNop n) s (fun t => next t ∧ t.mem = s.mem ∧
      t.chan n = ⟨none, (s.chan n).ents ++ [⟨s.chHead n, d.tag, 0, 0, 0, bitAt d.flags 0, none⟩], []⟩)) ∧
    (∀ e ∈ [(1, Instr.ladleH2d n), (2, .ladleD2h n), (3, .ladleEvents n)], d.op = e.1 →
      Yields e.2 s (fun t => next t ∧ t.chan n = { s.chan n with cur := some job } ∧ t.mem = s.mem ∧ t.host = s.host)) ∧
    (d.op = 4 → s.rf (Reg.LDL_SDSTAT d.sel) 19 15 < s.sdSlots (Reg.LDL_SDLAND d.sel) →
      s.wireFlits (s.injWire (1056 + d.sel % 4)) + 1 + d.len / 16 ≤ 17 →
      Yields (.ladleMsg n) s (fun t => next t ∧ t.rf (Reg.LDL_SDSTAT d.sel) 19 15 = s.rf (Reg.LDL_SDSTAT d.sel) 19 15 + 1 ∧
        t.rf (Reg.LDL_SDSTAT d.sel) 31 24 = (s.rf (Reg.LDL_SDSTAT d.sel) 31 24 + 1) % 256 ∧
        t.chan n = ⟨none, (s.chan n).ents ++ [⟨s.chHead n, d.tag, d.len, 0, 0, bitAt d.flags 0, some (d.sel, s.rf (Reg.LDL_SDSTAT d.sel) 31 24)⟩], []⟩ ∧
        ∃ p : Packet, mapGet [] t.wires (s.injWire (1056 + d.sel % 4)) = mapGet [] s.wires (s.injWire (1056 + d.sel % 4)) ++ [p] ∧
          p.cls = 4 ∧ p.key = s.rf (Reg.LDL_SDKEY d.sel) 31 5 * 32 ∧ p.data = s.hostBytes d.haddr d.len)) ∧
    (d.op = 5 → Yields (.ladleReadq n) s (fun t => next t ∧ t.host = State.memPut s.host d.haddr (s.hqPeek d.sel 0 d.len) ∧
        t.hqCount d.sel = s.hqCount d.sel - min d.len (s.hqCount d.sel) ∧ t.mem = s.mem ∧
        t.chan n = ⟨none, (s.chan n).ents ++ [⟨s.chHead n, d.tag, min d.len (s.hqCount d.sel), 0, 0, bitAt d.flags 0, none⟩], []⟩))) ∧
  (∀ (s : State) (n : Nat), n < 32 → s.chMay n = true → s.descOk (s.chDesc n) = false →
    ∀ e ∈ [(0, Instr.ladleNop n), (1, .ladleH2d n), (2, .ladleD2h n), (3, .ladleEvents n), (4, .ladleMsg n), (5, .ladleReadq n)],
      (s.chDesc n).op = e.1 ∨ (e.1 = 0 ∧ 6 ≤ (s.chDesc n).op) →
      Yields e.2 s (fun t => t.chHead n = (s.chHead n + 1) % 65536 ∧ t.chState n = 2 ∧ t.bit Reg.LDL_ERRSTAT 1 = true ∧ t.mem = s.mem ∧ t.host = s.host ∧
        t.chan n = ⟨none, (s.chan n).ents ++ [⟨s.chHead n, (s.chDesc n).tag, 0, 5, 0, bitAt (s.chDesc n).flags 0, none⟩], []⟩))

/-- R425, R434, R442: channels and descriptors of the Ladle. -/
def Obligations.LadleRings : Prop := LadleChannelCommands ∧ LadleDescriptors

/-- R426 to R429: a segment of at most 4 KiB moves between host memory and a storage window; the oldest completion entry is written to
its place in the completion ring; a read that the host does not answer halts the channel. -/
def Obligations.LadleSegmentsAndCompletions : Prop :=
  (∀ (s : State) (n : Nat) (j : ChJob), n < 32 → s.chPick = some n → (s.chan n).cur = some j → j.done < j.len →
    storageAt (j.daddr + j.done) = true → j.daddr + j.len ≤ storageEnd (j.daddr + j.done) → 0x200000000 ≤ j.daddr → j.daddr < 0x300000000 →
    s.answers (j.daddr + j.done) = true → s.upsets = [] → s.poison = [] →
    let k := min 4096 (j.len - j.done)
    (j.op = 1 → Yields (.ladleSegment n) s (fun t =>
      (∀ i, i < k → t.byte (j.daddr + j.done + i) = mapGet 0 s.host (j.haddr + j.done + i)) ∧ SameBytesOutside s t (j.daddr + j.done) k ∧
      t.host = s.host ∧ (j.done + k < j.len → (t.chan n).cur = some { j with done := j.done + k }) ∧
      (j.done + k = j.len → (t.chan n).cur = none ∧ ∃ e : ChEnt, (t.chan n).ents = (s.chan n).ents ++ [e] ∧ e.tag = j.tag ∧ e.count = j.len))) ∧
    (j.op = 2 → Yields (.ladleSegment n) s (fun t => t.mem = s.mem ∧
      t.host = State.memPut s.host (j.haddr + j.done) (s.bytes (j.daddr + j.done) k) ∧
      t.rd48 (Reg.LDL_CHBYTES n) = (s.rd48 (Reg.LDL_CHBYTES n) + k) % 2 ^ 48))) ∧
  (∀ (s : State) (n : Nat) (e : ChEnt) (rest : List ChEnt), n < 32 → (s.chan n).ents = e :: rest → e.wait = none → s.hostGone = false →
    s.domOn 162 = true →
    Yields (.ladleCompletion n) s (fun t => (t.chan n).ents = rest ∧ t.mem = s.mem ∧
      t.host = State.memPut s.host (s.rd64 (Reg.LDL_CHCRING_LO n) + 16 * (e.p % 2 ^ s.chLog2 n))
        (leBytes 4 e.tag ++ leBytes 4 e.count ++ leBytes 1 e.status ++ leBytes 1 e.detail ++ leBytes 2 e.p ++ [0, 0, 0] ++
          leBytes 1 (if e.p / 2 ^ s.chLog2 n % 2 = 0 then 1 else 0)) ∧
      t.rd (Reg.LDL_CHDESCCNT n) = BitVec.ofNat 32 (min ((s.rd (Reg.LDL_CHDESCCNT n)).toNat + 1) 0xFFFFFFFF))) ∧
  (∀ (s : State) (n : Nat) (j : ChJob), n < 32 → (s.chan n).cur = some j → j.op = 1 →
    Yields (.ladleReadTimeout n) s (fun t => t.chState n = 2 ∧ t.bit Reg.LDL_ERRSTAT 1 = true ∧ t.mem = s.mem ∧
      t.chan n = ⟨none, (s.chan n).ents ++ [⟨j.p, j.tag, j.done, 2, 0, bitAt j.flags 0, none⟩], []⟩))

/-- R430 to R432, R422: a request at a Ladle attachment is placed in its host queue or refused as FULL, and answered; a selector's signal
becomes its vector. -/
def Sys2Proof.Claims.HostQueueRequests : Prop :=
  (∀ (s : State) (k : Nat) (p : Packet), k < 4 → s.domOn 162 = true → s.inboxHead (1056 + k) 3 = some p → p.cls = 4 → p.good = true →
    bits p.key 4 2 ≠ 5 → s.bit (Reg.LDL_HQCFG (bits p.key 16 5)) 31 = true →
    let q := bits p.key 16 5
    (s.hqCount q + (s.hqRecords p).length ≤ s.hqSize q → s.hqSize q ≤ 12288 →
      Yields (.hostQueueAccept k) s (fun t => t.hqCount q = s.hqCount q + (s.hqRecords p).length ∧
        (∀ i, i < (s.hqRecords p).length → t.bytes (s.hqRec q (s.hqCount q + i)) 64 = fitBytes 64 ((s.hqRecords p).getD i [])) ∧
        ∃ r : Packet, mapGet [] t.wires (s.injWire (1056 + k)) = mapGet [] s.wires (s.injWire (1056 + k)) ++ [r] ∧ r.cls = 5 ∧ bits r.payload 18 15 = 0)) ∧
    (s.hqSize q < s.hqCount q + (s.hqRecords p).length →
      Yields (.hostQueueAccept k) s (fun t => t.mem = s.mem ∧ t.hqCount q = s.hqCount q ∧ t.bit Reg.LDL_ERRSTAT 2 = true ∧
        ∃ r : Packet, mapGet [] t.wires (s.injWire (1056 + k)) = mapGet [] s.wires (s.injWire (1056 + k)) ++ [r] ∧ r.cls = 5 ∧ bits r.payload 18 15 = 4))) ∧
  (∀ (s : State) (p : Packet), bits p.step 15 12 = 2 → p.step % 32 = 4 → bitAt p.payload 14 = false → p.data.length = 64 → s.hqRecords p = [p.data]) ∧
  (∀ (s : State) (k : Nat) (p : Packet), k < 4 → s.domOn 162 = true → s.inboxHead (1056 + k) 3 = some p → p.cls = 4 → p.good = true →
    bits p.key 4 2 = 5 → s.bit Reg.HIF_LINK 31 = true → s.hostGone = false → getF (mapGet 0 s.cfg 0xB0) 31 30 = 2 →
    s.bit (Reg.MSIX_CTRL (1024 + p.srcLcn)) 0 = false →
    Yields (.ladleSelectorSignal k) s (fun t => t.msgs = s.msgs ++ [1024 + p.srcLcn] ∧ t.mem = s.mem ∧ (∀ a, t.rd a = s.rd a) ∧
      ∃ r : Packet, mapGet [] t.wires (s.injWire (1056 + k)) = mapGet [] s.wires (s.injWire (1056 + k)) ++ [r] ∧ r.cls = 5 ∧ bits r.payload 18 15 = 0))

/-- R431, R433, R444: a pop window answers the oldest records and removes them, records move to a host ring, the delayed signal is
sent, and a write of a queue's place empties it. -/
def Sys2Proof.Claims.HostQueueReads : Prop :=
  (∀ (s : State) (q m : Nat), q < 4096 → m ≤ 8 → s.accKind .pcie false (0x1400000 + 512 * q) = none → s.bit (Reg.LDL_HQCFG q) 30 = false →
    Yields (.hostQueuePopRead q 0 (64 * m)) s (fun t => t.rdata = s.hqPeek q 0 m ∧ t.hqCount q = s.hqCount q - min m (s.hqCount q) ∧ t.mem = s.mem ∧
      (t.hq q).first = ((s.hq q).first + min m (s.hqCount q)) % max 1 (s.hqSize q))) ∧
  (∀ (s : State) (q : Nat), q < 4096 → s.domOn 162 = true → s.hostGone = false → s.bit (Reg.LDL_HQCFG q) 30 = true → s.hqCount q = 1 →
    0 < s.ringRoom q → s.rd64 (Reg.LDL_HQWB_LO q) = 0 →
    Yields (.hostRingTransfer q) s (fun t => t.hqCount q = 0 ∧ t.rf (Reg.LDL_HQTAIL q) 20 0 = (s.rf (Reg.LDL_HQTAIL q) 20 0 + 1) % 2 ^ 21 ∧
      t.mem = s.mem ∧ t.host = State.memPut s.host (s.rd64 (Reg.LDL_HQRING_LO q) +
        64 * (s.rf (Reg.LDL_HQTAIL q) 20 0 % 2 ^ min 20 (s.rf (Reg.LDL_HQCFG q) 28 24))) (s.bytes (s.hqRec q 0) 64))) ∧
  (∀ (s : State) (q : Nat), q < 4096 → s.bit (Reg.LDL_HQCFG q) 29 = true → (s.hq q).since ≠ 0 → 64 ≤ s.rf (Reg.LDL_HQCFG q) 10 0 →
    s.rf (Reg.LDL_HQCFG q) 10 0 ≤ 1023 → s.bit Reg.HIF_LINK 31 = true → s.hostGone = false → getF (mapGet 0 s.cfg 0xB0) 31 30 = 2 →
    s.bit (Reg.MSIX_CTRL (s.rf (Reg.LDL_HQCFG q) 10 0)) 0 = false →
    Yields (.hostQueueIrqDelay q) s (fun t => t.msgs = s.msgs ++ [s.rf (Reg.LDL_HQCFG q) 10 0] ∧ (t.hq q).since = 0 ∧ t.mem = s.mem ∧ t.regs = s.regs)) ∧
  (∀ (s : State) (src : Src) (q data : Nat), q < 4096 → s.accKind src true (Reg.LDL_HQLOCAL q) = none →
    Yields (.hostQueueLocalWrite src q data) s (fun t => t.hqCount q = 0 ∧ t.hq q = HqInt.init ∧ t.hqSize q = bits data 14 0 ∧
      t.rf (Reg.LDL_HQLOCAL q) 29 16 = bits data 29 16 ∧ t.mem = s.mem ∧
      ∀ a, a ∉ [Reg.LDL_HQLOCAL q, Reg.LDL_HQLSTAT q, Reg.LDL_POOL] → t.rd a = s.rd a))

/-- R434 to R436, R440: the host is lost: channels stop and the host's session ends; it is back once the link is up with Bus Master
Enable set in D0. -/
def Sys2Proof.Claims.HostLostState : Prop :=
  (∀ (s : State) (c : LostCause), s.domOn 162 = true → s.hostGone = false → s.img.job = none →
    Yields (.hostLostEntry c) s (fun t => t.hostGone = true ∧ t.bit Reg.HIF_STAT 1 = true ∧ t.ldl.chans = [] ∧
      (∀ n, n < 32 → t.bit (Reg.LDL_CHCFG n) 31 = false ∧ t.chState n = 3) ∧ t.rf Reg.SEC_STAT 31 30 = 0 ∧
      (c = .linkDown → t.rd Reg.HIF_LINK = 0) ∧
      t.rd Reg.HIF_LOSTCNT = BitVec.ofNat 32 (min ((s.rd Reg.HIF_LOSTCNT).toNat + 1) 0xFFFFFFFF))) ∧
  (∀ (s : State) (speed width : Nat), speed < 8 → width < 16 → s.domOn 162 = true → s.hostGone = true → s.busMaster = true →
    Yields (.hostLostExit speed width) s (fun t => t.hostGone = false ∧ t.mem = s.mem ∧
      t.rd Reg.HIF_LINK = BitVec.ofNat 32 (2 ^ 31 + speed * 2 ^ 28 + width * 2 ^ 24)))

/-- R427 to R434, R444: the host queues, their reads, and the host-lost state. -/
def Obligations.HostQueues : Prop := HostQueueRequests ∧ HostQueueReads ∧ HostLostState

/-- R347, R352: a pre record of a later step decays and raises its entry's trace, one of an earlier or equal step, or of an entry that
is not VALID, is discarded; a reward of the open epoch is added, one of the next is kept for it, and any other is late. -/
def Obligations.PreRecordsAndRewards : Prop :=
  (∀ (s : State) (p x n u m : Nat) (rest : List (Nat × Nat × Nat × Nat)), p < 16 → (s.temper p).pre = (x, n, u, m) :: rest →
    s.rf (Reg.TMP_PRELO p) 21 0 ≤ n → u < 2 ^ 32 → SoundStorage s →
    let a := 0x200000000 + p * 0x2000000 + 16 * s.rf (Reg.TMP_PREBASE p) 20 0 + 16 * (n - s.rf (Reg.TMP_PRELO p) 21 0)
    let r := bits (s.num a 4) 30 28
    let e := stepSub u (s.num (a + 4) 4)
    let curve := s.rule p r (0x40 + 2 * min (e / 2 ^ bits (s.rule p r 0 4) 27 24) 63) 2
    (bitAt (s.num a 4) 31 = true → s.num (a + 8) 2 = s.rf (Reg.TMP_STAT p) 15 0 → stepGe (s.num (a + 4) 4) u = false →
      Yields (.preRecordApply p) s (fun t => (t.temper p).pre = rest ∧
        t.num a 2 = min ((s.num a 2 * curve + 16384) / 2 ^ 15 + s.rule p r 2 2 * m / 2 ^ 8) 65535 ∧ t.num (a + 4) 4 = u ∧
        t.num (a + 8) 2 = s.num (a + 8) 2 ∧ SameBytesOutside s t a 10 ∧ t.rd48 (Reg.TMP_PREREC p) = (s.rd48 (Reg.TMP_PREREC p) + 1) % 2 ^ 48)) ∧
    (bitAt (s.num a 4) 31 = true → s.num (a + 8) 2 ≠ s.rf (Reg.TMP_STAT p) 15 0 →
      Yields (.preRecordApply p) s (fun t => t.num a 2 = min (s.rule p r 2 2 * m / 2 ^ 8) 65535 ∧ t.num (a + 4) 4 = u ∧
        t.num (a + 8) 2 = s.rf (Reg.TMP_STAT p) 15 0)) ∧
    (bitAt (s.num a 4) 31 = false ∨ (s.num (a + 8) 2 = s.rf (Reg.TMP_STAT p) 15 0 ∧ stepGe (s.num (a + 4) 4) u = true) →
      Yields (.preRecordApply p) s (fun t => (t.temper p).pre = rest ∧ t.mem = s.mem ∧
        t.rd (Reg.TMP_PREDISCNT p) = BitVec.ofNat 32 (min ((s.rd (Reg.TMP_PREDISCNT p)).toNat + 1) 0xFFFFFFFF)))) ∧
  (∀ (s : State) (p c q : Nat), p < 16 → s.bit (Reg.TMP_REWQ p) 31 = true → c = lcnOf p (s.rf (Reg.TMP_REWQ p) 13 8) →
    q = s.rf (Reg.TMP_REWQ p) 6 0 → s.consumer c q = 1 → s.qHead c q ≠ s.qTail c q →
    let w0 := s.num (padAddr c + s.entryOff c q (s.qHead c q)) 4
    let r := s.num (padAddr c + bits w0 14 0) 2
    let k := s.num (padAddr c + bits w0 14 0 + 4) 4
    bits w0 27 23 ≠ 0 →
      Yields (.rewardReceive p) s (fun t => t.qHead c q = (s.qHead c q + 1) % 512 ∧ t.mem = s.mem ∧
        (k = (s.temper p).epoch % 2 ^ 32 → t.rd (Reg.TMP_REWCUR p) = s.rd (Reg.TMP_REWCUR p) + BitVec.ofInt 32 (toSigned 16 r) ∧
          t.rf (Reg.TMP_REWSTAT p) 11 0 = min (s.rf (Reg.TMP_REWSTAT p) 11 0 + 1) 4095) ∧
        (k = ((s.temper p).epoch + 1) % 2 ^ 32 → t.rd (Reg.TMP_REWNEXT p) = s.rd (Reg.TMP_REWNEXT p) + BitVec.ofInt 32 (toSigned 16 r) ∧
          t.rd (Reg.TMP_REWCUR p) = s.rd (Reg.TMP_REWCUR p)) ∧
        (k ≠ (s.temper p).epoch % 2 ^ 32 → k ≠ ((s.temper p).epoch + 1) % 2 ^ 32 → t.rd (Reg.TMP_REWCUR p) = s.rd (Reg.TMP_REWCUR p) ∧
          t.rd (Reg.TMP_REWLATECNT p) = BitVec.ofNat 32 (min ((s.rd (Reg.TMP_REWLATECNT p)).toNat + 1) 0xFFFFFFFF))))

/-- R352, R355, R370, R379, R593: the phases of an epoch-end pass: it begins with the reward latched and a checkpoint under way, the
checkpoint copies every context of the partition, pass 1 ends at once where nothing is rescaled, and the pass ends. -/
def Obligations.EpochPassPhases : Prop :=
  (∀ (s : State) (p : Nat), p < 16 → s.tmpPhase p = 0 → s.partSealed p ((((s.temper p).epoch + 1) * s.epochLen + 2 ^ 32 - 1) % 2 ^ 32) = true → (s.temper p).pre = [] →
    (s.temper p).ckBusy = false → s.pwr.pwrfail = false → s.recovering p = false → s.heldPart p = false → s.saveHolds p = false → s.upsets = [] →
    Yields (.epochPassBegin p) s (fun t => t.tmpPhase p = (if s.bit (Reg.TMP_STAT p) 28 then 1 else 4) ∧ (t.temper p).epoch = (s.temper p).epoch + 1 ∧
      t.rd (Reg.TMP_REWCUR p) = s.rd (Reg.TMP_REWNEXT p) ∧ t.rd (Reg.TMP_REWNEXT p) = 0 ∧
      (t.temper p).reward = (if s.rf (Reg.TMP_REWSTAT p) 11 0 = 0 then none
        else some (max (-32768) (min 32767 (toSigned 32 (s.rd (Reg.TMP_REWCUR p)).toNat)))) ∧
      (t.temper p).ckBusy = true ∧ (t.temper p).ckStep = ((s.temper p).epoch + 1) * s.epochLen % 2 ^ 32)) ∧
  (∀ (s : State) (p : Nat), p < 16 → (s.temper p).ckBusy = true → s.upsets = [] → mapWf 0 s.mem →
    Yields (.checkpointComplete p) s (fun t => (t.temper p).ckBusy = false ∧ t.rf (Reg.VLT_CKSTAT p) 31 30 = 2 ∧
      t.rd (Reg.VLT_CKSTEP p) = BitVec.ofNat 32 (s.temper p).ckStep ∧
      t.rd (Reg.VLT_CKCNT p) = BitVec.ofNat 32 (min ((s.rd (Reg.VLT_CKCNT p)).toNat + 1) 0xFFFFFFFF) ∧
      (∀ c, c < 1024 → partOf c = p → bitAt s.img.inUse c = true → ∀ off, off < 0x20000 →
        t.byte (ckAddr p (cipOf c) off) = s.byte (0x100000000 + c * 0x400000 + off)) ∧
      (∀ x, 0x100000000 ≤ x → x < 0x200000000 → t.byte x = s.byte x))) ∧
  (∀ (s : State) (p : Nat), p < 16 → s.tmpPhase p = 1 → s.passOver p = true → s.rd (Reg.TMP_NORMMASK_LO p) = 0 → s.rd (Reg.TMP_NORMMASK_HI p) = 0 →
    s.histRecords p = [] → s.upsets = [] →
    Yields (.pass1End p) s (fun t => t.tmpPhase p = 4 ∧ t.mem = s.mem)) ∧
  (∀ (s : State) (p : Nat), p < 16 → s.tmpPhase p = 4 → (s.temper p).ckBusy = false → (s.temper p).learns = false →
    Yields (.epochPassEnd p) s (fun t => t.tmpPhase p = 0 ∧ t.rd (Reg.TMP_EPOCHDONE p) = BitVec.ofNat 32 ((s.temper p).epoch - 1) ∧
      t.mem = s.mem ∧ t.keep.wait = s.keep.wait.filter (· != p)))

/-- R361, R364, R367: the next synapse of a pass: pass 1 writes the new weight of the rule, pass 2 the weight scaled by its target's factor;
DELTA, PORT and the AGE of a synapse that is not pruned stay. -/
def Sys2Proof.Claims.SynapsePasses : Prop :=
  ∀ (s : State) (p off t off' t' : Nat) (rest : List (Nat × Nat)), p < 16 → s.passOver p = false →
    (s.passWords p (s.temper p).n).drop (s.temper p).j = (off, t) :: (off', t') :: rest → SoundStorage s →
    (s.temper p).ahead.map (·.2.2) ≠ some true →
    let i := (s.temper p).n
    let c := s.preCore p i
    let w := s.num (0x200000000 + p * 0x2000000 + off) 4
    let r := bits (s.preWord p i 0) 30 28
    let ls := (List.range 15).map (fun k => toSigned 8 (s.byte (0x100000000 + c * 0x400000 + 0x22000 + k)).toNat)
    let v0 := 16 * ls.getD (bits w 11 8) 0 + toSigned 12 (bits w 31 20)
    let put : Int → Nat → Nat := fun fine code =>
      toPattern 12 fine * 2 ^ 20 + bits w 19 16 * 2 ^ 16 + bits w 14 12 * 2 ^ 12 + code * 2 ^ 8 + bits w 7 0
    bitAt (s.channel c (s.readVia c t).2) 31 = false → bitAt w 15 = false → bits w 11 8 ≠ 15 →
    (s.tmpPhase p = 1 → s.normAddr p (cipOf c) t = none → s.rule p r 0x10 1 % 16 = 0 → Yields (.synapseUpdate p) s (fun u =>
      let v := (clampWeight ls (s.newWeight p r v0 (bits (s.preWord p i 0) 15 0) (s.postTrace p r c t))).1
      let e := s.encodeWeight p ls v
      u.num (0x200000000 + p * 0x2000000 + off) 4 = put e.2.2 e.2.1 ∧
      SameBytesOutside s u (0x200000000 + p * 0x2000000 + off) 4 ∧ (u.temper p).j = (s.temper p).j + 1 ∧
      u.rd (Reg.TMP_LFSR p) = e.1.rd (Reg.TMP_LFSR p) ∧ u.rd48 (Reg.TMP_SYNUPD p) = (s.rd48 (Reg.TMP_SYNUPD p) + 1) % 2 ^ 48)) ∧
    (∀ a, s.tmpPhase p = 3 → s.normAddr p (cipOf c) t = some a → s.num (a + 2) 2 ≠ 0x4000 → Yields (.synapseRescale p) s (fun u =>
      let v := (clampWeight ls ((v0 * (s.num (a + 2) 2 : Int) + 2 ^ 13) / 2 ^ 14)).1
      let e := s.encodeWeight p ls v
      u.num (0x200000000 + p * 0x2000000 + off) 4 = put e.2.2 e.2.1 ∧
      SameBytesOutside s u (0x200000000 + p * 0x2000000 + off) 4 ∧ (u.temper p).j = (s.temper p).j + 1)) ∧
    (s.tmpPhase p = 3 → s.normAddr p (cipOf c) t = none →
      Yields (.synapseRescale p) s (fun u => u.mem = s.mem ∧ (u.temper p).j = (s.temper p).j + 1))

/-- R364: a clamped weight is encoded exactly: sixteen times its level and FINE give it back, FINE fits in 12 bits, and code 0xF is never
written. -/
def Obligations.WeightEncodingIsExact : Prop :=
  ∀ (s : State) (p : Nat) (ls : List Int) (x : Int), ls.length = 15 → (∀ l ∈ ls, -128 ≤ l ∧ l ≤ 127) →
    let v := (clampWeight ls x).1
    let e := (s.encodeWeight p ls v).2
    e.1 < 15 ∧ 16 * ls.getD e.1 0 + e.2 = v ∧ -2048 ≤ e.2 ∧ e.2 ≤ 2047

/-- R375 to R377: a weight save begins in the set that is not the newest COMPLETE one, writes a partition's chunk, under
PWRFAIL_N in ascending order, and completes the set with the last chunk. -/
def Sys2Proof.Claims.WeightSaves : Prop :=
  (∀ s : State, s.keep.due = true → s.keep.busy = false → s.smcHalted = false → s.domState 175 ≠ 4 →
    let half := match s.keepBest with | some h => 1 - h | none => 0
    Yields .weightSaveBegin s (fun t => t.keep.busy = true ∧ t.keep.half = half ∧ t.keep.next = 4096 ∧ t.num (keepBase half) 4 = 0x5045454B ∧
      t.num (keepBase half + 8) 1 = 1 ∧ SameBytesOutside s t (keepBase half) 4096 ∧ t.regs = s.regs)) ∧
  (∀ (s : State) (p : Nat), p < 16 → s.keep.busy = true → s.smcHalted = false → p ∈ s.keep.left → p ∉ s.keep.wait → s.tmpPhase p = 0 →
    (s.pwr.pwrfail = false ∨ s.keep.left.head? = some p) →
    s.keep.half < 2 → 4096 ≤ s.keep.next → s.keep.next + (s.keepChunk p).length ≤ 0x1800000 →
    ((∃ q ∈ s.keep.left, q ≠ p) → Yields (.weightSaveChunk p) s (fun t => t.keep.busy = true ∧
      t.bytes (keepBase s.keep.half + s.keep.next) (s.keepChunk p).length = s.keepChunk p ∧
      t.keep.dir = s.keep.dir ++ [(p, s.keep.next, (s.keepChunk p).length)] ∧ p ∉ t.keep.left)) ∧
    ((∀ q ∈ s.keep.left, q = p) → Yields (.weightSaveChunk p) s (fun t => t.keep.busy = false ∧ t.num (keepBase s.keep.half + 8) 1 = 2 ∧
      t.num (keepBase s.keep.half + 4092) 4 = crc32 (t.bytes (keepBase s.keep.half) 4092) ∧
      (s.keep.parts = [p] → s.keep.dir = [] → t.keepComplete s.keep.half = true) ∧
      t.bytes (keepBase s.keep.half + s.keep.next) (s.keepChunk p).length = s.keepChunk p)))

/-- R361, R364, R367, R375 to R377: the synapses of the two passes, and weight saves. -/
def Obligations.SynapsesAndSaves : Prop := SynapsePasses ∧ WeightSaves

/-- R448, R449: every field and slot of a frame is read back as it was written, and a frame with one wrong bit is not valid. -/
def Obligations.FramesReadBack : Prop :=
  (∀ (h : FrameHdr) (slots : List Byte), h.ftype < 16 → h.seq < 4096 → h.ack < 4096 → h.vc < 8 → h.nflit < 8 → (∀ t, h.ret = some t → t < 4096) →
    h.credits.length = 6 → (∀ c ∈ h.credits, c < 16) → frameHdr (frameBytes h slots) = h ∧ (frameBytes h slots).drop 16 = slots ∧
    (h.ftype = 1 → 1 ≤ h.nflit → h.nflit ≤ 4 → h.vc < 6 → slots.length = 16 * h.nflit → frameOk (frameBytes h slots) = true)) ∧
  (∀ (f : List Byte) (i j : Nat), frameOk f = true → i < f.length → j < 8 →
    frameOk (f.set i (f.getD i 0 ^^^ BitVec.ofNat 8 (2 ^ j))) = false)

/-- R452, R453, R456: what a link does with an arriving frame: a sequenced frame in order is accepted, a duplicate is answered with an
ACK, a gap with a NAK; a packet that has arrived whole enters the router under a record, a return tag frees its entry, and HELLO names the
peer. -/
def Sys2Proof.Claims.LinkReceives : Prop :=
  (∀ (s : State) (k i : Nat) (f : List Byte), k < 8 → s.linkUp k = true → (s.link k).retrain = false → frameOk f = true → (frameHdr f).ftype = 1 →
    (frameHdr f).seq = (s.link k).expect → (frameHdr f).nflit = 1 → (s.link k).coming = [] → (packetOf (f.drop 16)).cls < 4 →
    s.freeRecd (linkLcn k) = some i →
    Yields (.dataFrameReceive k f) s (fun t => (t.link k).expect = ((s.link k).expect + 1) % 4096 ∧
      t.rd48 (Reg.SPL_LFRAMERX k) = (s.rd48 (Reg.SPL_LFRAMERX k) + 1) % 2 ^ 48 ∧
      ∃ p : Packet, mapGet [] t.wires (8 * linkLcn k + 5) = mapGet [] s.wires (8 * linkLcn k + 5) ++ [p] ∧ p.ret = ⟨0, linkLcn k, i⟩ ∧
        p.key = (packetOf (f.drop 16)).key ∧ p.payload = (packetOf (f.drop 16)).payload ∧ p.step = (packetOf (f.drop 16)).step)) ∧
  (∀ (s : State) (k : Nat) (f : List Byte), k < 8 → s.linkUp k = true → (s.link k).retrain = false → frameOk f = true → (s.link k).expect < 4096 →
    let d := ((frameHdr f).seq + 4096 - (s.link k).expect) % 4096
    ∀ e ∈ [(1, Instr.dataFrameReceive k f), (2, .returnFrameReceive k f), (5, .mgmtFrameReceive k f)], (frameHdr f).ftype = e.1 → d ≠ 0 →
      (2048 ≤ d → Yields e.2 s (fun t => t = s.emitPlain k 3)) ∧
      (d < 2048 → (s.link k).nakAt = none → Yields e.2 s (fun t => (t.link k).expect = (s.link k).expect ∧ (t.link k).nakAt = some s.time ∧
        ∃ g, (t.link k).sent = (s.link k).sent ++ [g] ∧ (frameHdr g).ftype = 4 ∧ (frameHdr g).ack = ((s.link k).expect + 4095) % 4096))) ∧
  (∀ (s : State) (k : Nat) (f : List Byte), k < 8 → s.linkUp k = true → (s.link k).retrain = false → frameOk f = false →
    ∀ i ∈ [Instr.dataFrameReceive k f, .returnFrameReceive k f, .idleFrameReceive k f, .nakFrameReceive k f, .mgmtFrameReceive k f],
      Yields i s (fun t => t.rd (Reg.SPL_LCRCCNT k) = BitVec.ofNat 32 (min ((s.rd (Reg.SPL_LCRCCNT k)).toNat + 1) 0xFFFFFFFF) ∧
        (t.link k).expect = (s.link k).expect ∧ t.wires = s.wires)) ∧
  (∀ (s : State) (k tag : Nat) (r : RetPt) (f : List Byte), k < 8 → s.linkUp k = true → (s.link k).retrain = false → frameOk f = true →
    (frameHdr f).ftype = 2 → (frameHdr f).seq = (s.link k).expect → (frameHdr f).ret = none → slotTags (leNat (f.drop 16)) = [tag] →
    (s.link k).table.find? (fun e => e.1 == tag) = some (tag, r) → r.kind ≠ 3 → (s.link k).coming = [] →
    Yields (.returnFrameReceive k f) s (fun t => t.tokens = s.tokens ++ [r] ∧ (t.link k).table.find? (fun e => e.1 == tag) = none)) ∧
  (∀ (s : State) (k m : Nat) (f : List Byte), k < 8 → s.linkUp k = true → (s.link k).retrain = false → frameOk f = true →
    (s.link k).seq < 4096 → (s.link k).unacked.length < 2048 → 0 < m → m < (s.link k).unacked.length → (s.link k).coming = [] →
    ((frameHdr f).ack + 1 + ((s.link k).unacked.length - m)) % 4096 = (s.link k).seq →
    ((frameHdr f).ftype = 3 → Yields (.idleFrameReceive k f) s (fun t =>
      (t.link k).unacked = (s.link k).unacked.drop m ∧ (t.link k).spins = 0 ∧ t.rf (Reg.SPL_LSTAT k) 16 5 = (s.link k).unacked.length - m)) ∧
    ((frameHdr f).ftype = 4 → Yields (.nakFrameReceive k f) s (fun t =>
      (t.link k).unacked = (s.link k).unacked.drop m ∧ (t.link k).resend = (s.link k).unacked.length - m ∧
      t.rd (Reg.SPL_LNAKCNT k) = BitVec.ofNat 32 (min ((s.rd (Reg.SPL_LNAKCNT k)).toNat + 1) 0xFFFFFFFF)))) ∧
  (∀ (s : State) (k : Nat) (f : List Byte), k < 8 → s.linkUp k = true → (s.link k).retrain = false → frameOk f = true →
    (frameHdr f).ftype = 5 → (frameHdr f).seq = (s.link k).expect →
    Yields (.mgmtFrameReceive k f) s (fun t => ∃ u : State, t = (u.mgmtRecord k (Config.mgmtRead (f.drop 16))).passWaiting k 64 ∧
      (u.link k).expect = ((s.link k).expect + 1) % 4096 ∧ u.rd48 (Reg.SPL_LFRAMERX k) = (s.rd48 (Reg.SPL_LFRAMERX k) + 1) % 2 ^ 48 ∧
      u.spr.members = s.spr.members ∧ u.spr.table = s.spr.table)) ∧
  (∀ (s : State) (k serial a b pl : Nat), k < 8 → pl < 8 →
    let t := s.mgmtRecord k [1, serial, a, b, pl]
    t.rd (Reg.SPL_LPEERSN_LO k) = BitVec.ofNat 32 serial ∧ t.rd (Reg.SPL_LPEERSN_HI k) = BitVec.ofNat 32 (serial / 2 ^ 32) ∧
      t.bit (Reg.SPL_LSTAT k) 20 = true ∧ t.rf (Reg.SPL_LSTAT k) 19 17 = pl)

/-- R449 to R451, R453: what a link sends: frames to be sent again first, then a management record, then packets against credits; an IDLE
frame where nothing waits; and a timeout replays every frame that no ACK covers. -/
def Sys2Proof.Claims.LinkSends : Prop :=
  (∀ (s : State) (k : Nat), k < 8 → s.linkUp k = true → (s.link k).retrain = false →
    (0 < (s.link k).resend → (s.link k).resend ≤ (s.link k).unacked.length →
      Yields (.dataFrameSend k) s (fun t => (t.link k).resend = (s.link k).resend - 1 ∧ (t.link k).unacked = (s.link k).unacked ∧
        t.rd (Reg.SPL_LREPLAYCNT k) = BitVec.ofNat 32 (min ((s.rd (Reg.SPL_LREPLAYCNT k)).toNat + 1) 0xFFFFFFFF) ∧
        ∃ g, (t.link k).sent = (s.link k).sent ++ [g] ∧
          g.drop 16 = ((s.link k).unacked.getD ((s.link k).unacked.length - (s.link k).resend) []).drop 16)) ∧
    ((s.link k).resend = 0 → 2047 ≤ (s.link k).unacked.length →
      Yields (.dataFrameSend k) s (fun t => t.spr = s.spr ∧
        t.rd (Reg.SPL_LSTALLCNT k) = BitVec.ofNat 32 (min ((s.rd (Reg.SPL_LSTALLCNT k)).toNat + 1) 0xFFFFFFFF))) ∧
    (∀ m rest, (s.link k).resend = 0 → (s.link k).unacked.length < 2047 → (s.link k).mgmt = m :: rest → (s.link k).seq < 4096 →
      Yields (.dataFrameSend k) s (fun t => (t.link k).mgmt = rest ∧ (t.link k).seq = ((s.link k).seq + 1) % 4096 ∧
        ∃ g, (t.link k).sent = (s.link k).sent ++ [g] ∧ (t.link k).unacked = (s.link k).unacked ++ [g] ∧ (frameHdr g).ftype = 5 ∧
          (frameHdr g).seq = (s.link k).seq ∧ g.drop 16 = m)) ∧
    (∀ v p, v < 6 → (s.link k).resend = 0 → (s.link k).unacked.length < 2047 → (s.link k).mgmt = [] → (s.link k).going = [] → (s.link k).seq < 4096 →
      (∀ u, u < v → s.inboxHead (1064 + k) u = none) → mapGet [] (s.port (1064 + k)).inbox v = [p] → p.good = true → p.cls < 4 → p.data = [] →
      (s.link k).table.length < 2048 → mapGet 0 (s.link k).used v < 256 →
      Yields (.dataFrameSend k) s (fun t => mapGet [] (t.port (1064 + k)).inbox v = [] ∧
        (t.link k).table = (s.link k).table ++ [((s.link k).ordOut % 4096, p.ret)] ∧ mapGet 0 (t.link k).used v = mapGet 0 (s.link k).used v + 1 ∧
        ∃ g, (t.link k).sent = (s.link k).sent ++ [g] ∧ (t.link k).unacked = (s.link k).unacked ++ [g] ∧ (frameHdr g).ftype = 1 ∧
          (frameHdr g).seq = (s.link k).seq ∧ (frameHdr g).vc = v ∧ (frameHdr g).nflit = 1 ∧ g.drop 16 = p.flit)) ∧
    (s.linkIdle k = true → Yields (.idleFrameSend k) s (fun t => (t.link k).seq = (s.link k).seq ∧ (t.link k).unacked = (s.link k).unacked ∧
      ∃ g, (t.link k).sent = (s.link k).sent ++ [g] ∧ (frameHdr g).ftype = 3 ∧ (frameHdr g).ack = ((s.link k).expect + 4095) % 4096)) ∧
    ((s.link k).unacked ≠ [] → (s.link k).spins < 16 → Yields (.linkAckTimeout k) s (fun t =>
      t.link k = { s.link k with resend := (s.link k).unacked.length, spins := (s.link k).spins + 1 } ∧ ∀ a, t.rd a = s.rd a)) ∧
    ((s.link k).unacked ≠ [] → 16 ≤ (s.link k).spins → (s.link k).turns < 3 → Yields (.linkAckTimeout k) s (fun t => (t.link k).retrain = true ∧
      t.rd (Reg.SPL_LRETRAINCNT k) = BitVec.ofNat 32 (min ((s.rd (Reg.SPL_LRETRAINCNT k)).toNat + 1) 0xFFFFFFFF))))

/-- R448 to R454: frames that a link receives and sends. -/
def Obligations.LinkTransfers : Prop := LinkReceives ∧ LinkSends

/-- R447, R451, R454, R470: training, retraining, a lane that fails, and a link that goes down, whose packets in flight are retired. -/
def Sys2Proof.Claims.LinkTraining : Prop :=
  (∀ (s : State) (k m : Nat), k < 8 → m < 16 → s.linkState k = 1 → s.domOn (167 + k) = true →
    Yields (.linkTrainingDone k m) s (fun t => t.linkState k = (if laneCount m = 4 then 2 else if laneCount m = 3 then 3 else 4) ∧
      (3 ≤ laneCount m → t.rf (Reg.SPL_LSTAT k) 28 25 = m ∧ (t.link k).seq = 0 ∧ (t.link k).expect = 0 ∧ (t.link k).unacked = [] ∧ (t.link k).mgmt ≠ []))) ∧
  (∀ (s : State) (k : Nat), k < 8 → s.linkState k = 4 → s.bit Reg.SPL_SYSCFG 31 = true → s.bit (Reg.SPL_LCTRL k) 31 = true →
    s.domOn (167 + k) = true → s.rf Reg.SPL_SYSSTAT 31 29 ≠ 4 →
    Yields (.linkTrainRetry k) s (fun t => t.linkState k = 1 ∧ OnlyRegs s t [Reg.SPL_LSTAT k])) ∧
  (∀ (s : State) (k : Nat), k < 8 → s.accKind .pcie true (Reg.SPL_LCTRL k) = none → s.rf Reg.SEC_STAT 31 30 = 1 → s.bit (Reg.SPL_LCTRL k) 31 = false →
    s.linkState k = 5 → s.bit Reg.SPL_SYSCFG 31 = true → s.domOn (167 + k) = true → s.rf Reg.SPL_SYSSTAT 31 29 ≠ 4 →
    Yields (.linkEnable .pcie k) s (fun t => t.bit (Reg.SPL_LCTRL k) 31 = true ∧ t.linkState k = 1)) ∧
  (∀ (s : State) (src : Src) (k l : Nat), k < 8 → l < 4 → s.linkUp k = true → (s.link k).retrain = false →
    (s.rf (Reg.SPL_LSTAT k) 28 25 = 15 → Yields (.linkLaneFail k l) s (fun t => t.rf (Reg.SPL_LSTAT k) 28 25 = 15 - 2 ^ l ∧ (t.link k).retrain = true ∧
      t.rd (Reg.SPL_LRETRAINCNT k) = BitVec.ofNat 32 (min ((s.rd (Reg.SPL_LRETRAINCNT k)).toNat + 1) 0xFFFFFFFF))) ∧
    (s.accKind src true (Reg.SPL_LCTRL k) = none → Yields (.linkRetrainRequest src k) s (fun t => (t.link k).retrain = true ∧ t.bit (Reg.SPL_LCTRL k) 30 = true ∧
      (t.link k).unacked = (s.link k).unacked))) ∧
  (∀ (s : State) (k m : Nat), k < 8 → m < 16 → s.linkUp k = true → (s.link k).retrain = true → s.bit (Reg.SPL_LCTRL k) 30 = true → laneCount m = 4 →
    (s.link k).unacked ≠ [] → (s.link k).spins < 16 →
    Yields (.linkRetrainDone k m) s (fun t => (t.link k).retrain = false ∧ t.linkState k = 2 ∧ t.rf (Reg.SPL_LSTAT k) 28 25 = 15 ∧
      t.bit (Reg.SPL_LCTRL k) 30 = false ∧ (t.link k).resend = (s.link k).unacked.length)) ∧
  (∀ (s : State) (k : Nat), k < 8 → s.linkUp k = true →
    Yields (.linkPeerTimeout k) s (fun t => t.linkState k = 4 ∧ t.bit Reg.SPL_ERRSTAT 0 = true ∧ (t.link k).table = [] ∧ (t.link k).unacked = [] ∧
      t.rd (Reg.SPL_LDOWNCNT k) = BitVec.ofNat 32 (min ((s.rd (Reg.SPL_LDOWNCNT k)).toNat + 1) 0xFFFFFFFF) ∧
      ∀ e ∈ (s.link k).table, e.2.kind < 3 → e.2 ∈ t.tokens))

/-- R457: the two passes: the devices that prefer a number take it in ascending serial order, where no earlier one has taken it; then every other device
takes the lowest number that is free, in ascending serial order. Numbers are distinct, and the same set gives the same numbers. -/
def Obligations.DeviceNumbers : Prop :=
  (∀ ms : List Member, ms.length ≤ 16 → (ms.map Member.serial).Pairwise (· < ·) → (∀ m ∈ ms, m.prefid < 16) →
    let out := assignNumbers ms
    let first : Member → Prop := fun m => m.prefv = 1 ∧ ∀ x ∈ ms, x.prefv = 1 → x.prefid = m.prefid → m.serial ≤ x.serial
    (out.map Prod.snd).Nodup ∧ (∀ e ∈ out, e.2 < 16) ∧ (∀ m ∈ ms, ∃ n, (m.serial, n) ∈ out) ∧
    (∀ m ∈ ms, first m → (m.serial, m.prefid) ∈ out) ∧
    (∀ m ∈ ms, ¬ first m → ∀ n, (m.serial, n) ∈ out → ∀ k, k < n → ∃ x ∈ ms, (x.serial, k) ∈ out ∧ (first x ∨ x.serial < m.serial))) ∧
  (∀ l k : List Member, l.Perm k → (l.map Member.serial).Nodup → l.foldr putMember [] = k.foldr putMember [])

/-- R456, R463, R464, R466: discovery ends at a device that stands alone, the timebase is slewed against its residual, a PREPARE from device
0 is run here, and entries of the learning table are cleared. -/
def Sys2Proof.Claims.SystemOfDevices : Prop :=
  (∀ s : State, s.rf Reg.SPL_SYSSTAT 31 29 = 2 → s.spr.members = [] → s.spr.owner = none → s.bit Reg.SPL_SYSCFG 30 = false →
    (s.ndev = 1 → Yields .discoveryStable s (fun t => t.rd Reg.SPL_SYSSTAT = 0x61000001)) ∧
    Yields .discoveryTimeout s (fun t => t.rd Reg.SPL_SYSSTAT = 0x61000001 ∧ t.bit Reg.SPL_ERRSTAT 2 = true)) ∧
  (∀ (s : State) (x : Int), s.rf Reg.SPL_SYSSTAT 31 29 = 3 → s.dev ≠ 0 → (s.devLink 0).isSome = true → s.smcHalted = false →
    Yields (.timeSyncExchange x) s (fun t => t.rd Reg.SPL_TSYNC = BitVec.ofInt 32 x ∧ t.tmr.slew = -x ∧ t.time = s.time ∧
      OnlyRegs { s with tmr := t.tmr } t [Reg.SPL_TSYNC])) ∧
  (∀ (s : State) (p : Packet) (ns : List Nat), s.smcHead = some (p, ns) → s.notFirst = true → p.srcDev = 0 → s.smcHalted = false →
    Yields .remotePrepare s (fun t => t = match ns with
      | 1 :: gen :: c :: ks => ((s.smcTake p 0).prepare ⟨kindsOf ks, c % 2 ^ 32, gen % 2 ^ 16⟩).decide
      | _ => s)) ∧
  (∀ (s : State) (p : Packet) (ch : Change), s.headOf 1060 3 4 = some p → s.notFirst = true → p.srcDev = 0 → s.smcHalted = false → ch.c < 2 ^ 32 →
    let t := ((s.smcTake p 0).prepare ch).decide
    t.runc.change = some ch ∧ t.runc.phase = 1 ∧ (0, ch) ∈ t.runc.cast ∧ t.rd Reg.SMC_COMMITSTEP = BitVec.ofNat 32 ch.c) ∧
  (∀ s : State, s.accKind .pcie true Reg.SPL_LRNCLR = none → s.rf Reg.SEC_STAT 31 30 = 1 →
    Yields (.learningClearAll .pcie) s (fun t => ∀ e, e < 256 → t.rd (Reg.SPL_LRN e) = 0) ∧
    ∀ n, n < 256 → Yields (.learningClearOne .pcie n) s (fun t => t.rd (Reg.SPL_LRN n) = 0 ∧
      ∀ e, e < 256 → e ≠ n → t.rd (Reg.SPL_LRN e) = s.rd (Reg.SPL_LRN e)))

/-- R446 to R466: link training, and the system of devices. -/
def Obligations.LinksAndSystem : Prop := LinkTraining ∧ SystemOfDevices

/-- R476 to R479, R500: the Vernier partition's reset, its boot, a lockstep mismatch and a change of the seal. -/
def Sys2Proof.Claims.VernierStartAndFaults : Prop :=
  (∀ s : State, Yields .vernierResetAssert s (fun t => t.rf Reg.VRN_STAT 31 29 = 0 ∧ t.vrn = VrnInt.init ∧
    (∀ x, sealed ≤ x → t.byte x = s.byte x) ∧ t.bit Reg.VRN_STAT 27 = s.bit Reg.VRN_STAT 27)) ∧
  (∀ s : State, s.vrn.live = false → Yields .vernierResetRelease s (fun t => t.rf Reg.VRN_STAT 31 29 = 1 ∧ t.vrn.live = true ∧
    (∀ x, mailbox ≤ x → x < mailbox + 4096 → t.byte x = 0) ∧ SameBytesOutside s t mailbox 4096)) ∧
  (∀ (s : State) (k : Nat) (c : Commit), s.vstate = 1 → s.inForce = some (k, c) →
    (s.vfwOk c.fwSlot = false → Yields .vernierBootDone s (fun t => t.vstate = 4 ∧ t.bit Reg.VRN_STAT 26 = true ∧ t.mem = s.mem)) ∧
    (s.vfwOk c.fwSlot = true → s.vparOk c.parSlot = false →
      Yields .vernierBootDone s (fun t => t.vstate = 4 ∧ t.bit Reg.VRN_STAT 25 = true ∧ t.mem = s.mem)) ∧
    (s.vfwOk c.fwSlot = true → s.vparOk c.parSlot = true →
      Yields .vernierBootDone s (fun t => t.vstate = 2 ∧ t.vrn.seq = s.vrn.seq + 1 ∧ SameBytesOutside s t mailbox 4096 ∧
        t.num (mailbox + 64 * (2 + (s.vrn.seq + 1) % 62)) 1 = 3 ∧
        t.num (mailbox + 64 * (2 + (s.vrn.seq + 1) % 62) + 2) 1 = s.vrn.cause % 256))) ∧
  (∀ s : State, s.vstate = 1 → s.inForce = none → Yields .vernierBootDone s (fun t => t.vstate = 4 ∧ t.bit Reg.VRN_STAT 26 = true)) ∧
  (∀ s : State, (s.vstate = 1 ∨ s.vstate = 2 ∨ s.vstate = 3) →
    (2 ≤ (s.vrn.slips.filter (fun t => decide (s.vrn.ns < t + 1000000000))).length →
      Yields .lockstepMismatch s (fun t => t.vstate = 4 ∧ t.bit Reg.VRN_STAT 24 = true ∧ t.mem = s.mem)) ∧
    (∀ k c, (s.vrn.slips.filter (fun t => decide (s.vrn.ns < t + 1000000000))).length < 2 → s.inForce = some (k, c) → k < 2 → c.lockCnt + 1 < 2 ^ 32 →
      Yields .lockstepMismatch s (fun t => t.vstate = 1 ∧ t.vrn.obj = none ∧ t.vrn.cause = 2 ∧
        t.num (sealed + 0x150000 + 32 * (1 - k) + 12) 4 = c.lockCnt + 1))) ∧
  (∀ (s : State) (closed : Bool), s.vrn.live = true → s.sealLow = closed →
    Yields (.sealChange closed) s (fun t => t.sealLow = (!closed) ∧ t.bit Reg.VRN_IRQSTAT 0 = true ∧
      (closed = false → ∀ o, t.vrn.obj = some o → o.open_ = true)))

/-- R481 to R486, R490, R491: encoders, frames, profiles and result records. -/
def Sys2Proof.Claims.VernierMeasures : Prop :=
  (∀ (s : State) (n : Nat), s.vrn.live = true → n < 8 →
    Yields (.encoderEdge n .up) s (fun t => (t.enc n).count = ((s.enc n).count + 1) % 2 ^ 32 ∧ (t.enc n).at_ = s.vrn.ns / 5 % 2 ^ 64 ∧ (∀ m, m ≠ n → t.enc m = s.enc m) ∧
      t = { s with vrn := t.vrn }) ∧
    Yields (.encoderEdge n .down) s (fun t => (t.enc n).count = ((s.enc n).count + 2 ^ 32 - 1) % 2 ^ 32) ∧
    Yields (.encoderEdge n .both) s (fun t => (t.enc n).count = (s.enc n).count ∧ (t.enc n).errs = (s.enc n).errs + 1)) ∧
  (∀ s : State, s.vstate = 2 → s.vrn.start = none →
    Yields .vernierFrameStart s (fun t => t.vrn.start = some (s.vtime, s.encOf 80, s.encOf 81) ∧ t.vrn.lines = [] ∧ t = { s with vrn := t.vrn })) ∧
  (∀ (s : State) (x : Nat × Nat × Nat), s.vstate = 2 → s.vrn.start = some x →
    (s.vrn.sum = none → s.vrn.lost = false → s.par s.parSlot 74 2 ≤ s.vrn.lines.length →
      Yields .profileFrameEnd s (fun t => t.vrn.sum = some (s.summary x.1 x.2.1 x.2.2 s.vrn.lines) ∧ t.vrn.drops = s.vrn.drops ∧ t = { s with vrn := t.vrn })) ∧
    (s.vrn.sum.isSome = true ∨ s.vrn.lost = true ∨ s.vrn.lines.length < s.par s.parSlot 74 2 →
      Yields .profileFrameEnd s (fun t => t.vrn.drops = s.vrn.drops + 1 ∧ t.vrn.sum = s.vrn.sum ∧ ∀ o, t.vrn.obj = some o → o.input = true))) ∧
  (∀ (s : State) (v : VSum), s.vrn.sum = some v → s.vstate = 2 →
    (s.vrn.obj = none → Yields .profileSummaryDone s (fun t => t.vrn.sum = none ∧ t.vrn.out = s.vrn.out ∧ t.vrn.obj.isSome = decide (0 < v.pts) ∧
      ∀ o, t.vrn.obj = some o → o.first = v.sel ∧ o.last = v.sel ∧ o.open_ = s.sealLow)) ∧
    (∀ o, s.vrn.obj = some o → 0 ≤ s.parS s.parSlot 84 →
      ((s.par s.parSlot 98 2 : Int) * 100000 ≤ travel o.last v.sel * s.parS s.parSlot 84 →
        Yields .profileSummaryDone s (fun t => t.vrn.out = s.vrn.out ++ [s.objectRecord o] ∧ t.vrn.sum = none)) ∧
      (travel o.last v.sel * s.parS s.parSlot 84 < (s.par s.parSlot 98 2 : Int) * 100000 → 0 < v.pts →
        Yields .profileSummaryDone s (fun t => t.vrn.out = s.vrn.out ∧ ∃ o', t.vrn.obj = some o' ∧ o'.first = o.first ∧ o'.last = v.sel ∧
          o'.edge = (o.edge || decide (0 < v.edges)))))) ∧
  (∀ (s : State) (r : List Byte) (rest : List (List Byte)), s.vstate = 2 → s.vrn.out = r :: rest → r.length = 60 → s.vrn.seq + 1 < 2 ^ 32 →
    Yields .resultRecordPublish s (fun t => t.vrn.out = rest ∧ t.vrn.seq = s.vrn.seq + 1 ∧ t.bit Reg.VRN_IRQSTAT 1 = true ∧
      let a := mailbox + 64 * (2 + (s.vrn.seq + 1) % 62)
      t.bytes a 4 = r.take 4 ∧ t.num (a + 4) 4 = s.vrn.seq + 1 ∧ t.num (a + 60) 4 = crc32 (t.bytes a 60) ∧
      t.num (mailbox + 4) 4 = s.vrn.seq + 1 ∧ SameBytesOutside s t mailbox 4096))

/-- R476 to R496: the start of the Vernier partition, its faults, and what it measures. -/
def Obligations.VernierMeasurement : Prop := VernierStartAndFaults ∧ VernierMeasures

/-- R484, R485: the record of an object that ends: a REJECT names the first cause that applies, and a RESULT holds dimensions that are
multiples of DIV within the limits. -/
def Obligations.ObjectRecordsAreLegal : Prop :=
  ∀ (s : State) (o : VObj),
    (leNat ((s.objectRecord o).take 1) = 1 ∨ leNat ((s.objectRecord o).take 1) = 2) ∧
    (leNat ((s.objectRecord o).take 1) = 1 ↔ leNat (((s.objectRecord o).drop 2).take 1) = 0) ∧
    (o.input = true → leNat (((s.objectRecord o).drop 2).take 1) = 1) ∧
    (o.input = false → o.speed = true → leNat (((s.objectRecord o).drop 2).take 1) = 2) ∧
    (leNat ((s.objectRecord o).take 1) = 1 → 1 ≤ s.par s.parSlot 96 2 → ∀ i, i < 3 →
      let v := leNat (((s.objectRecord o).drop (24 + 4 * i)).take 4)
      v % s.par s.parSlot 96 2 = 0 ∧ s.par s.parSlot (104 + 4 * i) 4 ≤ v ∧ v ≤ s.par s.parSlot (116 + 4 * i) 4)

/-- R493, R494: the indicator port reads the mailbox with word granularity and wraps in it, shows the status byte, and answers other
commands with zeros. -/
def Sys2Proof.Claims.IndicatorPort : Prop :=
  (∀ (s : State) (addr len : Nat), s.vrn.live = true →
    Yields (.indicatorRead addr len []) s (fun t => t.rdata = (List.range len).map (fun i => s.byte (mailbox + (bits addr 11 2 * 4 + i) % 4096)) ∧
      t.vrn.busy = false ∧ t = { s with rdata := t.rdata, vrn := t.vrn })) ∧
  (∀ (s : State) (addr len : Nat) (hits : List Nat), s.vrn.live = true → (∃ w ∈ hits, 4 * w < len) →
    Yields (.indicatorRead addr len hits) s (fun t => t.vrn.busy = true ∧ t.rdata.length = len ∧
      ∀ i, i < len → i / 4 ∉ hits → t.rdata.getD i 0 = s.byte (mailbox + (bits addr 11 2 * 4 + i) % 4096))) ∧
  (∀ s : State, s.vrn.live = true →
    Yields .indicatorStatus s (fun t => t.rdata = [BitVec.ofNat 8 (s.vstate * 32 + (if s.sealLow then 16 else 0) + s.vrn.seq % 16)] ∧ t.vrn.busy = false)) ∧
  (∀ (s : State) (cmd len : Nat), s.vrn.live = true → cmd ≠ 3 → cmd ≠ 5 → Yields (.indicatorOther cmd len) s (fun t => t.rdata = zeros len ∧ t.vrn.busy = false))

/-- R496 to R506: the maker's commands: a chunk is staged in the slot that is not in force, a change takes effect with one audit entry and
one more event, ABORT forgets what was staged, and without the maker's grant or the seal low a command is refused as DENIED. -/
def Sys2Proof.Claims.MakerCommands : Prop :=
  (∀ (s : State) (k n : Nat) (c : Commit), s.makerOk .pcie = true → s.bit Reg.VRN_UPDSTAT 31 = false → s.bit Reg.VRN_STAT 27 = true → s.sealLow = true →
    s.vstate = 2 → s.inForce = some (k, c) → k < 2 → c.fwSlot < 2 → c.parSlot < 2 → c.audUsed < 1024 → c.events + 1 < 2 ^ 32 → c.gen + 1 < 2 ^ 32 → s.vrn.obj = none → s.vrn.out = [] →
    (n < 96 → Yields (.fwChunk .pcie n) s (fun t => t.bytes (sealed + 0x80000 * (1 - c.fwSlot) + 4096 * n) 4096 = s.bytes updBuffer 4096 ∧
      t.rf Reg.VRN_UPDSTAT 23 16 = 0 ∧ t.rf Reg.VRN_UPDSTAT 15 8 = min (s.rf Reg.VRN_UPDSTAT 15 8 + 1) 255 ∧ t.vstate = 2)) ∧
    (n < 32 → Yields (.parChunk .pcie n) s (fun t => t.bytes (sealed + 0x100000 + 0x20000 * (1 - c.parSlot) + 4096 * n) 4096 = s.bytes updBuffer 4096 ∧
      t.rf Reg.VRN_UPDSTAT 23 16 = 0 ∧ t.rf Reg.VRN_UPDSTAT 7 0 = min (s.rf Reg.VRN_UPDSTAT 7 0 + 1) 255)) ∧
    Yields (.abortStaged .pcie) s (fun t => t.rf Reg.VRN_UPDSTAT 23 0 = 0 ∧ t.inForce = s.inForce) ∧
    (s.vfwOk (1 - c.fwSlot) = true → Yields (.vrnFwActivate .pcie) s (fun t => t.vstate = 1 ∧ t.vrn.cause = 3 ∧
      t.inForce = some (1 - k, { c with fwSlot := 1 - c.fwSlot, events := c.events + 1, audUsed := c.audUsed + 1, gen := c.gen + 1 }) ∧
      t.num (sealed + 0x140000 + 64 * c.audUsed) 4 = c.events + 1 ∧ t.num (sealed + 0x140000 + 64 * c.audUsed + 4) 1 = 1)) ∧
    (s.vparOk (1 - c.parSlot) = true → Yields (.parCommit .pcie) s (fun t => t.vstate = 1 ∧ t.vrn.cause = 4 ∧
      t.inForce = some (1 - k, { c with parSlot := 1 - c.parSlot, events := c.events + 1, audUsed := c.audUsed + 1, gen := c.gen + 1 }) ∧
      t.num (sealed + 0x140000 + 64 * c.audUsed) 4 = c.events + 1 ∧ t.num (sealed + 0x140000 + 64 * c.audUsed + 4) 1 = 2)) ∧
    (s.bytes updBuffer 32 = sha256 (s.bytes (sealed + 0x140000) (64 * c.audUsed)) → Yields (.archive .pcie) s (fun t => t.vstate = 1 ∧
      t.inForce = some (1 - k, { c with events := c.events + 1, audUsed := 1, gen := c.gen + 1 }) ∧
      t.num (sealed + 0x140000) 4 = c.events + 1 ∧ t.num (sealed + 0x140000 + 4) 1 = 3))) ∧
  (∀ (s : State) (n : Nat), s.makerOk .pcie = true → s.bit Reg.VRN_UPDSTAT 31 = false → (s.bit Reg.VRN_STAT 27 = false ∨ s.sealLow = false) →
    ∀ i ∈ [Instr.fwChunk .pcie n, .vrnFwActivate .pcie, .parChunk .pcie n, .parCommit .pcie, .archive .pcie, .abortStaged .pcie],
      Yields i s (fun t => t.rf Reg.VRN_UPDSTAT 23 16 = 2 ∧ t.vrn = s.vrn ∧ t.inForce = s.inForce))

/-- R497 to R507: the indicator port and the maker commands. -/
def Obligations.IndicatorAndMaker : Prop := IndicatorPort ∧ MakerCommands

/-- A command of SEC_CMD reaches the block from the PCIe function, and no key is being written (R512, R513). -/
def SecReady (s : State) : Prop := s.accKind .pcie true Reg.SEC_CMD = none ∧ s.bit Reg.SEC_RESULT 31 = false

/-- R513 to R516, R521: CHALLENGE draws a nonce, VERIFY opens a session where every test holds and uses the nonce up either way, the fifth
failure in a row begins the lockout, and a session ends by CLOSE, by its idle limit, or, a maker's, by the seal. -/
def Sys2Proof.Claims.SessionCommands : Prop :=
  (∀ (s : State) (role slot : Nat), SecReady s → s.bit Reg.SEC_STAT 25 = false → ((role = 1 ∧ slot ≤ 3) ∨ (role = 2 ∧ slot ≤ 1)) →
    Yields (.challenge .pcie role slot) s (fun t => t.sec = { s.sec with nonce := some (role, slot, s.time) } ∧ t.rd Reg.SEC_RESULT = 0 ∧
      (∀ i, i < 8 → t.rd (Reg.SEC_NONCE i) = BitVec.ofNat 32 (leNat ((List.range 4).map (fun j => Config.randomByte s.draws (4 * i + j))))) ∧
      t.mem = s.mem)) ∧
  (∀ (s : State) (role slot : Nat), SecReady s → s.bit Reg.SEC_STAT 25 = true →
    Yields (.challenge .pcie role slot) s (fun t => t.sec = s.sec ∧ t.rd Reg.SEC_RESULT = 6)) ∧
  (∀ (s : State) (role slot t0 : Nat), SecReady s → s.sec.nonce = some (role, slot, t0) → s.time - t0 ≤ 10000000000 →
    s.slotState (keySlot role slot) = 1 → beNat (sha256 (s.respBytes 0 64)) = mapGet 0 s.sec.hashes (keySlot role slot) →
    (role = 1 ∧ slot ≤ 3 ∨ role = 2 ∧ slot ≤ 1 ∧ s.bit Reg.SEC_STAT 26 = true) →
    let ok := ecdsaOk (s.respBytes 0 64) (sha256 (s.challengeBlock role slot)) (s.respBytes 64 64)
    (ok = true → Yields (.verifySession .pcie) s (fun t => t.rf Reg.SEC_STAT 31 30 = role ∧ t.rf Reg.SEC_STAT 29 27 = slot ∧
      t.rf Reg.SEC_STAT 15 0 = s.idleLimit ∧ t.rd Reg.SEC_RESULT = 0 ∧ t.sec.nonce = none ∧ t.sec.fails = 0 ∧
      (role = 2 → t.bit Reg.VRN_STAT 27 = true) ∧ ∀ i, i < 32 → t.rd (Reg.SEC_RESP i) = 0)) ∧
    (ok = false → s.sec.fails < 4 → Yields (.verifySession .pcie) s (fun t => t.rd Reg.SEC_RESULT = 5 ∧ t.sec.nonce = none ∧
      t.sec.fails = s.sec.fails + 1 ∧ t.rf Reg.SEC_STAT 31 30 = s.rf Reg.SEC_STAT 31 30 ∧
      t.rd Reg.SEC_FAILCNT = BitVec.ofNat 32 (min ((s.rd Reg.SEC_FAILCNT).toNat + 1) 0xFFFFFFFF)))) ∧
  (∀ s : State, SecReady s → s.sec.nonce = none → s.sec.fails = 4 →
    Yields (.verifySession .pcie) s (fun t => t.rd Reg.SEC_RESULT = 3 ∧ t.bit Reg.SEC_STAT 25 = true ∧ t.sec.fails = 0)) ∧
  (∀ s : State, s.rf Reg.SEC_STAT 31 30 ≠ 0 →
    (SecReady s → Yields (.closeSession .pcie) s (fun t => t.rf Reg.SEC_STAT 31 27 = 0 ∧ t.bit Reg.VRN_STAT 27 = false ∧ t.rd Reg.SEC_RESULT = 0)) ∧
    Yields .sessionIdleTimeout s (fun t => t.rf Reg.SEC_STAT 31 27 = 0 ∧ t.bit Reg.VRN_STAT 27 = false)) ∧
  (∀ (s : State) (closed : Bool), s.bit Reg.SEC_STAT 26 = closed →
    Yields (.secSealChange closed) s (fun t => t.bit Reg.SEC_STAT 26 = (!closed) ∧
      (closed = true → s.rf Reg.SEC_STAT 31 30 = 2 → t.rf Reg.SEC_STAT 31 30 = 0) ∧ (s.rf Reg.SEC_STAT 31 30 ≠ 2 → t.rf Reg.SEC_STAT 31 30 = s.rf Reg.SEC_STAT 31 30))) ∧
  (∀ s : State, Yields .lockoutExpiry s (fun t => t.bit Reg.SEC_STAT 25 = false ∧ OnlyRegs s t [Reg.SEC_STAT]))

/-- R511, R512: key slots are programmed, provisioned and revoked: only a maker session programs or revokes, and its own slot is barred. -/
def Sys2Proof.Claims.KeySlotCommands : Prop :=
  (∀ (s : State) (role slot : Nat), SecReady s → s.rf Reg.SEC_STAT 31 30 = 2 → ((role = 1 ∧ slot ≤ 3) ∨ (role = 2 ∧ slot = 1)) →
    s.slotState (keySlot role slot) = 0 →
    Yields (.progKey .pcie role slot) s (fun t => t.rd Reg.SEC_RESULT = 0x80000000 ∧ t.sec = { s.sec with prog := some (keySlot role slot, beNat (s.respBytes 0 32)) } ∧
      ∀ i, i < 32 → t.rd (Reg.SEC_RESP i) = 0)) ∧
  (∀ (s : State) (role slot : Nat), SecReady s → s.rf Reg.SEC_STAT 31 30 = 2 → ((role = 1 ∧ slot ≤ 3) ∨ (role = 2 ∧ slot ≤ 1)) →
    ¬ (role = 2 ∧ slot = s.rf Reg.SEC_STAT 29 27) →
    Yields (.revokeKey .pcie role slot) s (fun t => t.rd Reg.SEC_RESULT = 0x80000000 ∧ t.sec = { s.sec with revoke := some (keySlot role slot) })) ∧
  (∀ s : State, SecReady s → s.bit Reg.SEC_STAT 24 = true → s.bit Reg.SEC_STAT 26 = true →
    Yields (.provMaker .pcie) s (fun t => t.rd Reg.SEC_RESULT = 0x80000000 ∧ t.sec = { s.sec with prog := some (4, beNat (s.respBytes 0 32)) })) ∧
  (∀ (s : State) (role slot : Nat), SecReady s → s.rf Reg.SEC_STAT 31 30 ≠ 2 →
    ∀ i ∈ [Instr.progKey .pcie role slot, .revokeKey .pcie role slot],
      Yields i s (fun t => t.rd Reg.SEC_RESULT = 2 ∧ t.sec = { s.sec with waits := t.sec.waits } ∧ t.rd Reg.SEC_OTP = s.rd Reg.SEC_OTP)) ∧
  (∀ (s : State) (k h : Nat) (good : Bool), k < 6 → s.sec.prog = some (k, h) →
    Yields (.keyProgramDone good) s (fun t => t.slotState k = (if good then 1 else 3) ∧ mapGet 0 t.sec.hashes k = h ∧ t.sec.prog = none ∧
      t.rd Reg.SEC_RESULT = (if good then 0 else 8) ∧ (∀ j, j < 6 → j ≠ k → t.slotState j = s.slotState j) ∧
      (t.bit Reg.SEC_STAT 24 = true ↔ t.slotState 4 = 0 ∧ t.slotState 5 = 0))) ∧
  (∀ (s : State) (k : Nat), k < 6 → s.sec.revoke = some k →
    Yields (.keyRevokeDone true) s (fun t => t.slotState k = 2 ∧ t.sec.revoke = none ∧ t.rd Reg.SEC_RESULT = 0 ∧
      (s.rf Reg.SEC_STAT 31 30 ≠ 0 → keySlot (s.rf Reg.SEC_STAT 31 30) (s.rf Reg.SEC_STAT 29 27) = k → t.rf Reg.SEC_STAT 31 30 = 0)) ∧
    Yields (.keyRevokeDone false) s (fun t => t.slotState k = s.slotState k ∧ t.sec.revoke = none ∧ t.rd Reg.SEC_RESULT = 8))

/-- R511 to R521: sessions and key slots. -/
def Obligations.SecurityCommands : Prop := SessionCommands ∧ KeySlotCommands

/-- R551 to R554, R536, R649: the device power commands, and the state reached at last; a wake source acts only where it is enabled. -/
def Obligations.DevicePowerCommands : Prop :=
  (∀ s : State, s.accKind .pcie true Reg.PWR_DEVCMD = none → s.rf Reg.SEC_STAT 31 30 = 1 → s.bit Reg.PWR_DEVSTAT 24 = false →
    let accepted : Nat → State → Prop := fun g t => t.pwr = { s.pwr with goal := some g } ∧ t.bit Reg.PWR_DEVSTAT 24 = true ∧ t.rf Reg.PWR_DEVSTAT 23 16 = 0 ∧
      t.rf Reg.PWR_DEVSTAT 31 30 = s.rf Reg.PWR_DEVSTAT 31 30
    (s.sleepBarred [0, 4, 5] = false → Yields (.sleep .pcie) s (accepted 1)) ∧
    (s.sleepBarred [0, 5] = false → Yields (.deepState .pcie) s (accepted 2)) ∧
    (s.rf Reg.PWR_DEVSTAT 31 30 = 1 → Yields (.wake .pcie) s (accepted 0)) ∧
    (s.rf Reg.SMC_RUNSTAT 31 29 = 2 → ∀ i ∈ [Instr.sleep .pcie, .deepState .pcie],
      Yields i s (fun t => t.pwr = s.pwr ∧ t.rf Reg.PWR_DEVSTAT 23 16 = 0x12 ∧ t.bit Reg.PWR_DEVSTAT 24 = false)) ∧
    (∀ prof arg, prof < s.nprof → prof < 4 → arg < 65536 → s.rf Reg.PWR_DEVSTAT 31 30 = 0 → s.notFirst = false → s.commitOpen = false →
      Yields (.profile .pcie prof arg) s (fun t => t.bit Reg.PWR_DEVSTAT 24 = true ∧ ∃ ch : Change, t.runc.change = some ch ∧ ch.kinds = [.profile prof] ∧
        ch.gen = (s.rf Reg.SMC_MODEGEN 15 0 + 1) % 2 ^ 16))) ∧
  (∀ s : State, s.accKind .pcie true Reg.PWR_DEVCMD = none → s.rf Reg.SEC_STAT 31 30 = 0 →
    ∀ i ∈ [Instr.sleep .pcie, .deepState .pcie, .wake .pcie, .profile .pcie 0 0],
      Yields i s (fun t => t.pwr = s.pwr ∧ t.runc = s.runc ∧ t.rf Reg.PWR_DEVSTAT 23 16 = 2)) ∧
  (∀ (s : State) (g : Nat), g < 3 → s.pwr.goal = some g → s.allReached = true → s.pwr.wakeNext = false →
    Yields .deviceStateReached s (fun t => t.rf Reg.PWR_DEVSTAT 31 30 = g ∧ t.bit Reg.PWR_DEVSTAT 24 = false ∧ t.pwr = { s.pwr with goal := none } ∧
      OnlyRegs { s with pwr := t.pwr } t [Reg.PWR_DEVSTAT])) ∧
  (∀ (s : State) (n : Nat), n < 16 → s.pwr.goal = none → s.rf Reg.PWR_DEVSTAT 31 30 = 1 →
    (s.bit Reg.PWR_WAKECFG n = true → Yields (.wakeSource (.gp n)) s (fun t => t.pwr = { s.pwr with goal := some 0 })) ∧
    (s.bit Reg.PWR_WAKECFG n = false → exec (.wakeSource (.gp n)) s = .next s))

/-- R542, R543: the stages of a wake: each in turn, then ON at the target point; a stage that times out once starts the wake again, and a
second time fails the domain. -/
def Sys2Proof.Claims.DomainWakes : Prop :=
  (∀ (s : State) (d : Nat), d < 176 → d ≠ 160 → (s.dom d).act = 1 → (s.dom d).emerg = false →
    (s.rf (Reg.PWR_DSTAT d) 27 26 < 3 → Yields (.wakeStageReady d) s (fun t => t.rf (Reg.PWR_DSTAT d) 27 26 = s.rf (Reg.PWR_DSTAT d) 27 26 + 1 ∧
      t.mem = s.mem ∧ OnlyRegs s t [Reg.PWR_DSTAT d, Reg.CLK_ISL d])) ∧
    (s.rf (Reg.PWR_DSTAT d) 27 26 = 3 → s.bit (Reg.PWR_DSTAT d) 25 = false → s.rf (Reg.PWR_DTARGET d) 31 30 = 0 →
      Yields (.wakeStageReady d) s (fun t => t.domState d = 0 ∧ t.domBusy d = false ∧ t.rf (Reg.PWR_DSTAT d) 24 23 = s.rf (Reg.PWR_DTARGET d) 29 28 ∧
        (t.dom d).act = 0 ∧ t.bit (Reg.CLK_ISL d) 31 = true ∧ t.mem = s.mem)) ∧
    ((s.dom d).tries = 0 → ∀ pos, Yields (.wakeStageTimeout d pos) s (fun t => (t.dom d).act = 8 ∧ (t.dom d).tries = 1 ∧
      t.rd (Reg.PWR_DRETRYCNT d) = BitVec.ofNat 32 (min ((s.rd (Reg.PWR_DRETRYCNT d)).toNat + 1) 0xFFFFFFFF))) ∧
    ((s.dom d).tries ≠ 0 → 128 ≤ d → d < 144 → ∀ pos, Yields (.wakeStageTimeout d pos) s (fun t => t.domState d = 4 ∧
      t.rf (Reg.PWR_DSTAT d) 22 20 = s.rf (Reg.PWR_DSTAT d) 27 26 + 1 ∧ t.bit (Reg.PWR_FAILMAP (d / 32)) (d % 32) = true ∧ t.bit Reg.PWR_DEVSTAT 29 = true))) ∧
  (∀ (s : State) (d : Nat), (s.dom d).act = 8 → (s.dom d).emerg = false →
    Yields (.wakeRetry d) s (fun t => t = s.setDom d { s.dom d with act := 1 }))

/-- R525, R526, R531, R542, R545: idle entry and exit, the steps of a change of point, the end of a power-down, and a hard failure. -/
def Sys2Proof.Claims.DomainTransitions : Prop :=
  (∀ (s : State) (d : Nat), d < 176 → d ≠ 160 →
    (s.domState d = 0 → s.domBusy d = false → s.rf (Reg.PWR_DTARGET d) 31 30 = 0 → s.domIdle d = true →
      Yields (.domainIdleEntry d) s (fun t => t.domState d = 1 ∧ OnlyRegs s t [Reg.PWR_DSTAT d])) ∧
    (s.domState d = 1 → Yields (.domainIdleExit d) s (fun t => t.domState d = 0 ∧ OnlyRegs s t [Reg.PWR_DSTAT d]))) ∧
  (∀ (s : State) (d : Nat), d < 176 → d ≠ 160 → (s.dom d).emerg = false →
    ((s.dom d).act = 4 → Yields (.voltageRampDone d) s (fun t => (t.dom d).act = 5 ∧ t.bit (Reg.CLK_ISL d) 30 = true ∧ OnlyRegs { s with doms := t.doms } t [Reg.CLK_ISL d])) ∧
    ((s.dom d).act = 6 → Yields (.clockSwitchDone d) s (fun t => (t.dom d).act = 7 ∧ t.rf (Reg.PWR_DSTAT d) 24 23 = s.rf (Reg.PWR_DTARGET d) 29 28)) ∧
    (s.bit (Reg.PWR_DSTAT d) 25 = false → s.rf (Reg.PWR_DTARGET d) 31 30 = 0 →
      ((s.dom d).act = 5 → Yields (.clockSwitchDone d) s (fun t => (t.dom d).act = 0 ∧ t.domBusy d = false ∧ t.rf (Reg.PWR_DSTAT d) 24 23 = s.rf (Reg.PWR_DTARGET d) 29 28)) ∧
      ((s.dom d).act = 7 → Yields (.voltageRampDone d) s (fun t => (t.dom d).act = 0 ∧ t.domBusy d = false)))) ∧
  (∀ (s : State) (d : Nat), d < 128 → (s.dom d).emerg = false → s.bit (Reg.PWR_DSTAT d) 25 = false →
    ((s.dom d).act = 2 → Yields (.domainPowerDownDone d) s (fun t => t.domState d = 2 ∧ t.mem = s.mem ∧ (t.dom d).act = 0)) ∧
    ((s.dom d).act = 3 → Yields (.domainPowerDownDone d) s (fun t => t.domState d = 3 ∧ (t.dom d).act = 0 ∧
      ∀ c, c < 1024 → rowDom c = d → ∀ x, x < 0x400000 → t.byte (0x100000000 + c * 0x400000 + x) = 0))) ∧
  (∀ (s : State) (d : Nat), 128 ≤ d → d < 144 → s.domOn d = true → s.bit Reg.PWR_DEVSTAT 29 = false →
    Yields (.domainHardFailure d) s (fun t => t.domState d = 4 ∧ t.rf (Reg.PWR_DSTAT d) 22 20 = 5 ∧ t.bit (Reg.PWR_FAILMAP (d / 32)) (d % 32) = true ∧
      t.bit Reg.PWR_DEVSTAT 29 = true ∧ t.rst.errN = true))

/-- R525 to R545: the transitions of a domain. -/
def Obligations.DomainPower : Prop := DomainWakes ∧ DomainTransitions

/-- R532, R537, R538, R540, R541, R547, R549: the limiter's step, the thermal sensors, the regulator's poll, the installer's ceilings and
PWRFAIL_N. -/
def Obligations.PowerManagement : Prop :=
  (∀ (s : State) (draw : Nat), s.rf Reg.PWR_CEIL 31 24 = 0 →
    let ds := (draw :: s.pwr.draws).take 20
    let p := ds.sum / ds.length
    let target := 100 * s.rf Reg.SYS_CAPS 31 24 - 50
    let T := s.rf Reg.PWR_LIMSTAT 31 23
    Yields (.limiterTick draw) s (fun t => t.pwr.draws = ds ∧ t.rf Reg.PWR_LIMSTAT 15 0 = min p 65535 ∧
      t.rf Reg.PWR_LIMSTAT 31 23 = (if target < p then min (T + 16) 384 else if p + 50 < target then T - 1 else T) ∧
      t.rf Reg.PWR_LIMPEAK 15 0 = max (s.rf Reg.PWR_LIMPEAK 15 0) (min p 65535))) ∧
  (∀ (s : State) (temps : List Int) (i : Nat) (tj : Int), temps[i]? = some tj → i < 32 → (∀ j x, temps[j]? = some x → x ≤ tj ∧ (j < i → x < tj)) →
    Yields (.thermalSample temps) s (fun t => t.rf Reg.PWR_THERM 31 24 = toPattern 8 tj ∧ t.rf Reg.PWR_THERM 18 14 = i ∧
      (t.bit Reg.PWR_DEVSTAT 27 = true ↔ s.twarn ≤ tj ∨ (s.bit Reg.PWR_DEVSTAT 27 = true ∧ s.twarn - 5 < tj)) ∧
      (t.bit Reg.PWR_DEVSTAT 26 = true ↔ 115 ≤ tj ∨ (s.bit Reg.PWR_DEVSTAT 26 = true ∧ 105 ≤ tj)))) ∧
  (∀ (s : State) (status vout : Nat), vout < 65536 → s.bit Reg.PWR_PMBCFG 31 = true → s.domOn 161 = true → s.smcHalted = false →
    Yields (.pmbusStatusPoll status vout) s (fun t => t.rf Reg.PWR_VCORE 31 16 = vout ∧
      t.pwr = { s.pwr with regFault := s.pwr.regFault ++ (if status = 0 then [] else [status]) } ∧ OnlyRegs { s with pwr := t.pwr } t [Reg.PWR_VCORE])) ∧
  (∀ (s : State) (data : Nat), s.accKind .pcie true Reg.PWR_CEIL = none → s.rf Reg.SEC_STAT 31 30 = 1 → s.rf Reg.SMC_IMGSTAT 28 27 = 0 →
    Yields (.pwrCeilWrite .pcie data) s (fun t => t.rf Reg.PWR_CEIL 31 24 = bits data 31 24 ∧ t.rf Reg.PWR_CEIL 17 16 = bits data 17 16)) ∧
  (∀ s : State, s.inReset = false → s.bit Reg.RST_STAT 27 = true → s.bit Reg.PWR_DEVSTAT 28 = false → s.smcHalted = false → s.runc.change = none →
    s.img.job = none →
    Yields .pwrfailAssert s (fun t => t.bit Reg.PWR_DEVSTAT 28 = true ∧ t.bit Reg.PWR_IRQSTAT 1 = true ∧ t.pwr.pwrfail = true ∧
      (∀ k, k < 8 → t.linkUp k = false) ∧ t.rf Reg.SMC_RUNSTAT 31 29 = s.rf Reg.SMC_RUNSTAT 31 29)) ∧
  (∀ s : State, s.pwr.pwrfail = true → Yields .pwrfailRelease s (fun t => t.bit Reg.PWR_DEVSTAT 28 = false ∧ t.bit Reg.RST_STAT 24 = false ∧
    t.pwr = { s.pwr with pwrfail := false }))

/-- A reset of R557 that begins a start: what its cause leaves (RST_CAUSE, RST_STAT.COLD), no session, no image, cores as at first, memory
that nothing keeps cleared (the reading of lost memory as 0: assumption log 2), MRAM outside the security log kept, RSTOUT_N asserted. -/
def Sys2Proof.Claims.ResetBegins (s t : State) (cause : Nat) : Prop :=
  t.rf Reg.RST_CAUSE 31 28 = cause ∧ t.rf Reg.RST_CAUSE 4 0 = (if cause = 1 then 1 else s.rf Reg.RST_CAUSE 4 0 ||| 2 ^ (cause - 1)) ∧
    (t.bit Reg.RST_STAT 25 = true ↔ cause = 1) ∧ t.rf Reg.RST_STAT 31 28 = 1 ∧ t.bit Reg.RST_STAT 27 = false ∧ t.rf Reg.SEC_STAT 31 30 = 0 ∧
    t.rf Reg.SMC_RUNSTAT 31 29 = 0 ∧ t.rf Reg.SMC_IMGSTAT 31 27 = 0 ∧ t.bit Reg.PWR_DEVSTAT 29 = false ∧ (∀ c, t.core c = .init) ∧ t.wires = [] ∧
    (∀ a, keptAddr a = false → t.byte a = 0) ∧
    (∀ a, keptAddr a = true → a < 0x300C00000 ∨ 0x300C40000 ≤ a → t.byte a = s.byte a) ∧
    t.rst.rel = 0 ∧ t.rst.rstout = true ∧ t.time = (if cause = 1 then 0 else s.time) ∧ t.vrn = s.vrn ∧ t.pending = s.pending

/-- R557, R560, R583, R586, R673: every reset that begins a start, what it clears and keeps. -/
def Obligations.ResetsClearAndKeep : Prop :=
  (∀ s : State,
    Yields .porstAssert s (fun t => ResetBegins s t 1 ∧ t.rst.porst = true) ∧
    Yields .aonSupplyLow s (fun t => ResetBegins s t 1 ∧ t.rst.aon = true) ∧
    (s.rst.porst = false → s.rst.aon = false → Yields .sysrstAssert s (fun t => ResetBegins s t 2 ∧ t.rst.sysrst = true ∧ t.rst.full = false)) ∧
    (s.rst.fwRuns = true → s.smcHalted = false → s.inReset = false → Yields .watchdogExpiry s (fun t => ResetBegins s t 4 ∧ t.inReset = false))) ∧
  (∀ (s : State), s.accKind .pcie true Reg.RST_CMD = none → s.rf Reg.SEC_STAT 31 30 = 1 →
    Yields (.warmReset .pcie) s (fun t => ResetBegins s t 3 ∧ t.rst.full = false) ∧
    Yields (.warmFull .pcie) s (fun t => ResetBegins s t 3 ∧ t.rst.full = true)) ∧
  (∀ (s : State), s.accKind .pcie true Reg.RST_CMD = none → s.rf Reg.SEC_STAT 31 30 = 0 →
    ∀ i ∈ [Instr.warmReset .pcie, .warmFull .pcie], Yields i s (fun t => t.rf Reg.RST_STAT 7 0 = 2 ∧ t.rf Reg.RST_STAT 31 8 = s.rf Reg.RST_STAT 31 8 ∧
      t.rst = s.rst ∧ t.rf Reg.RST_CAUSE 31 0 = s.rf Reg.RST_CAUSE 31 0 ∧ SameBytesOutside s t 0x300C00000 0x40000)) ∧
  (∀ s : State, s.rf Reg.RST_STAT 31 28 = 2 → s.rst.rel = 4 →
    Yields .smcBootRestart s (fun t => t.rst = { s.rst with rel := 2, fwRuns := false, confirm := false } ∧ t.rf Reg.RST_STAT 31 28 = 2 ∧ t.mem = s.mem ∧
      t.rd Reg.SEC_STAT = s.rd Reg.SEC_STAT ∧ t.domState 161 = 3 ∧ t.rf Reg.SMC_IMGSTAT 31 27 = 0)) ∧
  (∀ s : State, exec .tapReset s = .next { s with rst := { s.rst with tapIr := 1 } })

/-- R559, R560, R562, R564, R673: the order of release after a reset, RSTOUT_N and the core waves. -/
def Sys2Proof.Claims.OrderOfRelease : Prop :=
  let awaking : State → Prop := fun s => s.bit Reg.RST_STAT 27 = false ∧ s.rf Reg.PWR_DEVSTAT 31 30 = 0 ∧ s.pwr.goal = none
  (∀ (s : State),
    let t0 := if s.rf Reg.RST_CAUSE 31 28 = 1 then 0 else s.time
    (s.rst.porst = true → exec .porstRelease s = .next { s with time := t0, rst := { s.rst with porst := false, began := t0 } }) ∧
    (s.rst.aon = true → exec .aonSupplyReturn s = .next { s with time := t0, rst := { s.rst with aon := false, began := t0 } }) ∧
    (s.rst.sysrst = true → exec .sysrstRelease s = .next { s with time := t0, rst := { s.rst with sysrst := false, began := t0 } })) ∧
  (∀ s : State, s.inReset = false →
    (s.rst.rel = 0 → Yields .releaseOrderStep s (fun t => t.rst = { s.rst with rel := 1 } ∧ t.rf Reg.CLK_REFSTAT 31 29 = 7 ∧ OnlyRegs { s with rst := t.rst } t [Reg.CLK_REFSTAT])) ∧
    (s.rst.rel = 1 → exec .fuseLoadDone s = .next { s with rst := { s.rst with rel := 2 } }) ∧
    (s.rst.rel = 2 → Yields .releaseOrderStep s (fun t => t.rst = { s.rst with rel := 3 } ∧
      (awaking s → s.domState 161 = 3 → s.domBusy 161 = false → (t.dom 161).act = 1 ∧ t.domBusy 161 = true))) ∧
    (s.rst.rel = 3 → s.domOn 161 = true → s.rf Reg.RST_STAT 31 28 = 1 → Yields .releaseOrderStep s (fun t => t.rst = { s.rst with rel := 4 } ∧ t.mem = s.mem ∧
      t.rf Reg.RST_STAT 31 28 = 1)) ∧
    (s.rst.rel ≠ 0 → s.bit Reg.RST_CFG 30 = false → exec .rstoutRelease s = .next { s with rst := { s.rst with outDone := true, rstout := false } }) ∧
    (s.rst.rel ≠ 0 → s.bit Reg.RST_CFG 30 = true → s.bit Reg.RST_STAT 27 = false → s.rf Reg.RST_STAT 31 28 ≠ 0xB →
      exec .rstoutRelease s = .next { s with rst := { s.rst with outDone := true } })) ∧
  (∀ s : State, exec .pciePerstRelease s = .next { s with rst := { s.rst with perst := false } }) ∧
  (∀ (s : State) (w : Nat), w < 9 → s.rf Reg.RST_STAT 31 28 = 7 → s.rst.wave = w →
    Yields (.coreWave w) s (fun t => t.rst = { s.rst with wave := w + 1 } ∧ t.mem = s.mem ∧
      (w ≠ 0 → t = { s with rst := t.rst }) ∧
      (w = 0 → awaking s → s.rst.rel = 4 → ∀ d, d < 128 → s.domState d = 3 → s.domBusy d = false → (t.dom d).act = 1)))

/-- R561, R563, R565, R569: a stage ends and the next begins; READY; a start halts while PWRFAIL_N is asserted. -/
def Sys2Proof.Claims.StagesOfAStart : Prop :=
  ∀ (s : State), s.inReset = false → s.bit Reg.PWR_DEVSTAT 29 = false → s.stageOver = true →
    (s.pwr.pwrfail = true → ∀ found, Yields (.startStageEnd found) s (fun t => t.bit Reg.RST_STAT 24 = true ∧ t.rf Reg.RST_STAT 31 28 = s.rf Reg.RST_STAT 31 28 ∧
      OnlyRegs s t [Reg.RST_STAT])) ∧
    (s.pwr.pwrfail = false →
      (∀ n, n ∈ [3, 4, 6] → s.rf Reg.RST_STAT 31 28 = n → ∀ found, Yields (.startStageEnd found) s (fun t => t.rf Reg.RST_STAT 31 28 = n + 1 ∧
        t.bit Reg.RST_STAT 24 = false ∧ t.mem = s.mem ∧ t.rst = s.rst)) ∧
      (s.rf Reg.RST_STAT 31 28 = 5 → Yields (.startStageEnd []) s (fun t => t.rf Reg.RST_STAT 31 28 = (if s.bit Reg.SPL_SYSCFG 31 then 6 else 7) ∧
        (∀ p, p < 16 → t.rf (Reg.VLT_STAT p) 31 28 = (if s.bit Reg.RST_CFG 31 && !s.rst.full && s.repairBest.isSome && !s.rst.vltFail.contains p then 11 else 10)))) ∧
      (s.rf Reg.RST_STAT 31 28 = 7 → ∀ found, Yields (.startStageEnd found) s (fun t => t.rf Reg.RST_STAT 31 28 = 8 ∧ t.mem = s.mem ∧
        ∀ n ∈ found, n < 1152 → t.bit (Reg.RST_MAP (bandOf n).1) (bandOf n).2 = true)) ∧
      (s.rf Reg.RST_STAT 31 28 = 9 → ∀ found, Yields (.startStageEnd found) s (fun t => t.rf Reg.RST_STAT 31 28 = 0xA ∧ t.bit Reg.RST_STAT 27 = true ∧
        t.rd Reg.RST_READYTIME = BitVec.ofNat 32 ((s.time - s.rst.began) / 1000) ∧ t.rst.confirm = true ∧ t.mem = s.mem ∧
        (s.rf (Reg.RST_FWSLOT (s.rf Reg.RST_FWSTAT 30 30)) 31 29 = 2 → t.rf (Reg.RST_FWSLOT (s.rf Reg.RST_FWSTAT 30 30)) 31 29 = 1))))

/-- R559 to R569: the order of release and the stages of a start. -/
def Obligations.StartSequence : Prop := OrderOfRelease ∧ StagesOfAStart

/-- R570, R571: the map that stage 8 gives a band row: the spare is the westernmost defect, or as recorded where there is none, and every
other defect makes its logical core LOST, or all of them where the domain has failed. -/
def Sys2Proof.Claims.BandRowMaps : Prop :=
  ∀ (s : State) (d : Nat), d < 128 →
    let t := s.chooseMap d
    let bad := fun i => bitAt (s.recordedMap d) i || s.bit (Reg.RST_MAP d) i
    let sp := t.rf (Reg.RST_MAP d) 16 13
    t.bit (Reg.RST_MAP d) 31 = true ∧ OnlyRegs s t [Reg.RST_MAP d] ∧
    (∀ i, i < 9 → t.bit (Reg.RST_MAP d) i = bad i ∧
      (t.bit (Reg.RST_MAP d) (17 + i) = true ↔ i ≠ sp ∧ (s.domState d = 4 ∨ bad i = true))) ∧
    ((∃ i, i < 9 ∧ bad i = true) → sp < 9 ∧ bad sp = true ∧ ∀ i, i < sp → bad i = false) ∧
    ((∀ i, i < 9 → bad i = false) → sp = if bitAt (s.recordedMap d) 31 then bits (s.recordedMap d) 16 13 else 8)

/-- R572, R575: the drained rows give the cores between the old and the new spare to the copy engine, nearest the old spare first; after the last
the map has the new spare and the hold ends. Closing wrappers completes. -/
def Sys2Proof.Claims.CoreSubstitution : Prop :=
  let moved : State → Nat → Nat → State → Prop := fun s d pos t =>
    t.rf (Reg.RST_MAP d) 16 13 = pos ∧ t.bit (Reg.RST_MAP d) (17 + pos) = false ∧ t.rf (Reg.RST_MAP d) 8 0 = s.rf (Reg.RST_MAP d) 8 0 ∧
      t.rst = { s.rst with swap := none, hold := [], copies := [] } ∧ OnlyRegs { s with rst := t.rst, mem := t.mem } t [Reg.RST_MAP d] ∧
      ∀ a, a < 0x300220000 ∨ 0x300260000 ≤ a → t.byte a = s.byte a
  (∀ (s : State) (d pos : Nat), d < 128 → pos < 9 → s.rst.swap = some (d, pos) → s.rst.hold ≠ [] → s.rst.copies = [] → s.bandEmpty = true →
    (s.sparePos d < pos + 2 ∧ pos < s.sparePos d + 2 → Yields .bandRowDrained s (moved s d pos)) ∧
    (s.sparePos d + 2 ≤ pos → exec .bandRowDrained s = .next { s with rst := { s.rst with
      copies := (List.range (pos - s.sparePos d - 1)).map (fun i => s.coreAt d (s.sparePos d + 1 + i)) } }) ∧
    (pos + 2 ≤ s.sparePos d → exec .bandRowDrained s = .next { s with rst := { s.rst with
      copies := (List.range (s.sparePos d - pos - 1)).map (fun i => s.coreAt d (s.sparePos d - 1 - i)) } })) ∧
  (∀ (s : State) (d pos c : Nat) (rest : List Nat), d < 128 → pos < 9 → s.rst.swap = some (d, pos) → s.rst.copies = c :: rest →
    (rest = [] → Yields .coreCopyDone s (moved s d pos)) ∧
    (rest ≠ [] → exec .coreCopyDone s = .next { s with rst := { s.rst with copies := rest } })) ∧
  (∀ (s : State) (p : Nat), p < 16 → s.bit Reg.RST_ISO (16 + p) = true → s.bit Reg.SMC_RECSTAT (16 + p) = true →
    Yields (.isolationComplete p) s (fun t => t.bit Reg.RST_ISO p = true ∧ OnlyRegs s t [Reg.RST_ISO]))

/-- R570 to R575: band-row maps and a substitution. -/
def Obligations.CoreMaps : Prop := BandRowMaps ∧ CoreSubstitution

/-- R31, R581, R585, R586: the firmware commands of an installer session, their refusals, and the router diagnosis. -/
def Obligations.FirmwareCommands : Prop :=
  (∀ (s : State) (k : Nat), k < 2 → s.accKind .pcie true Reg.RST_FWCMD = none → s.rf Reg.SEC_STAT 31 30 = 1 →
    let h := (s.rd (Reg.RST_FWHADDR 0)).toNat + 2 ^ 32 * (s.rd (Reg.RST_FWHADDR 1)).toNat
    let len := 256 + leNat (s.hostBytes (h + 8) 4)
    let free := ¬ (s.rst.fwRuns = true ∧ s.rf Reg.RST_FWSTAT 30 30 = k)
    let result : Nat → State → Prop := fun r t => t.rf Reg.RST_FWSTAT 23 16 = r
    let emptied : State → Prop := fun t => t.rf (Reg.RST_FWSLOT k) 31 29 = 0 ∧ t.rf (Reg.RST_FWSLOT k) 28 27 = 0 ∧ t.rd (Reg.RST_FWVER k) = 0
    (¬ free → Yields (.fwInstall .pcie k) s (fun t => result 0x12 t ∧ t.rd (Reg.RST_FWSLOT k) = s.rd (Reg.RST_FWSLOT k) ∧ SameBytesOutside s t 0x300C00000 0x40000)) ∧
    (free → s.bit Reg.HIF_LINK 31 = false ∨ s.hostGone = true ∨ h % 16 ≠ 0 →
      Yields (.fwInstall .pcie k) s (fun t => result 0x0E t ∧ emptied t ∧ SameBytesOutside s t 0x300C00000 0x40000)) ∧
    (free → s.bit Reg.HIF_LINK 31 = true → s.hostGone = false → h % 16 = 0 →
      ((s.rd Reg.RST_FWHLEN).toNat < len → Yields (.fwInstall .pcie k) s (fun t => result 3 t ∧ emptied t)) ∧
      (len ≤ (s.rd Reg.RST_FWHLEN).toNat → 0x100000 < len → Yields (.fwInstall .pcie k) s (fun t => result 0x10 t ∧ emptied t)) ∧
      (len ≤ (s.rd Reg.RST_FWHLEN).toNat → len ≤ 0x100000 → s.domState 175 ≠ 4 →
        let x := s.store (fwBase k) (s.hostBytes h len)
        (x.pkgCheck (fwBase k) = 0 → s.bit Reg.RST_FWSTAT 29 = false →
          Yields (.fwInstall .pcie k) s (fun t => result 0 t ∧ t.rf (Reg.RST_FWSLOT k) 31 29 = 2 ∧ t.rf (Reg.RST_FWSLOT k) 28 27 = 0 ∧
            t.rd (Reg.RST_FWVER k) = BitVec.ofNat 32 (leNat (s.hostBytes (h + 4) 4)) ∧ (∀ i, i < len → t.byte (fwBase k + i) = mapGet 0 s.host (h + i)) ∧
            ∀ a, (a < fwBase k ∨ fwBase k + len ≤ a) → (a < 0x300C00000 ∨ 0x300C40000 ≤ a) → t.byte a = s.byte a)) ∧
        (x.pkgCheck (fwBase k) ≠ 0 → Yields (.fwInstall .pcie k) s (fun t => result (x.pkgCheck (fwBase k)) t ∧ emptied t)))) ∧
    Yields (.fwActivate .pcie k) s (fun t => result 0 t ∧ t.bit (Reg.RST_FWSLOT k) 26 = true ∧ t.bit (Reg.RST_FWSLOT (1 - k)) 26 = false ∧
      t.rf (Reg.RST_FWSLOT k) 31 27 = s.rf (Reg.RST_FWSLOT k) 31 27 ∧ SameBytesOutside s t 0x300C00000 0x40000) ∧
    (s.rf (Reg.RST_FWSLOT k) 31 29 ≠ 0 → s.pkgHeader (fwBase k) = true → s.domState 175 ≠ 4 → s.bit Reg.RST_FWSTAT 29 = false →
      Yields (.fwSetreset .pcie k) s (fun t => result 0 t ∧ t.rf (Reg.RST_FWSLOT k) 31 29 = 2 ∧ t.num sysSettings 4 = s.num (fwBase k + 12) 4 ∧
        t.num (sysSettings + 4) 4 = 0)) ∧
    (s.rf (Reg.RST_FWSLOT k) 31 29 = 0 → Yields (.fwSetreset .pcie k) s (fun t => result 3 t ∧ t.rf (Reg.RST_FWSLOT k) 31 29 = 0))) ∧
  (∀ (s : State) (k : Nat), s.accKind .pcie true Reg.RST_FWCMD = none → s.rf Reg.SEC_STAT 31 30 = 0 →
    ∀ i ∈ [Instr.fwInstall .pcie k, .fwActivate .pcie k, .fwSetreset .pcie k], Yields i s (fun t => t.rf Reg.RST_FWSTAT 23 16 = 2 ∧
      (∀ j, j < 2 → t.rd (Reg.RST_FWSLOT j) = s.rd (Reg.RST_FWSLOT j)) ∧ SameBytesOutside s t 0x300C00000 0x40000)) ∧
  (∀ (s : State) (src : Src), s.accKind src false Reg.RST_DIAGDATA = none →
    (1151 < s.rf Reg.RST_DIAGSEL 31 21 → exec (.diagDataRead src) s = .next (s.answer (zeros 4))) ∧
    (s.rf Reg.RST_DIAGSEL 31 21 ≤ 1151 →
      let n := s.nodeAt (s.rf Reg.RST_DIAGSEL 31 21 / 36) (s.rf Reg.RST_DIAGSEL 31 21 % 36)
      let a := rtrWin n + 4 * s.rf Reg.RST_DIAGSEL 11 2
      n < 1024 → s.domOn (128 + partOf n) = true → s.accKind src false a = none →
      exec (.diagDataRead src) s = exec (.rcRegisterRead src a 4) s))

/-- R359, R587, R599 to R602, R606, R656: a report opens a case, joins the case that absorbs it, waits, or is dropped; a case is routed by its kind and its
suspect's class, and a hang check tells a slow unit, a chained wait and a hang apart. -/
def Obligations.FaultCases : Prop :=
  (∀ (s : State) (p : Packet), s.smcHalted = false → s.bit Reg.PWR_DEVSTAT 29 = false → s.inboxHead 1060 0 = some p →
    (p.cls = 3 ∨ p.cls = 7) → bits p.key 31 28 = 4 → p.key < 2 ^ 32 →
    p.good = true →
    let q := s.suspectPart p.key
    let kind := bits p.key 27 24
    let cl := suspectClass p.key
    (∀ k, k < 16 → s.absorber p.key = some k → Yields .faultReportIntake s (fun t =>
      t.rd Reg.SMC_DUPCNT = BitVec.ofNat 32 (min ((s.rd Reg.SMC_DUPCNT).toNat + 1) 0xFFFFFFFF) ∧ t.bit (Reg.SMC_CASE k 2) (16 + kind) = true ∧
      t.rf (Reg.SMC_CASE k 2) 15 0 = min (s.rf (Reg.SMC_CASE k 2) 15 0 + bits p.payload 15 0) 0xFFFF ∧ t.rd (Reg.SMC_CASE k 0) = s.rd (Reg.SMC_CASE k 0) ∧
      t.recv = s.recv)) ∧
    (s.absorber p.key = none → q < 16 → s.recovering q = false → s.heldPart q = false → kind = 1 → cl = 0 → s.rf (Reg.TMP_STAT q) 31 29 ≠ 0 →
      Yields .faultReportIntake s (fun t => t.recv = s.recv ∧
        t.rd (Reg.TMP_TOABSCNT q) = BitVec.ofNat 32 (min ((s.rd (Reg.TMP_TOABSCNT q)).toNat + 1) 0xFFFFFFFF))) ∧
    (s.absorber p.key = none → ¬ (q < 16 ∧ (s.recovering q = true ∨ s.heldPart q = true ∨ s.rf (Reg.TMP_STAT q) 31 29 ≠ 0)) →
      (∀ k, s.recv.fifo = [] → s.freeSlot = some k → (∀ i, i < 8 → s.rd (Reg.SMC_CASE k i) = 0) → (∀ j ∈ s.openCases, (s.case j).chain = none) →
        bits p.key 23 20 = s.dev →
        ((kind = 1 ∧ (cl = 0 ∨ cl = 1 ∨ cl = 4) ∨ (kind = 2 ∨ kind = 3) ∧ (cl = 0 ∨ cl = 2 ∨ cl = 3)) → Yields .faultReportIntake s (fun t =>
          t.rd (Reg.SMC_CASE k 0) = BitVec.ofNat 32 (2 ^ 31 + (if kind = 1 ∧ cl ≠ 1 then 2 ^ 28 else 0) + q * 2 ^ 16 + s.recv.next % 2 ^ 16) ∧
          t.rd (Reg.SMC_CASE k 1) = BitVec.ofNat 32 p.key ∧ t.rd (Reg.SMC_CASE k 2) = BitVec.ofNat 32 (2 ^ (16 + kind) + bits p.payload 15 0) ∧
          (t.case k).opened = s.time ∧ t.recv.next = s.recv.next % 2 ^ 16 + 1 ∧
          (kind = 1 → cl = 0 → (t.case k).sealed0 = (s.rd (Reg.NCR_SEALED (suspectUnit p.key))).toNat))) ∧
        (5 ≤ kind → s.bit Reg.SMC_RECCFG 31 = false → Yields .faultReportIntake s (fun t => (∀ i, i < 8 → t.rd (Reg.SMC_CASE k i) = 0) ∧
          t.recv.next = s.recv.next % 2 ^ 16 + 1 ∧ t.mem = s.mem))) ∧
      (s.recv.fifo ≠ [] ∨ s.freeSlot = none →
        (s.recv.fifo.length < 64 → Yields .faultReportIntake s (fun t => t.recv = { s.recv with fifo := s.recv.fifo ++ [p] } ∧
          t.rf Reg.SMC_CASESTAT 22 16 = s.recv.fifo.length + 1)) ∧
        (64 ≤ s.recv.fifo.length → Yields .faultReportIntake s (fun t => t.recv = s.recv ∧
          t.rd Reg.SMC_FIFODROP = BitVec.ofNat 32 (min ((s.rd Reg.SMC_FIFODROP).toNat + 1) 0xFFFFFFFF)))))) ∧
  (∀ (s : State) (p : Packet), s.smcHalted = false → s.bit Reg.PWR_DEVSTAT 29 = true → s.inboxHead 1060 0 = some p →
    (p.cls = 3 ∨ p.cls = 7) → bits p.key 31 28 = 4 → p.good = true →
    Yields .faultReportIntake s (fun t => t.recv = s.recv ∧ t.regs = s.regs ∧ mapGet [] (t.port 1060).inbox 0 = (mapGet [] (s.port 1060).inbox 0).tail)) ∧
  (∀ (s : State) (k : Nat), k < 16 → s.bit (Reg.SMC_CASE k 0) 31 = true → s.rf (Reg.SMC_CASE k 0) 30 28 = 1 → (s.case k).chain = none → s.smcHalted = false →
    s.bit Reg.SMC_RECCFG 31 = false → suspectClass (s.caseKey k) = 0 →
    let c := suspectUnit (s.caseKey k)
    s.rf (Reg.NCR_STAT c) 31 29 ≠ 4 →
    ((s.rd (Reg.NCR_SEALED c)).toNat ≠ (s.case k).sealed0 → Yields (.hangCheckExpiry k) s (fun t => t.bit (Reg.SMC_CASE k 0) 31 = false ∧
      t.rd Reg.SMC_SLOWCNT = BitVec.ofNat 32 (min ((s.rd Reg.SMC_SLOWCNT).toNat + 1) 0xFFFFFFFF) ∧ t.mem = s.mem)) ∧
    ((s.rd (Reg.NCR_SEALED c)).toNat = (s.case k).sealed0 →
      ((s.blockOf c).1 ∈ [1, 4, 5, 6] → Yields (.hangCheckExpiry k) s (fun t => t.bit (Reg.SMC_CASE k 0) 31 = false ∧ t.rd Reg.SMC_SLOWCNT = s.rd Reg.SMC_SLOWCNT)) ∧
      ((s.blockOf c).1 ∈ [2, 3] → (∀ j ∈ s.openCases, j = k ∨ suspectOf (s.caseKey j) ≠ s.holderOf c) →
        Yields (.hangCheckExpiry k) s (fun t => t = s.setCase k { s.case k with chain := some (s.holderOf c) })) ∧
      ((s.blockOf c).1 ∈ [0, 7] → Yields (.hangCheckExpiry k) s (fun t => t.rf (Reg.SMC_CASE k 0) 31 28 = 8 ∧ OnlyRegs s t [Reg.SMC_CASE k 0]))))

/-- R574, R590, R603 to R607, R610: a recovery begins where its checks pass, restores the contexts of step e, feeds the journal, and rejoins;
a partition whose checks fail is held. -/
def Sys2Proof.Claims.PartitionRecovery : Prop :=
  (∀ (s : State) (p k : Nat), p < 16 → k < 16 → s.smcHalted = false → s.recovering p = false → s.heldPart p = false → s.dueCase p = some k → s.pwr.pwrfail = false →
    (∀ c ∈ s.partCores p, s.rf (Reg.NCR_STAT c) 31 29 ≠ 4) → (s.case k).subst = false →
    (4 ≤ ((List.range 16).filter s.recovering).length → Yields (.recoveryBegin p) s (fun t => t.rf (Reg.SMC_CASE k 0) 31 28 = s.rf (Reg.SMC_CASE k 0) 31 31 * 8 + 4 ∧
      OnlyRegs s t [Reg.SMC_CASE k 0])) ∧
    (((List.range 16).filter s.recovering).length < 4 →
      (s.recoveryBarred k p = none → Yields (.recoveryBegin p) s (fun t => t.recovering p = true ∧ t.bit Reg.RST_ISO (16 + p) = true ∧ t.bit Reg.RST_ISO p = false ∧
        t.rf (Reg.SMC_CASE k 0) 30 28 = 2 ∧ (t.case k).e = (s.rd (Reg.VLT_CKSTEP p)).toNat ∧ (t.case k).f = s.faultStep k p ∧ (p, s.time) ∈ t.recv.begun ∧
        ∀ c ∈ s.partCores p, (t.core c).stopped = true)) ∧
      (s.bit (Reg.VLT_CKSTAT p) 29 = true → s.rf (Reg.TMP_STAT p) 31 29 = 0 → (s.temper p).ckBusy = false → s.bit Reg.SMC_RECCFG 31 = false → Yields (.recoveryBegin p) s (fun t => t.heldPart p = true ∧ t.recovering p = false ∧
        t.bit Reg.RST_ISO (16 + p) = true ∧ t.bit (Reg.SMC_CASE k 0) 31 = false ∧ t.rst.errN = true ∧
        t.rd Reg.SMC_NOTABSCNT = BitVec.ofNat 32 (min ((s.rd Reg.SMC_NOTABSCNT).toNat + 1) 0xFFFFFFFF))))) ∧
  (∀ (s : State) (p k : Nat) (x : CaseInt), p < 16 → k < 16 → s.recCase p = some k → s.case k = x → x.subst = false → x.again = none → x.guilty = none →
    s.recovering p = true → s.bit Reg.RST_ISO p = true → s.rf (Reg.TMP_STAT p) 31 29 = 0 → (s.temper p).ckBusy = false → mapGet 0 s.recv.replay p = 0 →
    s.bit (Reg.VLT_CKSTAT p) 29 = false → s.bit (Reg.VLT_CKSTAT p) 31 = true →
    (partDoms p).all s.domOn = true → s.smcHalted = false → s.upsets = [] → s.poison = [] → Memory.wf s.mem → s.rf (Reg.VLT_JUSED p) 20 0 = 0 → s.castOf 1 = none →
    Yields (.recoveryRestore p) s (fun t => mapGet 0 t.recv.replay p = x.f + 1 ∧ t.rf (Reg.SMC_CASE k 0) 30 28 = 2 ∧
      (∀ c, c < 1024 → c ∉ s.partCores p → t.core c = s.core c ∧ t.rd (Reg.NCR_STEP c) = s.rd (Reg.NCR_STEP c)) ∧
      ∀ c ∈ s.partCores p, (t.rd (Reg.NCR_STEP c)).toNat = ((s.rd (Reg.VLT_CKSTEP p)).toNat + 2 ^ 32 - 1) % 2 ^ 32 ∧
        t.rd (Reg.NCR_SEALED c) = t.rd (Reg.NCR_STEP c) ∧ t.rf (Reg.NCR_STAT c) 31 29 = 2 ∧ t.rf (Reg.NCR_EQSTAT c) 12 0 = 0 ∧
        (t.core c).stopped = false ∧ (t.core c).run = none ∧ (t.core c).poolHead = [] ∧
        ∀ o, o < 0x20000 → t.byte (0x100000000 + c * 0x400000 + o) = s.byte (ckAddr p (cipOf c) (o / 0x10000 * 0x10000) + o % 0x10000))) ∧
  (∀ (s : State) (p k c i : Nat), p < 16 → s.recCase p = some k → mapGet 0 s.recv.replay p ≠ 0 →
    (s.partCores p).filterMap (fun c => (s.feedable (s.case k).f c).map (fun i => (c, i))) = [(c, i)] →
    Yields (.replayArrivalFeed p) s (fun t => mapGet 0 t.recv.fed c = i + 1 ∧
      t.rf (Reg.NCR_EQSTAT c) 12 0 = s.rf (Reg.NCR_EQSTAT c) 12 0 + entryWords (bits (s.journalRec p i) 31 0) ∧
      t.num (0x100000000 + c * 0x400000 + 0x24000 + 4 * (((s.core c).eqHead + s.rf (Reg.NCR_EQSTAT c) 12 0) % 4096)) 4 = bits (s.journalRec p i) 31 0)) ∧
  (∀ (s : State) (p k : Nat), p < 16 → s.recCase p = some k → mapGet 0 s.recv.replay p ≠ 0 → s.smcHalted = false → s.bit Reg.SMC_RECCFG 31 = false →
    (s.partCores p).all (fun c => !(s.core c).stopped && s.waiting c && stepGe (s.rd (Reg.NCR_SEALED c)).toNat (s.case k).f && (s.feedNext c).isNone) = true →
    s.clampsOf p ≤ (s.case k).clamps → (s.case k).subst = false → s.castOf 1 = none → s.dueCase p = none → s.time < 4294967296000 →
    Yields (.recoveryRejoin p) s (fun t => t.recovering p = false ∧ t.bit Reg.RST_ISO (16 + p) = false ∧ t.bit Reg.RST_ISO p = false ∧
      mapGet 0 t.recv.replay p = 0 ∧ t.bit (Reg.SMC_CASE k 0) 31 = false ∧ t.mem = s.mem ∧
      t.rd Reg.SMC_RECCNT = BitVec.ofNat 32 (min ((s.rd Reg.SMC_RECCNT).toNat + 1) 0xFFFFFFFF) ∧
      (t.rd Reg.SMC_RECLAST).toNat = (s.time - (s.case k).opened) / 1000 ∧
      (t.rd Reg.SMC_RECMAX).toNat = max (s.rd Reg.SMC_RECMAX).toNat ((s.time - (s.case k).opened) / 1000)))

/-- R598, R600, R609, R610, R618, R324: the suspect search, the recovery copy, the save of the availability counters, and an unknown request to the SMC. -/
def Sys2Proof.Claims.SearchCopyAndSmc : Prop :=
  (∀ (s : State) (p k c ctx : Nat), p < 16 → k < 16 → s.recCase p = some k → s.recurring p = some c → s.smcHalted = false →
    Yields (.suspectSearch p ctx true) s (fun t => (t.case k).guilty = some (s.govern c (ctx % 8192)) ∧ (t.case k).again = some (s.rd (Reg.NCR_STEP c)).toNat ∧
      t.rf (Reg.SMC_CASE k 0) 30 28 = 3 ∧ mapGet 0 t.recv.replay p = 0 ∧ bitAt (t.case k).flags 1 = true ∧
      t.rd Reg.SMC_QUARCNT = BitVec.ofNat 32 (min ((s.rd Reg.SMC_QUARCNT).toNat + 1) 0xFFFFFFFF)) ∧
    (c < 1024 → s.sparePos (rowDom c) < 9 → s.spareFree (rowDom c) = true → s.coreCovered = true →
      Yields (.suspectSearch p ctx false) s (fun t => t.bit (Reg.RST_MAP (rowDom c)) (s.corePos c) = true ∧ t.bit (Reg.PWR_DSTAT (rowDom c)) (s.corePos c) = true ∧
        t.rst.swap = some (rowDom c, s.corePos c) ∧ (t.case k).subst = true ∧ (t.case k).core = c)) ∧
    (c < 1024 → s.spareFree (rowDom c) = false → s.bit Reg.SMC_RECCFG 31 = false →
      Yields (.suspectSearch p ctx false) s (fun t => t.heldPart p = true ∧ t.recovering p = false ∧ t.bit (Reg.SMC_CASE k 0) 31 = false))) ∧
  (∀ (s : State) (j : ImgJob), s.img.loaded = some j → s.rf Reg.SMC_IMGSTAT 31 29 = 3 → s.smcHalted = false → s.domState 175 ≠ 4 →
    let fit := copyFits 0x900000 s.img.kept
    (∀ (e : AlmEntry) (b : List Byte), fit[s.recv.copied]? = some (e, b) →
      Yields .recoveryCopyWrite s (fun t =>
        let off := 32 * fit.length + ((fit.take s.recv.copied).map (fun x => x.2.length)).sum
        t.recv = { s.recv with copied := s.recv.copied + 1 } ∧ (∀ i, i < b.length → t.byte (0x300300000 + off + i) = b.getD i 0) ∧
        t.num (0x300300000 + 32 * s.recv.copied + 16) 4 = off % 2 ^ 32 ∧ t.num (0x300300000 + 32 * s.recv.copied) 1 = e.type % 256 ∧
        (t.bit Reg.SMC_RECCOVER 31 = true ↔ s.recv.copied + 1 = fit.length) ∧ OnlyRegs { s with mem := t.mem, recv := t.recv } t [Reg.SMC_RECCOVER])) ∧
    (fit.length ≤ s.recv.copied → Yields .recoveryCopyWrite s (fun t => t.bit Reg.SMC_RECCOVER 31 = true ∧ OnlyRegs s t [Reg.SMC_RECCOVER] ∧
      (t.bit Reg.SMC_RECCOVER 30 = true ↔ fit.length < s.img.kept.length)))) ∧
  (∀ s : State, s.smcHalted = false → s.domState 175 ≠ 4 →
    exec .availabilitySave s = .next { s with recv := { s.recv with totals := [s.rd48 0x4060, s.rd48 0x4068, s.rd48 0x4070, s.rd48 0x4078] } }) ∧
  (∀ (s : State) (p : Packet), s.smcHead = some (p, []) → p.good = true → s.smcHalted = false →
    Yields .smcRequestReceive s (fun t => mapGet [] (t.port 1060).inbox 3 = (mapGet [] (s.port 1060).inbox 3).tail ∧ t.regs = s.regs ∧ t.mem = s.mem ∧
      ∃ r : Packet, mapGet [] t.wires (s.injWire 1060) = mapGet [] s.wires (s.injWire 1060) ++ [r] ∧ r.cls = 5 ∧ bits r.payload 18 15 = 1 ∧
        bits r.payload 31 24 = bits p.payload 31 24))

/-- R598 to R618: a recovery, the suspect search and the recovery copy. -/
def Obligations.RecoveryOfAPartition : Prop := PartitionRecovery ∧ SearchCopyAndSmc

/-- R626, R627: an armed channel fires where its compare is met by the half-range rule: a ONESHOT channel, or one with PERIOD 0, disarms; a PERIODIC
one stays armed, its compare moved on by the least number of periods that leaves it ahead, and counts the periods it skipped. (In DEEP a
firing may begin the warm start of R552, which resets the channels.) -/
def Obligations.TimerReload : Prop :=
  ∀ (s : State) (n : Nat), n < 16 → s.rf Reg.PWR_DEVSTAT 31 30 ≠ 2 →
    let cmp := (s.rd (Reg.TMR_CHCOMPARE n)).toNat
    let per := min (s.rd (Reg.TMR_CHPERIOD n)).toNat (2 ^ 31 - 1)
    let met : Nat → Prop := fun c => (s.time % 2 ^ 32 + 2 ^ 32 - c % 2 ^ 32) % 2 ^ 32 < 2 ^ 31
    (s.bit (Reg.TMR_CHSTAT n) 31 = true → s.timeHolds = false → met cmp →
      Yields (.timerFire n) s (fun t =>
        (s.bit (Reg.TMR_CHCTRL n) 30 = false ∨ per = 0 → t.bit (Reg.TMR_CHSTAT n) 31 = false ∧ t.rd (Reg.TMR_CHCOMPARE n) = s.rd (Reg.TMR_CHCOMPARE n) ∧
          t.rd (Reg.TMR_CHOVRCNT n) = s.rd (Reg.TMR_CHOVRCNT n)) ∧
        (s.bit (Reg.TMR_CHCTRL n) 30 = true → per ≠ 0 → t.bit (Reg.TMR_CHSTAT n) 31 = true ∧ ∃ m, 1 ≤ m ∧ t.rd (Reg.TMR_CHCOMPARE n) = BitVec.ofNat 32 (cmp + m * per) ∧
          ¬ met (cmp + m * per) ∧ (∀ j, 1 ≤ j → j < m → met (cmp + j * per)) ∧
          t.rd (Reg.TMR_CHOVRCNT n) = BitVec.ofNat 32 (min ((s.rd (Reg.TMR_CHOVRCNT n)).toNat + (m - 1)) 0xFFFFFFFF)) ∧
        t.bit Reg.TMR_FIRESTAT n = true ∧ t.rd (Reg.TMR_CHLAST n) = BitVec.ofNat 32 s.time ∧
        t.rd (Reg.TMR_CHFIRECNT n) = BitVec.ofNat 32 (min ((s.rd (Reg.TMR_CHFIRECNT n)).toNat + 1) 0xFFFFFFFF) ∧ t.mem = s.mem)) ∧
    (s.bit (Reg.TMR_CHSTAT n) 31 = false ∨ s.timeHolds = true ∨ ¬ met cmp → exec (.timerFire n) s = .next s)

/-- R625, R628 to R630, R641: writes arm and disarm a channel, a group start loads its enabled channels together, a firing drives its GP output and
gates the performance counters, and a pulse ends. -/
def Sys2Proof.Claims.TimerCommands : Prop :=
  (∀ (s : State) (n data : Nat), n < 16 → data < 2 ^ 32 → s.rf Reg.SEC_STAT 31 30 = 1 → s.timerDue n = false →
    (s.accKind .pcie true (Reg.TMR_CHCOMPARE n) = none → Yields (.timerCompareWrite .pcie n data) s (fun t => t.rd (Reg.TMR_CHCOMPARE n) = BitVec.ofNat 32 data ∧
      t.bit (Reg.TMR_CHSTAT n) 31 = (s.bit (Reg.TMR_CHCTRL n) 31 || s.bit (Reg.TMR_CHSTAT n) 31) ∧
      ∀ a, a ∉ Reg.TMR_CHCOMPARE n :: Reg.TMR_CHSTAT n :: logRegs → t.rd a = s.rd a)) ∧
    (s.accKind .pcie true (Reg.TMR_CHCTRL n) = none → Yields (.timerCtrlWrite .pcie n data) s (fun t => t.rf (Reg.TMR_CHCTRL n) 31 16 = bits data 31 16 ∧
      t.bit (Reg.TMR_CHSTAT n) 31 = (bitAt data 31 && (!s.bit (Reg.TMR_CHCTRL n) 31 || s.bit (Reg.TMR_CHSTAT n) 31)) ∧
      ∀ a, a ∉ Reg.TMR_CHCTRL n :: Reg.TMR_CHSTAT n :: logRegs → t.rd a = s.rd a))) ∧
  (∀ (s : State) (data : Nat), data < 2 ^ 32 → s.accKind .pcie true Reg.TMR_GROUP = none → s.rf Reg.SEC_STAT 31 30 = 1 → (∀ n, n < 16 → s.timerDue n = false) →
    let named := fun n => bitAt data n && s.bit (Reg.TMR_CHCTRL n) 31
    let k := ((List.range 16).filter named).length
    Yields (.timerGroupStart .pcie data) s (fun t => ∀ n, n < 16 →
      let phase := if bitAt data 31 then ((List.range n).filter named).length * ((s.rd (Reg.TMR_CHPERIOD n)).toNat / k) else (s.rd (Reg.TMR_CHPHASE n)).toNat
      (named n = true → t.bit (Reg.TMR_CHSTAT n) 31 = true ∧ t.rd (Reg.TMR_CHPHASE n) = BitVec.ofNat 32 phase ∧
        t.rd (Reg.TMR_CHCOMPARE n) = BitVec.ofNat 32 (s.time + 1000 * bits data 23 16 + phase)) ∧
      (named n = false → t.rd (Reg.TMR_CHCOMPARE n) = s.rd (Reg.TMR_CHCOMPARE n) ∧ t.rd (Reg.TMR_CHPHASE n) = s.rd (Reg.TMR_CHPHASE n) ∧
        t.rd (Reg.TMR_CHSTAT n) = s.rd (Reg.TMR_CHSTAT n)))) ∧
  (∀ (s : State) (n : Nat), n < 16 → s.timerDue n = true → s.rf Reg.PWR_DEVSTAT 31 30 = 0 →
    Yields (.timerFire n) s (fun t =>
      (s.rf (Reg.TMR_CHCTRL n) 29 28 = 1 → (n ∈ t.tmr.high ↔ n ∉ s.tmr.high)) ∧ (s.rf (Reg.TMR_CHCTRL n) 29 28 = 2 → n ∈ t.tmr.high) ∧
      (s.rf (Reg.TMR_CHCTRL n) 29 28 ≠ 1 → s.rf (Reg.TMR_CHCTRL n) 29 28 ≠ 2 → t.tmr = s.tmr) ∧
      (s.rf Reg.TMR_PCCTRL 31 30 = 3 → s.rf Reg.TMR_PCCTRL 29 26 = n → s.bit Reg.TMR_PCCTRL 1 = false →
        (s.bit Reg.TMR_PCCTRL 2 = false → t.rf Reg.TMR_PCCTRL 2 1 = 2 ∧ ∀ j, j < 8 → t.rd48 (Reg.TMR_PC j) = 0) ∧
        (s.bit Reg.TMR_PCCTRL 2 = true → t.rf Reg.TMR_PCCTRL 2 1 = 1 ∧ ∀ j, j < 8 → t.rd48 (Reg.TMR_PC j) = s.rd48 (Reg.TMR_PC j))))) ∧
  (∀ (s : State) (n : Nat), n < 16 → n ∈ s.tmr.high → s.rf (Reg.TMR_CHCTRL n) 29 28 ≠ 1 → s.rf Reg.PWR_DEVSTAT 31 30 = 0 →
    Yields (.pulseEnd n) s (fun t => t.tmr.high = s.tmr.high.filter (· != n) ∧ t.regs = s.regs ∧ t.mem = s.mem))

/-- R621 to R623, R640, R641, R644: LF mode begins and ends at an edge of LFCLK, the timebase holds without one, counts in between (one increment of
the timebase for a step without a command: assumption log 1), and the performance counters add what units report. -/
def Obligations.TimebaseAndCounters : Prop :=
  (∀ s : State, s.pending = [] → ∃ t, step s = .next t ∧ t.mem = s.mem ∧ t.pending = [] ∧
    (s.timeHolds = true ∨ s.rst.porst = true ∨ s.rst.aon = true → t.time = s.time % 2 ^ 64) ∧
    (s.timeHolds = false → s.rst.porst = false → s.rst.aon = false →
      (s.bit Reg.TMR_STAT 31 = true → s.bit Reg.CLK_REFSTAT 30 = true → t.time = (s.time + 30518) % 2 ^ 64) ∧
      (s.bit Reg.TMR_STAT 31 = false → (s.tmr.slew = 0 ∨ s.tmr.gap < 4999) → t.time = (s.time + 1) % 2 ^ 64))) ∧
  (∀ s : State, s.lfWanted = true → s.bit Reg.TMR_STAT 31 = false →
    Yields .lfModeEntry s (fun t => t.bit Reg.TMR_STAT 31 = true ∧ t.time = s.time ∧ OnlyRegs s t [Reg.TMR_STAT] ∧
      t.rf Reg.TMR_STAT 30 29 = (if s.rf Reg.PWR_DEVSTAT 31 30 = 0 then 3 else s.rf Reg.PWR_DEVSTAT 31 30) ∧
      (s.bit Reg.CLK_REFSTAT 30 = false → t.bit Reg.TMR_STAT 27 = true))) ∧
  (∀ s : State, s.lfWanted = false → s.bit Reg.TMR_STAT 31 = true →
    Yields .lfModeExit s (fun t => t.rf Reg.TMR_STAT 31 29 = 0 ∧ t.time = (if s.bit Reg.CLK_REFSTAT 30 then (s.time + 30518) % 2 ^ 64 else s.time) ∧
      OnlyRegs { s with time := t.time } t [Reg.TMR_STAT])) ∧
  (∀ s : State, Yields .lfclkLost s (fun t => t.bit Reg.CLK_REFSTAT 30 = false ∧ t.time = s.time ∧
    (s.lfWanted = true → t.bit Reg.TMR_STAT 27 = true ∧ t.timeHolds = true))) ∧
  (∀ s : State, s.bit Reg.CLK_REFSTAT 30 = false → Yields .lfclkReturn s (fun t => t.bit Reg.CLK_REFSTAT 30 = true ∧
    t.time = (if s.lfWanted then (s.time + 30518) % 2 ^ 64 else s.time) ∧ t.timeHolds = false)) ∧
  (∀ s : State, s.accKind .pcie true Reg.TMR_PCCTRL = none → s.rf Reg.SEC_STAT 31 30 = 1 →
    Yields (.perfCounterClear .pcie) s (fun t => t.bit Reg.TMR_PCCTRL 1 = false ∧ t.rf Reg.TMR_PCCTRL 31 26 = s.rf Reg.TMR_PCCTRL 31 26 ∧
      ∀ n, n < 8 → t.rd48 (Reg.TMR_PC n) = 0)) ∧
  (∀ (s : State) (events : List Nat), s.bit Reg.TMR_PCCTRL 31 = true → s.bit Reg.TMR_PCCTRL 2 = true →
    Yields (.perfCountReport events) s (fun t => t.mem = s.mem ∧ (∀ a, a < Reg.TMR_PC 0 ∨ Reg.TMR_PC 0 + 64 ≤ a → t.rd a = s.rd a) ∧
      ∀ n, n < 8 → let e := s.rf (Reg.TMR_PCSEL n) 31 24
        (e = 0 ∨ 12 < e → t.rd48 (Reg.TMR_PC n) = s.rd48 (Reg.TMR_PC n)) ∧
        (10 ≤ e → e ≤ 12 → t.rd48 (Reg.TMR_PC n) = (s.rd48 (Reg.TMR_PC n) + events.getD (16 * e) 0) % 2 ^ 48) ∧
        (1 ≤ e → e ≤ 9 → ∀ p, p < 16 → s.rf (Reg.TMR_PCSEL n) 15 0 = 2 ^ p →
          t.rd48 (Reg.TMR_PC n) = (s.rd48 (Reg.TMR_PC n) + events.getD (16 * e + p) 0) % 2 ^ 48)))

/-- R632, R633, R635: an alarm is armed by its words, and a firing alarm's message leaves the SMC's attachment in firing order. -/
def Sys2Proof.Claims.EphemerisAlarms : Prop :=
  (∀ (s : State) (j data : Nat), j < 64 → data < 2 ^ 32 → s.rf Reg.SEC_STAT 31 30 = 1 →
    (s.accKind .pcie true (Reg.SMC_EPHSTEP j) = none → Yields (.ephemerisArm .pcie j 0 data) s (fun t => t.rd (Reg.SMC_EPHSTEP j) = BitVec.ofNat 32 data ∧
      t.bit (Reg.SMC_EPHSTAT j) 31 = s.bit (Reg.SMC_EPHCTRL j) 31)) ∧
    (s.accKind .pcie true (Reg.SMC_EPHCTRL j) = none → Yields (.ephemerisArm .pcie j 1 data) s (fun t => t.rf (Reg.SMC_EPHCTRL j) 31 29 = bits data 31 29 ∧
      t.rd (Reg.SMC_EPHSTEP j) = s.rd (Reg.SMC_EPHSTEP j) ∧ t.bit (Reg.SMC_EPHSTAT j) 31 = bitAt data 31 ∧
      (bits data 31 29 = 7 → t.bit (Reg.SMC_EPHSTAT j) 30 = true)))) ∧
  (∀ (s : State) (j st : Nat) (rest : List (Nat × Nat)), s.smc.alarms = (j, st) :: rest → j < 64 → s.smcHalted = false → s.domOn 161 = true →
    (s.smc.flying.filter (fun (e : Nat × Nat) => e.2 < 64)).length < 16 →
    Yields .ephemerisMessageSend s (fun t => t.smc.alarms = rest ∧ t.smc.flying = s.smc.flying ++ [(s.smc.seq % 256, j)] ∧ t.regs = s.regs ∧ t.mem = s.mem ∧
      ∃ r : Packet, mapGet [] t.wires (s.injWire 1060) = mapGet [] s.wires (s.injWire 1060) ++ [r] ∧ r.cls = 4 ∧ r.step = 3 * 2 ^ 12 + 1 ∧ r.srcLcn = 1 ∧
        r.data = leBytes 4 st ++ [BitVec.ofNat 8 j, 0, 0, 0] ++ leBytes 8 s.time ∧
        (s.rf (Reg.SMC_EPHCTRL j) 30 29 = 0 → bits r.payload 14 0 = 0 ∧ bits r.key 16 5 = s.rf (Reg.SMC_EPHCTRL j) 11 0) ∧
        (s.rf (Reg.SMC_EPHCTRL j) 30 29 = 1 → r.key = (s.rd (Reg.SMC_EPHKEY j)).toNat ∧ bits r.payload 14 0 = 16 * s.rf (Reg.SMC_EPHLAND j) 14 4))) ∧
  (∀ (s : State) (h j : Nat), s.alarmsFrom h = [(stepSub (s.rd (Reg.SMC_EPHSTEP j)).toNat h, j)] → s.rf (Reg.SMC_EPHLAND j) 31 16 = 0 → s.rf (Reg.SMC_EPHCTRL j) 30 29 ≤ 1 →
    ∀ n k, let d := stepSub (s.rd (Reg.SMC_EPHSTEP j)).toNat h
      (1 ≤ d → d ≤ n → (s.alarmPass h n (k + 1)).smc = { s.smc with alarms := s.smc.alarms ++ [(j, (s.rd (Reg.SMC_EPHSTEP j)).toNat)] } ∧
        (s.alarmPass h n (k + 1)).bit (Reg.SMC_EPHSTAT j) 31 = false) ∧
      (d = 0 ∨ n < d → s.alarmPass h n (k + 1) = s))

/-- R625 to R641: timer commands and the Ephemeris. -/
def Obligations.TimersAndAlarms : Prop := TimerCommands ∧ EphemerisAlarms

/-- R653 to R657: halt bits come from JTAG alone; a waiting core halts, and a halted one whose bit is cleared waits for admission; the SMC halts and
resumes, and what waited in its log is written. -/
def Obligations.DebugHalt : Prop :=
  (∀ (s : State) (g data : Nat), g < 32 → data < 2 ^ 32 → s.accKind .jtag true (Reg.SMC_DBGHALT g) = none →
    Yields (.debugHaltWrite .jtag g data) s (fun t => t.rd (Reg.SMC_DBGHALT g) = BitVec.ofNat 32 data ∧ t.mem = s.mem ∧
      ∀ c, c < 1024 → c / 32 = g → s.recovering (partOf c) = false → s.inUse c = true →
        (bitAt data (c % 32) = true → s.waiting c = true → s.rf (Reg.NCR_STAT c) 31 29 = 2 → t.rf (Reg.NCR_STAT c) 31 29 = 4) ∧
        (bitAt data (c % 32) = true → s.rf (Reg.NCR_STAT c) 31 29 < 2 → t.rf (Reg.NCR_STAT c) 31 29 = s.rf (Reg.NCR_STAT c) 31 29) ∧
        (bitAt data (c % 32) = false → s.rf (Reg.NCR_STAT c) 31 29 = 4 → t.rf (Reg.NCR_STAT c) 31 29 = 2) ∧
        (bitAt data (c % 32) = true → t.bit Reg.SMC_RUNSTAT 25 = true))) ∧
  (∀ (s : State) (src : Src) (g data : Nat), g < 32 → src ≠ .jtag → Yields (.debugHaltWrite src g data) s (fun t => t.rd (Reg.SMC_DBGHALT g) = s.rd (Reg.SMC_DBGHALT g) ∧
    t.rd Reg.SYS_ACCERR_CNT = BitVec.ofNat 32 (min ((s.rd Reg.SYS_ACCERR_CNT).toNat + 1) 0xFFFFFFFF) ∧ t.core = s.core ∧ t.mem = s.mem)) ∧
  (∀ s : State, s.domOn 161 = true → s.smcHalted = false → Yields .smcDebugHalt s (fun t => t.bit Reg.SMC_DBGSTAT 30 = true ∧ t.bit Reg.SMC_DBGSTAT 31 = true ∧
    t.bit Reg.SMC_RUNSTAT 25 = true ∧ OnlyRegs s t [Reg.SMC_DBGSTAT, Reg.SMC_RUNSTAT])) ∧
  (∀ (s : State) (forced : Bool), s.smcHalted = true → (forced = true → s.pwr.pwrfail = true) → s.runc.change = none →
    Yields (.smcDebugResume forced) s (fun t => t.smcHalted = false ∧ t.sec.waits = [] ∧
      (t.bit Reg.SMC_RUNSTAT 25 = true ↔ ∃ c, c < 1024 ∧ s.inUse c = true ∧ (s.haltBit c = true ∨ s.rf (Reg.NCR_STAT c) 31 29 = 4)) ∧
      (∀ c, c < 1024 → s.rf (Reg.NCR_STAT c) 31 29 = 4 → t.rf (Reg.NCR_STAT c) 31 29 = 4)))

/-- R21, R214, R516, R521, R557, R561, R586, R621: what PORST_N leaves, in the values that the spec gives: no image, no run, no session, no
failed domain, the first stage of a cold start, the timebase at 0. Nothing is listed in memory, and no command waits. -/
def Obligations.ResetState : Prop :=
  let s := State.reset
  s.rd Reg.RST_CAUSE = 0x10000001 ∧ s.rd Reg.RST_STAT = 0x12000000 ∧ s.time = 0 ∧ s.rf Reg.SMC_IMGSTAT 31 27 = 0 ∧ s.rf Reg.SMC_RUNSTAT 31 29 = 0 ∧
    s.rf Reg.SEC_STAT 31 30 = 0 ∧ s.rf Reg.PWR_DEVSTAT 31 30 = 0 ∧ s.bit Reg.PWR_DEVSTAT 29 = false ∧ s.rd Reg.SYS_ACCERR_STAT = 0 ∧
    s.rd Reg.SMC_MODEGEN = 0 ∧ (∀ c, c < 1024 → s.rd (Reg.NCR_STEP c) = 0 ∧ s.rf (Reg.NCR_EQSTAT c) 12 0 = 0) ∧ (∀ j, j < 32 → s.rd (Reg.SMC_DBGHALT j) = 0) ∧
    s.rst.rel = 0 ∧ s.rst.rstout = true ∧ s.mem = [] ∧ s.pending = []

/-- The storage keeps its canonical form over every command and every tick: rising addresses, and no listed byte that reads as an unlisted one
would, so that equal contents are equal data. -/
def Obligations.StorageStaysCanonical : Prop :=
  ∀ s t : State, Memory.wf s.mem → step s = .next t → Memory.wf t.mem

/-- The storage is in its canonical form at reset, and what two canonical storages hold decides whether they are equal. -/
def Obligations.CanonicalStorageIsItsContents : Prop :=
  Memory.wf State.reset.mem ∧ ∀ s t : State, Memory.wf s.mem → Memory.wf t.mem → (∀ a, s.byte a = t.byte a) → s.mem = t.mem

/-- R77, R231, R469, R506, R521, R552, R586: the words of the command registers: a write of a row's word to its register is the row. -/
def Sys2Proof.Claims.CommandWords : Prop :=
  ∀ (s : State) (src : Src) (k role slot prof arg n : Nat), k < 2 → role < 4 → slot < 8 → prof < 4 → arg < 65536 → n < 256 →
    ∀ x ∈ ([(Reg.SMC_IMGCMD, 0x01000000 + k * 2 ^ 16, .loadSlot src k), (Reg.SMC_IMGCMD, 0x02000000, .loadHost src),
        (Reg.SMC_IMGCMD, 0x03000000 + k * 2 ^ 16, .install src k), (Reg.SMC_IMGCMD, 0x04000000 + arg, .activateDelta src arg),
        (Reg.SMC_IMGCMD, 0x05000000, .discardDelta src), (Reg.SMC_IMGCMD, 0x06000000 + k * 2 ^ 16, .settingsReset src k),
        (Reg.SMC_RUNCMD, 0x01000000, .startRun src), (Reg.SMC_RUNCMD, 0x02000000, .holdRun src), (Reg.SMC_RUNCMD, 0x03000000, .resumeRun src),
        (Reg.SMC_RUNCMD, 0x04000000 + arg, .stepRun src arg), (Reg.SMC_RUNCMD, 0x05000000, .stopRun src), (Reg.SMC_RUNCMD, 0x06000000, .learnOn src),
        (Reg.SMC_RUNCMD, 0x07000000, .learnOff src), (Reg.SMC_RUNCMD, 0x08000000, .lockstepMode src), (Reg.SMC_RUNCMD, 0x09000000, .horizonMode src),
        (Reg.SMC_RUNCMD, 0x0A000000 + arg, .steplen src arg),
        (Reg.SEC_CMD, 0x01000000 + role * 2 ^ 16 + slot, .challenge src role slot), (Reg.SEC_CMD, 0x02000000, .verifySession src),
        (Reg.SEC_CMD, 0x03000000, .closeSession src), (Reg.SEC_CMD, 0x04000000 + role * 2 ^ 16 + slot, .progKey src role slot),
        (Reg.SEC_CMD, 0x05000000 + role * 2 ^ 16 + slot, .revokeKey src role slot), (Reg.SEC_CMD, 0x06000000, .provMaker src),
        (Reg.PWR_DEVCMD, 0x01000000, .sleep src), (Reg.PWR_DEVCMD, 0x02000000, .deepState src), (Reg.PWR_DEVCMD, 0x03000000, .wake src),
        (Reg.PWR_DEVCMD, 0x04000000 + prof * 2 ^ 16 + arg, .profile src prof arg),
        (Reg.RST_CMD, 0x01000000, .warmReset src), (Reg.RST_CMD, 0x02000000, .warmFull src),
        (Reg.RST_FWCMD, 0x01000000 + k * 2 ^ 16, .fwInstall src k), (Reg.RST_FWCMD, 0x02000000 + k * 2 ^ 16, .fwActivate src k),
        (Reg.RST_FWCMD, 0x03000000 + k * 2 ^ 16, .fwSetreset src k),
        (Reg.VRN_UPDCMD, 0x01000000 + n, .fwChunk src n), (Reg.VRN_UPDCMD, 0x02000000, .vrnFwActivate src), (Reg.VRN_UPDCMD, 0x03000000 + n, .parChunk src n),
        (Reg.VRN_UPDCMD, 0x04000000, .parCommit src), (Reg.VRN_UPDCMD, 0x05000000, .archive src), (Reg.VRN_UPDCMD, 0x06000000, .abortStaged src),
        (Reg.SPL_LRNCLR, 0x80000000, .learningClearAll src), (Reg.SPL_LRNCLR, 0x100 + n, .learningClearOne src n)] : List (Nat × Nat × Instr)),
      exec (.registerWrite src x.1 4 x.2.1) s = exec x.2.2 s

/-- R94, R331, R332, R425, R444, R538, R625, R629, R635, R653: registers whose writes are rows of their own: the register write is the row. -/
def Sys2Proof.Claims.RegistersWithRows : Prop :=
  ∀ (s : State) (src : Src) (c q n j g w m h v : Nat), c < 1024 → q < 128 → n < 16 → j < 64 → w < 4 → g < 32 → m < 32 → h < 4096 → v < 2 ^ 32 →
    ∀ x ∈ ([(Reg.NCR_DPOOL c, v, .ncrDpoolWrite src c v), (Reg.MSG_RELEASE c, q, .msgRelease src c q),
        (Reg.MSG_QRING c q, v, .msgQueueConfigWrite src c q true v), (Reg.MSG_QLAND c q, v, .msgQueueConfigWrite src c q false v),
        (Reg.LDL_CHTAIL m, v, .ladleDoorbell src m v), (Reg.LDL_HQLOCAL h, v, .hostQueueLocalWrite src h v), (Reg.PWR_CEIL, v, .pwrCeilWrite src v),
        (Reg.TMR_CHCTRL n, v, .timerCtrlWrite src n v), (Reg.TMR_CHCOMPARE n, v, .timerCompareWrite src n v), (Reg.TMR_GROUP, v, .timerGroupStart src v),
        (Reg.SMC_EPHSTEP j + 4 * w, v, .ephemerisArm src j w v), (Reg.SMC_DBGHALT g, v, .debugHaltWrite src g v)] : List (Nat × Nat × Instr)),
      exec (.registerWrite src x.1 4 x.2.1) s = exec x.2.2 s

/-- R77, R231, R469, R506, R521, R552, R586: a write of a row's word to its register is the row: no bit of a command word is lost. -/
def Obligations.CommandRegisters : Prop := CommandWords ∧ RegistersWithRows
end

