-- ==== Sys2Proof/Laws/Bits.lean ====
section
/-! SUPPORT. Laws of bit fields and byte order. -/

namespace Sys2Proof.Machine

theorem bits_lt (x hi lo : Nat) : bits x hi lo < 2 ^ (hi + 1 - lo) := Nat.mod_lt _ (Nat.two_pow_pos _)

/-- A number below 2^32 with a field replaced stays below 2^32. -/
theorem putBits_lt (n x hi lo v : Nat) (hx : x < 2 ^ n) (hn : hi < n) (hl : lo ≤ hi) : putBits x hi lo v < 2 ^ n := by
  unfold putBits
  have h1 : x / 2 ^ (hi + 1) ≤ 2 ^ (n - (hi + 1)) - 1 := by
    have : x / 2 ^ (hi + 1) < 2 ^ (n - (hi + 1)) := by
      rw [Nat.div_lt_iff_lt_mul (Nat.two_pow_pos _), ← pow_add, Nat.sub_add_cancel (by omega)]
      exact hx
    omega
  have h2 : v % 2 ^ (hi + 1 - lo) ≤ 2 ^ (hi + 1 - lo) - 1 := by
    have := Nat.mod_lt v (Nat.two_pow_pos (hi + 1 - lo)); omega
  have h3 : x % 2 ^ lo < 2 ^ lo := Nat.mod_lt _ (Nat.two_pow_pos _)
  have e1 : 2 ^ (n - (hi + 1)) * 2 ^ (hi + 1) = 2 ^ n := by rw [← pow_add, Nat.sub_add_cancel (by omega)]
  have e2 : 2 ^ (hi + 1 - lo) * 2 ^ lo = 2 ^ (hi + 1) := by rw [← pow_add, Nat.sub_add_cancel (by omega)]
  have m1 := Nat.mul_le_mul_right (2 ^ (hi + 1)) h1
  have m2 := Nat.mul_le_mul_right (2 ^ lo) h2
  rw [Nat.sub_mul, e1, one_mul] at m1
  rw [Nat.sub_mul, e2, one_mul] at m2
  have p1 : 2 ^ (hi + 1) ≤ 2 ^ n := Nat.pow_le_pow_right (by norm_num) (by omega)
  have p2 : 2 ^ lo ≤ 2 ^ (hi + 1) := Nat.pow_le_pow_right (by norm_num) (by omega)
  omega

/-- A field reads back what was put into it. -/
theorem bits_putBits_same (x hi lo v : Nat) (hl : lo ≤ hi) : bits (putBits x hi lo v) hi lo = v % 2 ^ (hi + 1 - lo) := by
  unfold bits putBits
  have e2 : 2 ^ (hi + 1) = 2 ^ (hi + 1 - lo) * 2 ^ lo := by rw [← pow_add, Nat.sub_add_cancel (by omega)]
  have h3 : x % 2 ^ lo < 2 ^ lo := Nat.mod_lt _ (Nat.two_pow_pos _)
  have : x / 2 ^ (hi + 1) * 2 ^ (hi + 1) + v % 2 ^ (hi + 1 - lo) * 2 ^ lo + x % 2 ^ lo =
      x % 2 ^ lo + (x / 2 ^ (hi + 1) * 2 ^ (hi + 1 - lo) + v % 2 ^ (hi + 1 - lo)) * 2 ^ lo := by
    rw [add_mul, mul_assoc, ← e2]; ring
  rw [this, Nat.add_mul_div_right _ _ (Nat.two_pow_pos _), Nat.div_eq_of_lt h3, zero_add,
    Nat.add_comm, Nat.add_mul_mod_self_right, Nat.mod_mod]

/-- A field below the one written keeps its value. -/
theorem bits_putBits_below (x hi lo v h l : Nat) (hl : lo ≤ hi) (hh : h < lo) : bits (putBits x hi lo v) h l = bits x h l := by
  by_cases hle : l ≤ h
  · unfold bits putBits
    have e1 : 2 ^ (hi + 1) = 2 ^ (hi + 1 - lo) * 2 ^ lo := by rw [← pow_add, Nat.sub_add_cancel (by omega)]
    have : x / 2 ^ (hi + 1) * 2 ^ (hi + 1) + v % 2 ^ (hi + 1 - lo) * 2 ^ lo + x % 2 ^ lo =
        x % 2 ^ lo + (x / 2 ^ (hi + 1) * 2 ^ (hi + 1 - lo) + v % 2 ^ (hi + 1 - lo)) * 2 ^ lo := by
      rw [add_mul, mul_assoc, ← e1]; ring
    rw [this]
    have hmod : ∀ y, y / 2 ^ l % 2 ^ (h + 1 - l) = y % 2 ^ (h + 1) / 2 ^ l := by
      intro y
      have := Nat.mod_mul_right_div_self y (2 ^ l) (2 ^ (h + 1 - l))
      rw [← pow_add, show l + (h + 1 - l) = h + 1 by omega] at this
      exact this.symm
    rw [hmod, hmod]
    congr 1
    have e3 : 2 ^ lo = 2 ^ (lo - (h + 1)) * 2 ^ (h + 1) := by rw [← pow_add, Nat.sub_add_cancel (by omega)]
    rw [e3, ← mul_assoc, Nat.add_mul_mod_self_right, ← e3, Nat.mod_mod_of_dvd]
    exact ⟨2 ^ (lo - (h + 1)), by rw [e3, mul_comm]⟩
  · unfold bits
    rw [show h + 1 - l = 0 by omega]
    simp [Nat.mod_one]

/-- A field above the one written keeps its value. -/
theorem bits_putBits_above (x hi lo v h l : Nat) (hl : lo ≤ hi) (hh : hi < l) : bits (putBits x hi lo v) h l = bits x h l := by
  unfold bits putBits
  congr 1
  have h3 : x % 2 ^ lo < 2 ^ lo := Nat.mod_lt _ (Nat.two_pow_pos _)
  have h2 : v % 2 ^ (hi + 1 - lo) ≤ 2 ^ (hi + 1 - lo) - 1 := by
    have := Nat.mod_lt v (Nat.two_pow_pos (hi + 1 - lo)); omega
  have e2 : 2 ^ (hi + 1 - lo) * 2 ^ lo = 2 ^ (hi + 1) := by rw [← pow_add, Nat.sub_add_cancel (by omega)]
  have m2 := Nat.mul_le_mul_right (2 ^ lo) h2
  rw [Nat.sub_mul, e2, one_mul] at m2
  have p2 : 2 ^ lo ≤ 2 ^ (hi + 1) := Nat.pow_le_pow_right (by norm_num) (by omega)
  have e : 2 ^ l = 2 ^ (hi + 1) * 2 ^ (l - (hi + 1)) := by rw [← pow_add]; congr 1; omega
  have hs : v % 2 ^ (hi + 1 - lo) * 2 ^ lo + x % 2 ^ lo < 2 ^ (hi + 1) :=
    calc _ < (2 ^ (hi + 1) - 2 ^ lo) + 2 ^ lo := Nat.add_lt_add_of_le_of_lt m2 h3
      _ = _ := Nat.sub_add_cancel p2
  rw [e, ← Nat.div_div_eq_div_mul, ← Nat.div_div_eq_div_mul, add_assoc, Nat.add_comm (x / 2 ^ (hi + 1) * 2 ^ (hi + 1)),
    Nat.add_mul_div_right _ _ (Nat.two_pow_pos _), Nat.div_eq_of_lt hs, Nat.zero_add]

/-- The field of a register word that was written. -/
theorem getF_setF_same (w : BitVec 32) (hi lo v : Nat) (hl : lo ≤ hi) (hh : hi < 32) :
    getF (setF w hi lo v) hi lo = v % 2 ^ (hi + 1 - lo) := by
  unfold getF setF
  rw [BitVec.toNat_ofNat, Nat.mod_eq_of_lt (putBits_lt 32 _ _ _ _ w.isLt hh hl), bits_putBits_same _ _ _ _ hl]

/-- Another field of a register word. -/
theorem getF_setF_other (w : BitVec 32) (hi lo v h l : Nat) (hl : lo ≤ hi) (hh : hi < 32) (hd : h < lo ∨ hi < l) :
    getF (setF w hi lo v) h l = getF w h l := by
  unfold getF setF
  rw [BitVec.toNat_ofNat, Nat.mod_eq_of_lt (putBits_lt 32 _ _ _ _ w.isLt hh hl)]
  rcases hd with hd | hd
  · exact bits_putBits_below _ _ _ _ _ _ hl hd
  · exact bits_putBits_above _ _ _ _ _ _ hl hd

/-- A number below 2^(8n) is read back from its `n` little-endian bytes. -/
theorem leNat_leBytes (n x : Nat) (h : x < 256 ^ n) : leNat (leBytes n x) = x := by
  induction n generalizing x with
  | zero => simp at h; simp [leNat, leBytes, h]
  | succ n ih =>
    rw [pow_succ] at h
    simp only [leBytes, leNat, BitVec.toNat_ofNat]
    rw [ih (x / 256) (by rw [Nat.div_lt_iff_lt_mul (by norm_num)]; exact h)]
    omega

theorem leBytes_length (n x : Nat) : (leBytes n x).length = n := by
  induction n generalizing x with
  | zero => rfl
  | succ n ih => simp [leBytes, ih]

end Sys2Proof.Machine
end

