-- ==== Sys2Proof/Laws/Map.lean ====
section
/-! SUPPORT. Laws of sparse storage: reading after writing, and the canonical form. -/

namespace Sys2Proof.Machine

variable {α : Type}

theorem mapGet_nil (d : α) (k : Nat) : mapGet d [] k = d := rfl

theorem mapGet_cons (d : α) (e : Nat × α) (t : List (Nat × α)) (k : Nat) :
    mapGet d (e :: t) k = if k = e.1 then e.2 else mapGet d t k := rfl

/-- A key that is not listed reads as the default. -/
theorem mapGet_absent (d : α) (m : List (Nat × α)) (k : Nat) (h : ∀ e ∈ m, e.1 ≠ k) : mapGet d m k = d := by
  induction m with
  | nil => rfl
  | cons e t ih =>
    rw [mapGet_cons, if_neg (fun hk => h e (by simp) hk.symm), ih (fun x hx => h x (by simp [hx]))]

theorem mapGet_mapDel_same (d : α) (m : List (Nat × α)) (k : Nat) : mapGet d (mapDel m k) k = d :=
  mapGet_absent d _ k (by intro e he; simp [mapDel] at he; exact he.2)

/-- Filtering by key leaves the value of every key that stays. -/
theorem mapGet_filter (d : α) (p : Nat → Bool) (m : List (Nat × α)) (k : Nat) (hp : p k = true) :
    mapGet d (m.filter (fun e => p e.1)) k = mapGet d m k := by
  induction m with
  | nil => rfl
  | cons e t ih =>
    by_cases he : p e.1 = true
    · rw [List.filter_cons_of_pos (by simpa using he), mapGet_cons, mapGet_cons, ih]
    · rw [List.filter_cons_of_neg (by simpa using he), ih, mapGet_cons, if_neg]
      rintro rfl
      exact he hp

theorem mapGet_mapDel_other (d : α) (m : List (Nat × α)) (k j : Nat) (h : j ≠ k) :
    mapGet d (mapDel m k) j = mapGet d m j :=
  mapGet_filter d (fun x => x != k) m j (by simpa using h)

theorem mapGet_mapIns_same (d : α) (m : List (Nat × α)) (k : Nat) (v : α) : mapGet d (mapIns m k v) k = v := by
  induction m with
  | nil => simp [mapIns, mapGet]
  | cons e t ih =>
    obtain ⟨j, w⟩ := e
    simp only [mapIns]
    split
    · simp [mapGet]
    · split
      · simp [mapGet]
      · rename_i h1 h2
        simp [mapGet, h2, ih]

theorem mapGet_mapIns_other (d : α) (m : List (Nat × α)) (k j : Nat) (v : α) (h : j ≠ k) :
    mapGet d (mapIns m k v) j = mapGet d m j := by
  induction m with
  | nil => simp [mapIns, mapGet, h]
  | cons e t ih =>
    obtain ⟨i, w⟩ := e
    simp only [mapIns]
    split
    · simp [mapGet, h]
    · split
      · rename_i h1 h2
        subst h2
        simp [mapGet, h]
      · simp [mapGet, ih]

/-- Read after write, the same key. -/
@[simp] theorem mapGet_mapSet_same [DecidableEq α] (d : α) (m : List (Nat × α)) (k : Nat) (v : α) :
    mapGet d (mapSet d m k v) k = v := by
  unfold mapSet
  split
  · rename_i h; rw [h, mapGet_mapDel_same]
  · exact mapGet_mapIns_same d m k v

/-- Read after write, another key. -/
theorem mapGet_mapSet_other [DecidableEq α] (d e : α) (m : List (Nat × α)) (k j : Nat) (v : α) (h : j ≠ k) :
    mapGet e (mapSet d m k v) j = mapGet e m j := by
  unfold mapSet
  split
  · exact mapGet_mapDel_other e m k j h
  · exact mapGet_mapIns_other e m k j v h

/-- Every entry of a map with a key inserted is the new one or an old one. -/
theorem mem_mapIns (m : List (Nat × α)) (k : Nat) (v : α) (e : Nat × α) (h : e ∈ mapIns m k v) : e = (k, v) ∨ e ∈ m := by
  induction m with
  | nil => simpa [mapIns] using h
  | cons a t ih =>
    obtain ⟨j, w⟩ := a
    simp only [mapIns] at h
    split at h
    · simpa using h
    · split at h
      · simp at h ⊢; rcases h with h | h <;> simp [h]
      · simp at h ⊢
        rcases h with h | h
        · simp [h]
        · rcases ih h with h | h <;> simp [h]

theorem mapIns_sorted (m : List (Nat × α)) (k : Nat) (v : α) (h : (m.map Prod.fst).Pairwise (· < ·)) :
    ((mapIns m k v).map Prod.fst).Pairwise (· < ·) := by
  induction m with
  | nil => simp [mapIns]
  | cons a t ih =>
    obtain ⟨j, w⟩ := a
    simp only [List.map_cons, List.pairwise_cons] at h
    simp only [mapIns]
    split
    · rename_i hk
      simp only [List.map_cons, List.pairwise_cons]
      refine ⟨?_, h.1, h.2⟩
      intro x hx
      simp only [List.mem_cons] at hx
      rcases hx with rfl | hx
      · exact hk
      · exact lt_trans hk (h.1 x hx)
    · split
      · rename_i h1 h2
        subst h2
        simpa using h
      · rename_i h1 h2
        simp only [List.map_cons, List.pairwise_cons]
        refine ⟨?_, ih h.2⟩
        intro x hx
        obtain ⟨e, he, rfl⟩ := List.mem_map.1 hx
        rcases mem_mapIns t k v e he with rfl | he
        · simp only; omega
        · exact h.1 _ (List.mem_map.2 ⟨e, he, rfl⟩)

/-- Filtering keeps the canonical form. -/
theorem mapWf_filter [DecidableEq α] (d : α) (m : List (Nat × α)) (p : Nat × α → Bool) (h : mapWf d m) :
    mapWf d (m.filter p) :=
  ⟨h.1.sublist (List.Sublist.map _ List.filter_sublist), fun e he => h.2 e (List.mem_filter.1 he).1⟩

/-- Writing a key keeps the canonical form. -/
theorem mapWf_mapSet [DecidableEq α] (d : α) (m : List (Nat × α)) (k : Nat) (v : α) (h : mapWf d m) :
    mapWf d (mapSet d m k v) := by
  unfold mapSet
  split
  · exact mapWf_filter d m _ h
  · rename_i hv
    refine ⟨mapIns_sorted m k v h.1, fun e he => ?_⟩
    rcases mem_mapIns m k v e he with rfl | he
    · exact hv
    · exact h.2 e he

theorem mapWf_mapClear [DecidableEq α] (d : α) (m : List (Nat × α)) (lo hi : Nat) (h : mapWf d m) :
    mapWf d (mapClear m lo hi) := mapWf_filter d m _ h

theorem mapWf_nil [DecidableEq α] (d : α) : mapWf d ([] : List (Nat × α)) := ⟨List.Pairwise.nil, by simp⟩

/-- A cleared key reads as the default. -/
theorem mapGet_mapClear_in (d : α) (m : List (Nat × α)) (lo hi k : Nat) (h : lo ≤ k) (h' : k < hi) :
    mapGet d (mapClear m lo hi) k = d :=
  mapGet_absent d _ k (by
    intro e he
    simp only [mapClear, List.mem_filter, Bool.or_eq_true, decide_eq_true_eq] at he
    omega)

/-- A key outside the cleared range keeps its value. -/
theorem mapGet_mapClear_out (d : α) (m : List (Nat × α)) (lo hi k : Nat) (h : k < lo ∨ hi ≤ k) :
    mapGet d (mapClear m lo hi) k = mapGet d m k :=
  mapGet_filter d (fun x => decide (x < lo) || decide (hi ≤ x)) m k (by simpa using h)

end Sys2Proof.Machine
end

