-- ==== Sys2Proof/Laws/State.lean ====
section
/-! SUPPORT. One lemma per field per named update of the state: each update leaves every other field as it was. -/

namespace Sys2Proof.Machine.State

variable (s : State)

@[simp] theorem wr_pending (a : Nat) (v : Word) : (s.wr a v).pending = s.pending := rfl
@[simp] theorem wr_draws (a : Nat) (v : Word) : (s.wr a v).draws = s.draws := rfl
@[simp] theorem wr_time (a : Nat) (v : Word) : (s.wr a v).time = s.time := rfl
@[simp] theorem wr_latches (a : Nat) (v : Word) : (s.wr a v).latches = s.latches := rfl
@[simp] theorem wr_mem (a : Nat) (v : Word) : (s.wr a v).mem = s.mem := rfl
@[simp] theorem wr_upsets (a : Nat) (v : Word) : (s.wr a v).upsets = s.upsets := rfl
@[simp] theorem wr_poison (a : Nat) (v : Word) : (s.wr a v).poison = s.poison := rfl
@[simp] theorem wr_rdata (a : Nat) (v : Word) : (s.wr a v).rdata = s.rdata := rfl
@[simp] theorem wr_wires (a : Nat) (v : Word) : (s.wr a v).wires = s.wires := rfl
@[simp] theorem wr_credits (a : Nat) (v : Word) : (s.wr a v).credits = s.credits := rfl
@[simp] theorem wr_owed (a : Nat) (v : Word) : (s.wr a v).owed = s.owed := rfl
@[simp] theorem wr_tokens (a : Nat) (v : Word) : (s.wr a v).tokens = s.tokens := rfl
@[simp] theorem wr_routers (a : Nat) (v : Word) : (s.wr a v).routers = s.routers := rfl
@[simp] theorem wr_ports (a : Nat) (v : Word) : (s.wr a v).ports = s.ports := rfl
@[simp] theorem wr_cores (a : Nat) (v : Word) : (s.wr a v).cores = s.cores := rfl
@[simp] theorem wr_parts (a : Nat) (v : Word) : (s.wr a v).parts = s.parts := rfl
@[simp] theorem wr_runc (a : Nat) (v : Word) : (s.wr a v).runc = s.runc := rfl
@[simp] theorem wr_img (a : Nat) (v : Word) : (s.wr a v).img = s.img := rfl
@[simp] theorem wr_tempers (a : Nat) (v : Word) : (s.wr a v).tempers = s.tempers := rfl
@[simp] theorem wr_vaults (a : Nat) (v : Word) : (s.wr a v).vaults = s.vaults := rfl
@[simp] theorem wr_doms (a : Nat) (v : Word) : (s.wr a v).doms = s.doms := rfl
@[simp] theorem wr_pwr (a : Nat) (v : Word) : (s.wr a v).pwr = s.pwr := rfl
@[simp] theorem wr_rst (a : Nat) (v : Word) : (s.wr a v).rst = s.rst := rfl
@[simp] theorem wr_sec (a : Nat) (v : Word) : (s.wr a v).sec = s.sec := rfl
@[simp] theorem wr_cfg (a : Nat) (v : Word) : (s.wr a v).cfg = s.cfg := rfl
@[simp] theorem wr_host (a : Nat) (v : Word) : (s.wr a v).host = s.host := rfl
@[simp] theorem wr_flashBad (a : Nat) (v : Word) : (s.wr a v).flashBad = s.flashBad := rfl
@[simp] theorem wr_msgs (a : Nat) (v : Word) : (s.wr a v).msgs = s.msgs := rfl
@[simp] theorem wr_hqs (a : Nat) (v : Word) : (s.wr a v).hqs = s.hqs := rfl
@[simp] theorem wr_recv (a : Nat) (v : Word) : (s.wr a v).recv = s.recv := rfl
@[simp] theorem wr_tnd (a : Nat) (v : Word) : (s.wr a v).tnd = s.tnd := rfl
@[simp] theorem wr_keep (a : Nat) (v : Word) : (s.wr a v).keep = s.keep := rfl
@[simp] theorem wr_smc (a : Nat) (v : Word) : (s.wr a v).smc = s.smc := rfl
@[simp] theorem wr_ldl (a : Nat) (v : Word) : (s.wr a v).ldl = s.ldl := rfl
@[simp] theorem wr_tmr (a : Nat) (v : Word) : (s.wr a v).tmr = s.tmr := rfl
@[simp] theorem wr_spr (a : Nat) (v : Word) : (s.wr a v).spr = s.spr := rfl
@[simp] theorem wr_vrn (a : Nat) (v : Word) : (s.wr a v).vrn = s.vrn := rfl

@[simp] theorem wf_pending (a hi lo v : Nat) : (s.wf a hi lo v).pending = s.pending := rfl
@[simp] theorem wf_draws (a hi lo v : Nat) : (s.wf a hi lo v).draws = s.draws := rfl
@[simp] theorem wf_time (a hi lo v : Nat) : (s.wf a hi lo v).time = s.time := rfl
@[simp] theorem wf_latches (a hi lo v : Nat) : (s.wf a hi lo v).latches = s.latches := rfl
@[simp] theorem wf_mem (a hi lo v : Nat) : (s.wf a hi lo v).mem = s.mem := rfl
@[simp] theorem wf_upsets (a hi lo v : Nat) : (s.wf a hi lo v).upsets = s.upsets := rfl
@[simp] theorem wf_poison (a hi lo v : Nat) : (s.wf a hi lo v).poison = s.poison := rfl
@[simp] theorem wf_rdata (a hi lo v : Nat) : (s.wf a hi lo v).rdata = s.rdata := rfl
@[simp] theorem wf_wires (a hi lo v : Nat) : (s.wf a hi lo v).wires = s.wires := rfl
@[simp] theorem wf_credits (a hi lo v : Nat) : (s.wf a hi lo v).credits = s.credits := rfl
@[simp] theorem wf_owed (a hi lo v : Nat) : (s.wf a hi lo v).owed = s.owed := rfl
@[simp] theorem wf_tokens (a hi lo v : Nat) : (s.wf a hi lo v).tokens = s.tokens := rfl
@[simp] theorem wf_routers (a hi lo v : Nat) : (s.wf a hi lo v).routers = s.routers := rfl
@[simp] theorem wf_ports (a hi lo v : Nat) : (s.wf a hi lo v).ports = s.ports := rfl
@[simp] theorem wf_cores (a hi lo v : Nat) : (s.wf a hi lo v).cores = s.cores := rfl
@[simp] theorem wf_parts (a hi lo v : Nat) : (s.wf a hi lo v).parts = s.parts := rfl
@[simp] theorem wf_runc (a hi lo v : Nat) : (s.wf a hi lo v).runc = s.runc := rfl
@[simp] theorem wf_img (a hi lo v : Nat) : (s.wf a hi lo v).img = s.img := rfl
@[simp] theorem wf_tempers (a hi lo v : Nat) : (s.wf a hi lo v).tempers = s.tempers := rfl
@[simp] theorem wf_vaults (a hi lo v : Nat) : (s.wf a hi lo v).vaults = s.vaults := rfl
@[simp] theorem wf_doms (a hi lo v : Nat) : (s.wf a hi lo v).doms = s.doms := rfl
@[simp] theorem wf_pwr (a hi lo v : Nat) : (s.wf a hi lo v).pwr = s.pwr := rfl
@[simp] theorem wf_rst (a hi lo v : Nat) : (s.wf a hi lo v).rst = s.rst := rfl
@[simp] theorem wf_sec (a hi lo v : Nat) : (s.wf a hi lo v).sec = s.sec := rfl
@[simp] theorem wf_cfg (a hi lo v : Nat) : (s.wf a hi lo v).cfg = s.cfg := rfl
@[simp] theorem wf_host (a hi lo v : Nat) : (s.wf a hi lo v).host = s.host := rfl
@[simp] theorem wf_flashBad (a hi lo v : Nat) : (s.wf a hi lo v).flashBad = s.flashBad := rfl
@[simp] theorem wf_msgs (a hi lo v : Nat) : (s.wf a hi lo v).msgs = s.msgs := rfl
@[simp] theorem wf_hqs (a hi lo v : Nat) : (s.wf a hi lo v).hqs = s.hqs := rfl
@[simp] theorem wf_recv (a hi lo v : Nat) : (s.wf a hi lo v).recv = s.recv := rfl
@[simp] theorem wf_tnd (a hi lo v : Nat) : (s.wf a hi lo v).tnd = s.tnd := rfl
@[simp] theorem wf_keep (a hi lo v : Nat) : (s.wf a hi lo v).keep = s.keep := rfl
@[simp] theorem wf_smc (a hi lo v : Nat) : (s.wf a hi lo v).smc = s.smc := rfl
@[simp] theorem wf_ldl (a hi lo v : Nat) : (s.wf a hi lo v).ldl = s.ldl := rfl
@[simp] theorem wf_tmr (a hi lo v : Nat) : (s.wf a hi lo v).tmr = s.tmr := rfl
@[simp] theorem wf_spr (a hi lo v : Nat) : (s.wf a hi lo v).spr = s.spr := rfl
@[simp] theorem wf_vrn (a hi lo v : Nat) : (s.wf a hi lo v).vrn = s.vrn := rfl

@[simp] theorem setBit_pending (a i : Nat) : (s.setBit a i).pending = s.pending := rfl
@[simp] theorem setBit_draws (a i : Nat) : (s.setBit a i).draws = s.draws := rfl
@[simp] theorem setBit_time (a i : Nat) : (s.setBit a i).time = s.time := rfl
@[simp] theorem setBit_latches (a i : Nat) : (s.setBit a i).latches = s.latches := rfl
@[simp] theorem setBit_mem (a i : Nat) : (s.setBit a i).mem = s.mem := rfl
@[simp] theorem setBit_upsets (a i : Nat) : (s.setBit a i).upsets = s.upsets := rfl
@[simp] theorem setBit_poison (a i : Nat) : (s.setBit a i).poison = s.poison := rfl
@[simp] theorem setBit_rdata (a i : Nat) : (s.setBit a i).rdata = s.rdata := rfl
@[simp] theorem setBit_wires (a i : Nat) : (s.setBit a i).wires = s.wires := rfl
@[simp] theorem setBit_credits (a i : Nat) : (s.setBit a i).credits = s.credits := rfl
@[simp] theorem setBit_owed (a i : Nat) : (s.setBit a i).owed = s.owed := rfl
@[simp] theorem setBit_tokens (a i : Nat) : (s.setBit a i).tokens = s.tokens := rfl
@[simp] theorem setBit_routers (a i : Nat) : (s.setBit a i).routers = s.routers := rfl
@[simp] theorem setBit_ports (a i : Nat) : (s.setBit a i).ports = s.ports := rfl
@[simp] theorem setBit_cores (a i : Nat) : (s.setBit a i).cores = s.cores := rfl
@[simp] theorem setBit_parts (a i : Nat) : (s.setBit a i).parts = s.parts := rfl
@[simp] theorem setBit_runc (a i : Nat) : (s.setBit a i).runc = s.runc := rfl
@[simp] theorem setBit_img (a i : Nat) : (s.setBit a i).img = s.img := rfl
@[simp] theorem setBit_tempers (a i : Nat) : (s.setBit a i).tempers = s.tempers := rfl
@[simp] theorem setBit_vaults (a i : Nat) : (s.setBit a i).vaults = s.vaults := rfl
@[simp] theorem setBit_doms (a i : Nat) : (s.setBit a i).doms = s.doms := rfl
@[simp] theorem setBit_pwr (a i : Nat) : (s.setBit a i).pwr = s.pwr := rfl
@[simp] theorem setBit_rst (a i : Nat) : (s.setBit a i).rst = s.rst := rfl
@[simp] theorem setBit_sec (a i : Nat) : (s.setBit a i).sec = s.sec := rfl
@[simp] theorem setBit_cfg (a i : Nat) : (s.setBit a i).cfg = s.cfg := rfl
@[simp] theorem setBit_host (a i : Nat) : (s.setBit a i).host = s.host := rfl
@[simp] theorem setBit_flashBad (a i : Nat) : (s.setBit a i).flashBad = s.flashBad := rfl
@[simp] theorem setBit_msgs (a i : Nat) : (s.setBit a i).msgs = s.msgs := rfl
@[simp] theorem setBit_hqs (a i : Nat) : (s.setBit a i).hqs = s.hqs := rfl
@[simp] theorem setBit_recv (a i : Nat) : (s.setBit a i).recv = s.recv := rfl
@[simp] theorem setBit_tnd (a i : Nat) : (s.setBit a i).tnd = s.tnd := rfl
@[simp] theorem setBit_keep (a i : Nat) : (s.setBit a i).keep = s.keep := rfl
@[simp] theorem setBit_smc (a i : Nat) : (s.setBit a i).smc = s.smc := rfl
@[simp] theorem setBit_ldl (a i : Nat) : (s.setBit a i).ldl = s.ldl := rfl
@[simp] theorem setBit_tmr (a i : Nat) : (s.setBit a i).tmr = s.tmr := rfl
@[simp] theorem setBit_spr (a i : Nat) : (s.setBit a i).spr = s.spr := rfl
@[simp] theorem setBit_vrn (a i : Nat) : (s.setBit a i).vrn = s.vrn := rfl

@[simp] theorem bump_pending (a n : Nat) : (s.bump a n).pending = s.pending := rfl
@[simp] theorem bump_draws (a n : Nat) : (s.bump a n).draws = s.draws := rfl
@[simp] theorem bump_time (a n : Nat) : (s.bump a n).time = s.time := rfl
@[simp] theorem bump_latches (a n : Nat) : (s.bump a n).latches = s.latches := rfl
@[simp] theorem bump_mem (a n : Nat) : (s.bump a n).mem = s.mem := rfl
@[simp] theorem bump_upsets (a n : Nat) : (s.bump a n).upsets = s.upsets := rfl
@[simp] theorem bump_poison (a n : Nat) : (s.bump a n).poison = s.poison := rfl
@[simp] theorem bump_rdata (a n : Nat) : (s.bump a n).rdata = s.rdata := rfl
@[simp] theorem bump_wires (a n : Nat) : (s.bump a n).wires = s.wires := rfl
@[simp] theorem bump_credits (a n : Nat) : (s.bump a n).credits = s.credits := rfl
@[simp] theorem bump_owed (a n : Nat) : (s.bump a n).owed = s.owed := rfl
@[simp] theorem bump_tokens (a n : Nat) : (s.bump a n).tokens = s.tokens := rfl
@[simp] theorem bump_routers (a n : Nat) : (s.bump a n).routers = s.routers := rfl
@[simp] theorem bump_ports (a n : Nat) : (s.bump a n).ports = s.ports := rfl
@[simp] theorem bump_cores (a n : Nat) : (s.bump a n).cores = s.cores := rfl
@[simp] theorem bump_parts (a n : Nat) : (s.bump a n).parts = s.parts := rfl
@[simp] theorem bump_runc (a n : Nat) : (s.bump a n).runc = s.runc := rfl
@[simp] theorem bump_img (a n : Nat) : (s.bump a n).img = s.img := rfl
@[simp] theorem bump_tempers (a n : Nat) : (s.bump a n).tempers = s.tempers := rfl
@[simp] theorem bump_vaults (a n : Nat) : (s.bump a n).vaults = s.vaults := rfl
@[simp] theorem bump_doms (a n : Nat) : (s.bump a n).doms = s.doms := rfl
@[simp] theorem bump_pwr (a n : Nat) : (s.bump a n).pwr = s.pwr := rfl
@[simp] theorem bump_rst (a n : Nat) : (s.bump a n).rst = s.rst := rfl
@[simp] theorem bump_sec (a n : Nat) : (s.bump a n).sec = s.sec := rfl
@[simp] theorem bump_cfg (a n : Nat) : (s.bump a n).cfg = s.cfg := rfl
@[simp] theorem bump_host (a n : Nat) : (s.bump a n).host = s.host := rfl
@[simp] theorem bump_flashBad (a n : Nat) : (s.bump a n).flashBad = s.flashBad := rfl
@[simp] theorem bump_msgs (a n : Nat) : (s.bump a n).msgs = s.msgs := rfl
@[simp] theorem bump_hqs (a n : Nat) : (s.bump a n).hqs = s.hqs := rfl
@[simp] theorem bump_recv (a n : Nat) : (s.bump a n).recv = s.recv := rfl
@[simp] theorem bump_tnd (a n : Nat) : (s.bump a n).tnd = s.tnd := rfl
@[simp] theorem bump_keep (a n : Nat) : (s.bump a n).keep = s.keep := rfl
@[simp] theorem bump_smc (a n : Nat) : (s.bump a n).smc = s.smc := rfl
@[simp] theorem bump_ldl (a n : Nat) : (s.bump a n).ldl = s.ldl := rfl
@[simp] theorem bump_tmr (a n : Nat) : (s.bump a n).tmr = s.tmr := rfl
@[simp] theorem bump_spr (a n : Nat) : (s.bump a n).spr = s.spr := rfl
@[simp] theorem bump_vrn (a n : Nat) : (s.bump a n).vrn = s.vrn := rfl

@[simp] theorem bump48_pending (a n : Nat) : (s.bump48 a n).pending = s.pending := (wf_pending (s.wr a (BitVec.ofNat 32 ((s.rd48 a + n) % 2 ^ 48))) (a + 4) 15 0 ((s.rd48 a + n) % 2 ^ 48 / 2 ^ 32)).trans (wr_pending s a _)
@[simp] theorem bump48_draws (a n : Nat) : (s.bump48 a n).draws = s.draws := (wf_draws (s.wr a (BitVec.ofNat 32 ((s.rd48 a + n) % 2 ^ 48))) (a + 4) 15 0 ((s.rd48 a + n) % 2 ^ 48 / 2 ^ 32)).trans (wr_draws s a _)
@[simp] theorem bump48_time (a n : Nat) : (s.bump48 a n).time = s.time := (wf_time (s.wr a (BitVec.ofNat 32 ((s.rd48 a + n) % 2 ^ 48))) (a + 4) 15 0 ((s.rd48 a + n) % 2 ^ 48 / 2 ^ 32)).trans (wr_time s a _)
@[simp] theorem bump48_latches (a n : Nat) : (s.bump48 a n).latches = s.latches := (wf_latches (s.wr a (BitVec.ofNat 32 ((s.rd48 a + n) % 2 ^ 48))) (a + 4) 15 0 ((s.rd48 a + n) % 2 ^ 48 / 2 ^ 32)).trans (wr_latches s a _)
@[simp] theorem bump48_mem (a n : Nat) : (s.bump48 a n).mem = s.mem := (wf_mem (s.wr a (BitVec.ofNat 32 ((s.rd48 a + n) % 2 ^ 48))) (a + 4) 15 0 ((s.rd48 a + n) % 2 ^ 48 / 2 ^ 32)).trans (wr_mem s a _)
@[simp] theorem bump48_upsets (a n : Nat) : (s.bump48 a n).upsets = s.upsets := (wf_upsets (s.wr a (BitVec.ofNat 32 ((s.rd48 a + n) % 2 ^ 48))) (a + 4) 15 0 ((s.rd48 a + n) % 2 ^ 48 / 2 ^ 32)).trans (wr_upsets s a _)
@[simp] theorem bump48_poison (a n : Nat) : (s.bump48 a n).poison = s.poison := (wf_poison (s.wr a (BitVec.ofNat 32 ((s.rd48 a + n) % 2 ^ 48))) (a + 4) 15 0 ((s.rd48 a + n) % 2 ^ 48 / 2 ^ 32)).trans (wr_poison s a _)
@[simp] theorem bump48_rdata (a n : Nat) : (s.bump48 a n).rdata = s.rdata := (wf_rdata (s.wr a (BitVec.ofNat 32 ((s.rd48 a + n) % 2 ^ 48))) (a + 4) 15 0 ((s.rd48 a + n) % 2 ^ 48 / 2 ^ 32)).trans (wr_rdata s a _)
@[simp] theorem bump48_wires (a n : Nat) : (s.bump48 a n).wires = s.wires := (wf_wires (s.wr a (BitVec.ofNat 32 ((s.rd48 a + n) % 2 ^ 48))) (a + 4) 15 0 ((s.rd48 a + n) % 2 ^ 48 / 2 ^ 32)).trans (wr_wires s a _)
@[simp] theorem bump48_credits (a n : Nat) : (s.bump48 a n).credits = s.credits := (wf_credits (s.wr a (BitVec.ofNat 32 ((s.rd48 a + n) % 2 ^ 48))) (a + 4) 15 0 ((s.rd48 a + n) % 2 ^ 48 / 2 ^ 32)).trans (wr_credits s a _)
@[simp] theorem bump48_owed (a n : Nat) : (s.bump48 a n).owed = s.owed := (wf_owed (s.wr a (BitVec.ofNat 32 ((s.rd48 a + n) % 2 ^ 48))) (a + 4) 15 0 ((s.rd48 a + n) % 2 ^ 48 / 2 ^ 32)).trans (wr_owed s a _)
@[simp] theorem bump48_tokens (a n : Nat) : (s.bump48 a n).tokens = s.tokens := (wf_tokens (s.wr a (BitVec.ofNat 32 ((s.rd48 a + n) % 2 ^ 48))) (a + 4) 15 0 ((s.rd48 a + n) % 2 ^ 48 / 2 ^ 32)).trans (wr_tokens s a _)
@[simp] theorem bump48_routers (a n : Nat) : (s.bump48 a n).routers = s.routers := (wf_routers (s.wr a (BitVec.ofNat 32 ((s.rd48 a + n) % 2 ^ 48))) (a + 4) 15 0 ((s.rd48 a + n) % 2 ^ 48 / 2 ^ 32)).trans (wr_routers s a _)
@[simp] theorem bump48_ports (a n : Nat) : (s.bump48 a n).ports = s.ports := (wf_ports (s.wr a (BitVec.ofNat 32 ((s.rd48 a + n) % 2 ^ 48))) (a + 4) 15 0 ((s.rd48 a + n) % 2 ^ 48 / 2 ^ 32)).trans (wr_ports s a _)
@[simp] theorem bump48_cores (a n : Nat) : (s.bump48 a n).cores = s.cores := (wf_cores (s.wr a (BitVec.ofNat 32 ((s.rd48 a + n) % 2 ^ 48))) (a + 4) 15 0 ((s.rd48 a + n) % 2 ^ 48 / 2 ^ 32)).trans (wr_cores s a _)
@[simp] theorem bump48_parts (a n : Nat) : (s.bump48 a n).parts = s.parts := (wf_parts (s.wr a (BitVec.ofNat 32 ((s.rd48 a + n) % 2 ^ 48))) (a + 4) 15 0 ((s.rd48 a + n) % 2 ^ 48 / 2 ^ 32)).trans (wr_parts s a _)
@[simp] theorem bump48_runc (a n : Nat) : (s.bump48 a n).runc = s.runc := (wf_runc (s.wr a (BitVec.ofNat 32 ((s.rd48 a + n) % 2 ^ 48))) (a + 4) 15 0 ((s.rd48 a + n) % 2 ^ 48 / 2 ^ 32)).trans (wr_runc s a _)
@[simp] theorem bump48_img (a n : Nat) : (s.bump48 a n).img = s.img := (wf_img (s.wr a (BitVec.ofNat 32 ((s.rd48 a + n) % 2 ^ 48))) (a + 4) 15 0 ((s.rd48 a + n) % 2 ^ 48 / 2 ^ 32)).trans (wr_img s a _)
@[simp] theorem bump48_tempers (a n : Nat) : (s.bump48 a n).tempers = s.tempers := (wf_tempers (s.wr a (BitVec.ofNat 32 ((s.rd48 a + n) % 2 ^ 48))) (a + 4) 15 0 ((s.rd48 a + n) % 2 ^ 48 / 2 ^ 32)).trans (wr_tempers s a _)
@[simp] theorem bump48_vaults (a n : Nat) : (s.bump48 a n).vaults = s.vaults := (wf_vaults (s.wr a (BitVec.ofNat 32 ((s.rd48 a + n) % 2 ^ 48))) (a + 4) 15 0 ((s.rd48 a + n) % 2 ^ 48 / 2 ^ 32)).trans (wr_vaults s a _)
@[simp] theorem bump48_doms (a n : Nat) : (s.bump48 a n).doms = s.doms := (wf_doms (s.wr a (BitVec.ofNat 32 ((s.rd48 a + n) % 2 ^ 48))) (a + 4) 15 0 ((s.rd48 a + n) % 2 ^ 48 / 2 ^ 32)).trans (wr_doms s a _)
@[simp] theorem bump48_pwr (a n : Nat) : (s.bump48 a n).pwr = s.pwr := (wf_pwr (s.wr a (BitVec.ofNat 32 ((s.rd48 a + n) % 2 ^ 48))) (a + 4) 15 0 ((s.rd48 a + n) % 2 ^ 48 / 2 ^ 32)).trans (wr_pwr s a _)
@[simp] theorem bump48_rst (a n : Nat) : (s.bump48 a n).rst = s.rst := (wf_rst (s.wr a (BitVec.ofNat 32 ((s.rd48 a + n) % 2 ^ 48))) (a + 4) 15 0 ((s.rd48 a + n) % 2 ^ 48 / 2 ^ 32)).trans (wr_rst s a _)
@[simp] theorem bump48_sec (a n : Nat) : (s.bump48 a n).sec = s.sec := (wf_sec (s.wr a (BitVec.ofNat 32 ((s.rd48 a + n) % 2 ^ 48))) (a + 4) 15 0 ((s.rd48 a + n) % 2 ^ 48 / 2 ^ 32)).trans (wr_sec s a _)
@[simp] theorem bump48_cfg (a n : Nat) : (s.bump48 a n).cfg = s.cfg := (wf_cfg (s.wr a (BitVec.ofNat 32 ((s.rd48 a + n) % 2 ^ 48))) (a + 4) 15 0 ((s.rd48 a + n) % 2 ^ 48 / 2 ^ 32)).trans (wr_cfg s a _)
@[simp] theorem bump48_host (a n : Nat) : (s.bump48 a n).host = s.host := (wf_host (s.wr a (BitVec.ofNat 32 ((s.rd48 a + n) % 2 ^ 48))) (a + 4) 15 0 ((s.rd48 a + n) % 2 ^ 48 / 2 ^ 32)).trans (wr_host s a _)
@[simp] theorem bump48_flashBad (a n : Nat) : (s.bump48 a n).flashBad = s.flashBad := (wf_flashBad (s.wr a (BitVec.ofNat 32 ((s.rd48 a + n) % 2 ^ 48))) (a + 4) 15 0 ((s.rd48 a + n) % 2 ^ 48 / 2 ^ 32)).trans (wr_flashBad s a _)
@[simp] theorem bump48_msgs (a n : Nat) : (s.bump48 a n).msgs = s.msgs := (wf_msgs (s.wr a (BitVec.ofNat 32 ((s.rd48 a + n) % 2 ^ 48))) (a + 4) 15 0 ((s.rd48 a + n) % 2 ^ 48 / 2 ^ 32)).trans (wr_msgs s a _)
@[simp] theorem bump48_hqs (a n : Nat) : (s.bump48 a n).hqs = s.hqs := (wf_hqs (s.wr a (BitVec.ofNat 32 ((s.rd48 a + n) % 2 ^ 48))) (a + 4) 15 0 ((s.rd48 a + n) % 2 ^ 48 / 2 ^ 32)).trans (wr_hqs s a _)
@[simp] theorem bump48_recv (a n : Nat) : (s.bump48 a n).recv = s.recv := (wf_recv (s.wr a (BitVec.ofNat 32 ((s.rd48 a + n) % 2 ^ 48))) (a + 4) 15 0 ((s.rd48 a + n) % 2 ^ 48 / 2 ^ 32)).trans (wr_recv s a _)
@[simp] theorem bump48_tnd (a n : Nat) : (s.bump48 a n).tnd = s.tnd := (wf_tnd (s.wr a (BitVec.ofNat 32 ((s.rd48 a + n) % 2 ^ 48))) (a + 4) 15 0 ((s.rd48 a + n) % 2 ^ 48 / 2 ^ 32)).trans (wr_tnd s a _)
@[simp] theorem bump48_keep (a n : Nat) : (s.bump48 a n).keep = s.keep := (wf_keep (s.wr a (BitVec.ofNat 32 ((s.rd48 a + n) % 2 ^ 48))) (a + 4) 15 0 ((s.rd48 a + n) % 2 ^ 48 / 2 ^ 32)).trans (wr_keep s a _)
@[simp] theorem bump48_smc (a n : Nat) : (s.bump48 a n).smc = s.smc := (wf_smc (s.wr a (BitVec.ofNat 32 ((s.rd48 a + n) % 2 ^ 48))) (a + 4) 15 0 ((s.rd48 a + n) % 2 ^ 48 / 2 ^ 32)).trans (wr_smc s a _)
@[simp] theorem bump48_ldl (a n : Nat) : (s.bump48 a n).ldl = s.ldl := (wf_ldl (s.wr a (BitVec.ofNat 32 ((s.rd48 a + n) % 2 ^ 48))) (a + 4) 15 0 ((s.rd48 a + n) % 2 ^ 48 / 2 ^ 32)).trans (wr_ldl s a _)
@[simp] theorem bump48_tmr (a n : Nat) : (s.bump48 a n).tmr = s.tmr := (wf_tmr (s.wr a (BitVec.ofNat 32 ((s.rd48 a + n) % 2 ^ 48))) (a + 4) 15 0 ((s.rd48 a + n) % 2 ^ 48 / 2 ^ 32)).trans (wr_tmr s a _)
@[simp] theorem bump48_spr (a n : Nat) : (s.bump48 a n).spr = s.spr := (wf_spr (s.wr a (BitVec.ofNat 32 ((s.rd48 a + n) % 2 ^ 48))) (a + 4) 15 0 ((s.rd48 a + n) % 2 ^ 48 / 2 ^ 32)).trans (wr_spr s a _)
@[simp] theorem bump48_vrn (a n : Nat) : (s.bump48 a n).vrn = s.vrn := (wf_vrn (s.wr a (BitVec.ofNat 32 ((s.rd48 a + n) % 2 ^ 48))) (a + 4) 15 0 ((s.rd48 a + n) % 2 ^ 48 / 2 ^ 32)).trans (wr_vrn s a _)

@[simp] theorem store_pending (a : Nat) (bs : List Byte) : (s.store a bs).pending = s.pending := rfl
@[simp] theorem store_draws (a : Nat) (bs : List Byte) : (s.store a bs).draws = s.draws := rfl
@[simp] theorem store_time (a : Nat) (bs : List Byte) : (s.store a bs).time = s.time := rfl
@[simp] theorem store_regs (a : Nat) (bs : List Byte) : (s.store a bs).regs = s.regs := rfl
@[simp] theorem store_latches (a : Nat) (bs : List Byte) : (s.store a bs).latches = s.latches := rfl
@[simp] theorem store_rdata (a : Nat) (bs : List Byte) : (s.store a bs).rdata = s.rdata := rfl
@[simp] theorem store_wires (a : Nat) (bs : List Byte) : (s.store a bs).wires = s.wires := rfl
@[simp] theorem store_credits (a : Nat) (bs : List Byte) : (s.store a bs).credits = s.credits := rfl
@[simp] theorem store_owed (a : Nat) (bs : List Byte) : (s.store a bs).owed = s.owed := rfl
@[simp] theorem store_tokens (a : Nat) (bs : List Byte) : (s.store a bs).tokens = s.tokens := rfl
@[simp] theorem store_routers (a : Nat) (bs : List Byte) : (s.store a bs).routers = s.routers := rfl
@[simp] theorem store_ports (a : Nat) (bs : List Byte) : (s.store a bs).ports = s.ports := rfl
@[simp] theorem store_cores (a : Nat) (bs : List Byte) : (s.store a bs).cores = s.cores := rfl
@[simp] theorem store_parts (a : Nat) (bs : List Byte) : (s.store a bs).parts = s.parts := rfl
@[simp] theorem store_runc (a : Nat) (bs : List Byte) : (s.store a bs).runc = s.runc := rfl
@[simp] theorem store_img (a : Nat) (bs : List Byte) : (s.store a bs).img = s.img := rfl
@[simp] theorem store_tempers (a : Nat) (bs : List Byte) : (s.store a bs).tempers = s.tempers := rfl
@[simp] theorem store_vaults (a : Nat) (bs : List Byte) : (s.store a bs).vaults = s.vaults := rfl
@[simp] theorem store_doms (a : Nat) (bs : List Byte) : (s.store a bs).doms = s.doms := rfl
@[simp] theorem store_pwr (a : Nat) (bs : List Byte) : (s.store a bs).pwr = s.pwr := rfl
@[simp] theorem store_rst (a : Nat) (bs : List Byte) : (s.store a bs).rst = s.rst := rfl
@[simp] theorem store_sec (a : Nat) (bs : List Byte) : (s.store a bs).sec = s.sec := rfl
@[simp] theorem store_cfg (a : Nat) (bs : List Byte) : (s.store a bs).cfg = s.cfg := rfl
@[simp] theorem store_host (a : Nat) (bs : List Byte) : (s.store a bs).host = s.host := rfl
@[simp] theorem store_flashBad (a : Nat) (bs : List Byte) : (s.store a bs).flashBad = s.flashBad := rfl
@[simp] theorem store_msgs (a : Nat) (bs : List Byte) : (s.store a bs).msgs = s.msgs := rfl
@[simp] theorem store_hqs (a : Nat) (bs : List Byte) : (s.store a bs).hqs = s.hqs := rfl
@[simp] theorem store_recv (a : Nat) (bs : List Byte) : (s.store a bs).recv = s.recv := rfl
@[simp] theorem store_tnd (a : Nat) (bs : List Byte) : (s.store a bs).tnd = s.tnd := rfl
@[simp] theorem store_keep (a : Nat) (bs : List Byte) : (s.store a bs).keep = s.keep := rfl
@[simp] theorem store_smc (a : Nat) (bs : List Byte) : (s.store a bs).smc = s.smc := rfl
@[simp] theorem store_ldl (a : Nat) (bs : List Byte) : (s.store a bs).ldl = s.ldl := rfl
@[simp] theorem store_tmr (a : Nat) (bs : List Byte) : (s.store a bs).tmr = s.tmr := rfl
@[simp] theorem store_spr (a : Nat) (bs : List Byte) : (s.store a bs).spr = s.spr := rfl
@[simp] theorem store_vrn (a : Nat) (bs : List Byte) : (s.store a bs).vrn = s.vrn := rfl

@[simp] theorem putNum_pending (a n v : Nat) : (s.putNum a n v).pending = s.pending := rfl
@[simp] theorem putNum_draws (a n v : Nat) : (s.putNum a n v).draws = s.draws := rfl
@[simp] theorem putNum_time (a n v : Nat) : (s.putNum a n v).time = s.time := rfl
@[simp] theorem putNum_regs (a n v : Nat) : (s.putNum a n v).regs = s.regs := rfl
@[simp] theorem putNum_latches (a n v : Nat) : (s.putNum a n v).latches = s.latches := rfl
@[simp] theorem putNum_rdata (a n v : Nat) : (s.putNum a n v).rdata = s.rdata := rfl
@[simp] theorem putNum_wires (a n v : Nat) : (s.putNum a n v).wires = s.wires := rfl
@[simp] theorem putNum_credits (a n v : Nat) : (s.putNum a n v).credits = s.credits := rfl
@[simp] theorem putNum_owed (a n v : Nat) : (s.putNum a n v).owed = s.owed := rfl
@[simp] theorem putNum_tokens (a n v : Nat) : (s.putNum a n v).tokens = s.tokens := rfl
@[simp] theorem putNum_routers (a n v : Nat) : (s.putNum a n v).routers = s.routers := rfl
@[simp] theorem putNum_ports (a n v : Nat) : (s.putNum a n v).ports = s.ports := rfl
@[simp] theorem putNum_cores (a n v : Nat) : (s.putNum a n v).cores = s.cores := rfl
@[simp] theorem putNum_parts (a n v : Nat) : (s.putNum a n v).parts = s.parts := rfl
@[simp] theorem putNum_runc (a n v : Nat) : (s.putNum a n v).runc = s.runc := rfl
@[simp] theorem putNum_img (a n v : Nat) : (s.putNum a n v).img = s.img := rfl
@[simp] theorem putNum_tempers (a n v : Nat) : (s.putNum a n v).tempers = s.tempers := rfl
@[simp] theorem putNum_vaults (a n v : Nat) : (s.putNum a n v).vaults = s.vaults := rfl
@[simp] theorem putNum_doms (a n v : Nat) : (s.putNum a n v).doms = s.doms := rfl
@[simp] theorem putNum_pwr (a n v : Nat) : (s.putNum a n v).pwr = s.pwr := rfl
@[simp] theorem putNum_rst (a n v : Nat) : (s.putNum a n v).rst = s.rst := rfl
@[simp] theorem putNum_sec (a n v : Nat) : (s.putNum a n v).sec = s.sec := rfl
@[simp] theorem putNum_cfg (a n v : Nat) : (s.putNum a n v).cfg = s.cfg := rfl
@[simp] theorem putNum_host (a n v : Nat) : (s.putNum a n v).host = s.host := rfl
@[simp] theorem putNum_flashBad (a n v : Nat) : (s.putNum a n v).flashBad = s.flashBad := rfl
@[simp] theorem putNum_msgs (a n v : Nat) : (s.putNum a n v).msgs = s.msgs := rfl
@[simp] theorem putNum_hqs (a n v : Nat) : (s.putNum a n v).hqs = s.hqs := rfl
@[simp] theorem putNum_recv (a n v : Nat) : (s.putNum a n v).recv = s.recv := rfl
@[simp] theorem putNum_tnd (a n v : Nat) : (s.putNum a n v).tnd = s.tnd := rfl
@[simp] theorem putNum_keep (a n v : Nat) : (s.putNum a n v).keep = s.keep := rfl
@[simp] theorem putNum_smc (a n v : Nat) : (s.putNum a n v).smc = s.smc := rfl
@[simp] theorem putNum_ldl (a n v : Nat) : (s.putNum a n v).ldl = s.ldl := rfl
@[simp] theorem putNum_tmr (a n v : Nat) : (s.putNum a n v).tmr = s.tmr := rfl
@[simp] theorem putNum_spr (a n v : Nat) : (s.putNum a n v).spr = s.spr := rfl
@[simp] theorem putNum_vrn (a n v : Nat) : (s.putNum a n v).vrn = s.vrn := rfl

@[simp] theorem answer_pending (bs : List Byte) : (s.answer bs).pending = s.pending := rfl
@[simp] theorem answer_draws (bs : List Byte) : (s.answer bs).draws = s.draws := rfl
@[simp] theorem answer_time (bs : List Byte) : (s.answer bs).time = s.time := rfl
@[simp] theorem answer_regs (bs : List Byte) : (s.answer bs).regs = s.regs := rfl
@[simp] theorem answer_latches (bs : List Byte) : (s.answer bs).latches = s.latches := rfl
@[simp] theorem answer_mem (bs : List Byte) : (s.answer bs).mem = s.mem := rfl
@[simp] theorem answer_upsets (bs : List Byte) : (s.answer bs).upsets = s.upsets := rfl
@[simp] theorem answer_poison (bs : List Byte) : (s.answer bs).poison = s.poison := rfl
@[simp] theorem answer_wires (bs : List Byte) : (s.answer bs).wires = s.wires := rfl
@[simp] theorem answer_credits (bs : List Byte) : (s.answer bs).credits = s.credits := rfl
@[simp] theorem answer_owed (bs : List Byte) : (s.answer bs).owed = s.owed := rfl
@[simp] theorem answer_tokens (bs : List Byte) : (s.answer bs).tokens = s.tokens := rfl
@[simp] theorem answer_routers (bs : List Byte) : (s.answer bs).routers = s.routers := rfl
@[simp] theorem answer_ports (bs : List Byte) : (s.answer bs).ports = s.ports := rfl
@[simp] theorem answer_cores (bs : List Byte) : (s.answer bs).cores = s.cores := rfl
@[simp] theorem answer_parts (bs : List Byte) : (s.answer bs).parts = s.parts := rfl
@[simp] theorem answer_runc (bs : List Byte) : (s.answer bs).runc = s.runc := rfl
@[simp] theorem answer_img (bs : List Byte) : (s.answer bs).img = s.img := rfl
@[simp] theorem answer_tempers (bs : List Byte) : (s.answer bs).tempers = s.tempers := rfl
@[simp] theorem answer_vaults (bs : List Byte) : (s.answer bs).vaults = s.vaults := rfl
@[simp] theorem answer_doms (bs : List Byte) : (s.answer bs).doms = s.doms := rfl
@[simp] theorem answer_pwr (bs : List Byte) : (s.answer bs).pwr = s.pwr := rfl
@[simp] theorem answer_rst (bs : List Byte) : (s.answer bs).rst = s.rst := rfl
@[simp] theorem answer_sec (bs : List Byte) : (s.answer bs).sec = s.sec := rfl
@[simp] theorem answer_cfg (bs : List Byte) : (s.answer bs).cfg = s.cfg := rfl
@[simp] theorem answer_host (bs : List Byte) : (s.answer bs).host = s.host := rfl
@[simp] theorem answer_flashBad (bs : List Byte) : (s.answer bs).flashBad = s.flashBad := rfl
@[simp] theorem answer_msgs (bs : List Byte) : (s.answer bs).msgs = s.msgs := rfl
@[simp] theorem answer_hqs (bs : List Byte) : (s.answer bs).hqs = s.hqs := rfl
@[simp] theorem answer_recv (bs : List Byte) : (s.answer bs).recv = s.recv := rfl
@[simp] theorem answer_tnd (bs : List Byte) : (s.answer bs).tnd = s.tnd := rfl
@[simp] theorem answer_keep (bs : List Byte) : (s.answer bs).keep = s.keep := rfl
@[simp] theorem answer_smc (bs : List Byte) : (s.answer bs).smc = s.smc := rfl
@[simp] theorem answer_ldl (bs : List Byte) : (s.answer bs).ldl = s.ldl := rfl
@[simp] theorem answer_tmr (bs : List Byte) : (s.answer bs).tmr = s.tmr := rfl
@[simp] theorem answer_spr (bs : List Byte) : (s.answer bs).spr = s.spr := rfl
@[simp] theorem answer_vrn (bs : List Byte) : (s.answer bs).vrn = s.vrn := rfl

@[simp] theorem draw_pending : (s.draw).pending = s.pending := rfl
@[simp] theorem draw_time : (s.draw).time = s.time := rfl
@[simp] theorem draw_regs : (s.draw).regs = s.regs := rfl
@[simp] theorem draw_latches : (s.draw).latches = s.latches := rfl
@[simp] theorem draw_mem : (s.draw).mem = s.mem := rfl
@[simp] theorem draw_upsets : (s.draw).upsets = s.upsets := rfl
@[simp] theorem draw_poison : (s.draw).poison = s.poison := rfl
@[simp] theorem draw_rdata : (s.draw).rdata = s.rdata := rfl
@[simp] theorem draw_wires : (s.draw).wires = s.wires := rfl
@[simp] theorem draw_credits : (s.draw).credits = s.credits := rfl
@[simp] theorem draw_owed : (s.draw).owed = s.owed := rfl
@[simp] theorem draw_tokens : (s.draw).tokens = s.tokens := rfl
@[simp] theorem draw_routers : (s.draw).routers = s.routers := rfl
@[simp] theorem draw_ports : (s.draw).ports = s.ports := rfl
@[simp] theorem draw_cores : (s.draw).cores = s.cores := rfl
@[simp] theorem draw_parts : (s.draw).parts = s.parts := rfl
@[simp] theorem draw_runc : (s.draw).runc = s.runc := rfl
@[simp] theorem draw_img : (s.draw).img = s.img := rfl
@[simp] theorem draw_tempers : (s.draw).tempers = s.tempers := rfl
@[simp] theorem draw_vaults : (s.draw).vaults = s.vaults := rfl
@[simp] theorem draw_doms : (s.draw).doms = s.doms := rfl
@[simp] theorem draw_pwr : (s.draw).pwr = s.pwr := rfl
@[simp] theorem draw_rst : (s.draw).rst = s.rst := rfl
@[simp] theorem draw_sec : (s.draw).sec = s.sec := rfl
@[simp] theorem draw_cfg : (s.draw).cfg = s.cfg := rfl
@[simp] theorem draw_host : (s.draw).host = s.host := rfl
@[simp] theorem draw_flashBad : (s.draw).flashBad = s.flashBad := rfl
@[simp] theorem draw_msgs : (s.draw).msgs = s.msgs := rfl
@[simp] theorem draw_hqs : (s.draw).hqs = s.hqs := rfl
@[simp] theorem draw_recv : (s.draw).recv = s.recv := rfl
@[simp] theorem draw_tnd : (s.draw).tnd = s.tnd := rfl
@[simp] theorem draw_keep : (s.draw).keep = s.keep := rfl
@[simp] theorem draw_smc : (s.draw).smc = s.smc := rfl
@[simp] theorem draw_ldl : (s.draw).ldl = s.ldl := rfl
@[simp] theorem draw_tmr : (s.draw).tmr = s.tmr := rfl
@[simp] theorem draw_spr : (s.draw).spr = s.spr := rfl
@[simp] theorem draw_vrn : (s.draw).vrn = s.vrn := rfl

@[simp] theorem setCore_pending (c : Nat) (x : CoreInt) : (s.setCore c x).pending = s.pending := rfl
@[simp] theorem setCore_draws (c : Nat) (x : CoreInt) : (s.setCore c x).draws = s.draws := rfl
@[simp] theorem setCore_time (c : Nat) (x : CoreInt) : (s.setCore c x).time = s.time := rfl
@[simp] theorem setCore_regs (c : Nat) (x : CoreInt) : (s.setCore c x).regs = s.regs := rfl
@[simp] theorem setCore_latches (c : Nat) (x : CoreInt) : (s.setCore c x).latches = s.latches := rfl
@[simp] theorem setCore_mem (c : Nat) (x : CoreInt) : (s.setCore c x).mem = s.mem := rfl
@[simp] theorem setCore_upsets (c : Nat) (x : CoreInt) : (s.setCore c x).upsets = s.upsets := rfl
@[simp] theorem setCore_poison (c : Nat) (x : CoreInt) : (s.setCore c x).poison = s.poison := rfl
@[simp] theorem setCore_rdata (c : Nat) (x : CoreInt) : (s.setCore c x).rdata = s.rdata := rfl
@[simp] theorem setCore_wires (c : Nat) (x : CoreInt) : (s.setCore c x).wires = s.wires := rfl
@[simp] theorem setCore_credits (c : Nat) (x : CoreInt) : (s.setCore c x).credits = s.credits := rfl
@[simp] theorem setCore_owed (c : Nat) (x : CoreInt) : (s.setCore c x).owed = s.owed := rfl
@[simp] theorem setCore_tokens (c : Nat) (x : CoreInt) : (s.setCore c x).tokens = s.tokens := rfl
@[simp] theorem setCore_routers (c : Nat) (x : CoreInt) : (s.setCore c x).routers = s.routers := rfl
@[simp] theorem setCore_ports (c : Nat) (x : CoreInt) : (s.setCore c x).ports = s.ports := rfl
@[simp] theorem setCore_parts (c : Nat) (x : CoreInt) : (s.setCore c x).parts = s.parts := rfl
@[simp] theorem setCore_runc (c : Nat) (x : CoreInt) : (s.setCore c x).runc = s.runc := rfl
@[simp] theorem setCore_img (c : Nat) (x : CoreInt) : (s.setCore c x).img = s.img := rfl
@[simp] theorem setCore_tempers (c : Nat) (x : CoreInt) : (s.setCore c x).tempers = s.tempers := rfl
@[simp] theorem setCore_vaults (c : Nat) (x : CoreInt) : (s.setCore c x).vaults = s.vaults := rfl
@[simp] theorem setCore_doms (c : Nat) (x : CoreInt) : (s.setCore c x).doms = s.doms := rfl
@[simp] theorem setCore_pwr (c : Nat) (x : CoreInt) : (s.setCore c x).pwr = s.pwr := rfl
@[simp] theorem setCore_rst (c : Nat) (x : CoreInt) : (s.setCore c x).rst = s.rst := rfl
@[simp] theorem setCore_sec (c : Nat) (x : CoreInt) : (s.setCore c x).sec = s.sec := rfl
@[simp] theorem setCore_cfg (c : Nat) (x : CoreInt) : (s.setCore c x).cfg = s.cfg := rfl
@[simp] theorem setCore_host (c : Nat) (x : CoreInt) : (s.setCore c x).host = s.host := rfl
@[simp] theorem setCore_flashBad (c : Nat) (x : CoreInt) : (s.setCore c x).flashBad = s.flashBad := rfl
@[simp] theorem setCore_msgs (c : Nat) (x : CoreInt) : (s.setCore c x).msgs = s.msgs := rfl
@[simp] theorem setCore_hqs (c : Nat) (x : CoreInt) : (s.setCore c x).hqs = s.hqs := rfl
@[simp] theorem setCore_recv (c : Nat) (x : CoreInt) : (s.setCore c x).recv = s.recv := rfl
@[simp] theorem setCore_tnd (c : Nat) (x : CoreInt) : (s.setCore c x).tnd = s.tnd := rfl
@[simp] theorem setCore_keep (c : Nat) (x : CoreInt) : (s.setCore c x).keep = s.keep := rfl
@[simp] theorem setCore_smc (c : Nat) (x : CoreInt) : (s.setCore c x).smc = s.smc := rfl
@[simp] theorem setCore_ldl (c : Nat) (x : CoreInt) : (s.setCore c x).ldl = s.ldl := rfl
@[simp] theorem setCore_tmr (c : Nat) (x : CoreInt) : (s.setCore c x).tmr = s.tmr := rfl
@[simp] theorem setCore_spr (c : Nat) (x : CoreInt) : (s.setCore c x).spr = s.spr := rfl
@[simp] theorem setCore_vrn (c : Nat) (x : CoreInt) : (s.setCore c x).vrn = s.vrn := rfl

@[simp] theorem setRouter_pending (n : Nat) (x : RouterInt) : (s.setRouter n x).pending = s.pending := rfl
@[simp] theorem setRouter_draws (n : Nat) (x : RouterInt) : (s.setRouter n x).draws = s.draws := rfl
@[simp] theorem setRouter_time (n : Nat) (x : RouterInt) : (s.setRouter n x).time = s.time := rfl
@[simp] theorem setRouter_regs (n : Nat) (x : RouterInt) : (s.setRouter n x).regs = s.regs := rfl
@[simp] theorem setRouter_latches (n : Nat) (x : RouterInt) : (s.setRouter n x).latches = s.latches := rfl
@[simp] theorem setRouter_mem (n : Nat) (x : RouterInt) : (s.setRouter n x).mem = s.mem := rfl
@[simp] theorem setRouter_upsets (n : Nat) (x : RouterInt) : (s.setRouter n x).upsets = s.upsets := rfl
@[simp] theorem setRouter_poison (n : Nat) (x : RouterInt) : (s.setRouter n x).poison = s.poison := rfl
@[simp] theorem setRouter_rdata (n : Nat) (x : RouterInt) : (s.setRouter n x).rdata = s.rdata := rfl
@[simp] theorem setRouter_wires (n : Nat) (x : RouterInt) : (s.setRouter n x).wires = s.wires := rfl
@[simp] theorem setRouter_credits (n : Nat) (x : RouterInt) : (s.setRouter n x).credits = s.credits := rfl
@[simp] theorem setRouter_owed (n : Nat) (x : RouterInt) : (s.setRouter n x).owed = s.owed := rfl
@[simp] theorem setRouter_tokens (n : Nat) (x : RouterInt) : (s.setRouter n x).tokens = s.tokens := rfl
@[simp] theorem setRouter_ports (n : Nat) (x : RouterInt) : (s.setRouter n x).ports = s.ports := rfl
@[simp] theorem setRouter_cores (n : Nat) (x : RouterInt) : (s.setRouter n x).cores = s.cores := rfl
@[simp] theorem setRouter_parts (n : Nat) (x : RouterInt) : (s.setRouter n x).parts = s.parts := rfl
@[simp] theorem setRouter_runc (n : Nat) (x : RouterInt) : (s.setRouter n x).runc = s.runc := rfl
@[simp] theorem setRouter_img (n : Nat) (x : RouterInt) : (s.setRouter n x).img = s.img := rfl
@[simp] theorem setRouter_tempers (n : Nat) (x : RouterInt) : (s.setRouter n x).tempers = s.tempers := rfl
@[simp] theorem setRouter_vaults (n : Nat) (x : RouterInt) : (s.setRouter n x).vaults = s.vaults := rfl
@[simp] theorem setRouter_doms (n : Nat) (x : RouterInt) : (s.setRouter n x).doms = s.doms := rfl
@[simp] theorem setRouter_pwr (n : Nat) (x : RouterInt) : (s.setRouter n x).pwr = s.pwr := rfl
@[simp] theorem setRouter_rst (n : Nat) (x : RouterInt) : (s.setRouter n x).rst = s.rst := rfl
@[simp] theorem setRouter_sec (n : Nat) (x : RouterInt) : (s.setRouter n x).sec = s.sec := rfl
@[simp] theorem setRouter_cfg (n : Nat) (x : RouterInt) : (s.setRouter n x).cfg = s.cfg := rfl
@[simp] theorem setRouter_host (n : Nat) (x : RouterInt) : (s.setRouter n x).host = s.host := rfl
@[simp] theorem setRouter_flashBad (n : Nat) (x : RouterInt) : (s.setRouter n x).flashBad = s.flashBad := rfl
@[simp] theorem setRouter_msgs (n : Nat) (x : RouterInt) : (s.setRouter n x).msgs = s.msgs := rfl
@[simp] theorem setRouter_hqs (n : Nat) (x : RouterInt) : (s.setRouter n x).hqs = s.hqs := rfl
@[simp] theorem setRouter_recv (n : Nat) (x : RouterInt) : (s.setRouter n x).recv = s.recv := rfl
@[simp] theorem setRouter_tnd (n : Nat) (x : RouterInt) : (s.setRouter n x).tnd = s.tnd := rfl
@[simp] theorem setRouter_keep (n : Nat) (x : RouterInt) : (s.setRouter n x).keep = s.keep := rfl
@[simp] theorem setRouter_smc (n : Nat) (x : RouterInt) : (s.setRouter n x).smc = s.smc := rfl
@[simp] theorem setRouter_ldl (n : Nat) (x : RouterInt) : (s.setRouter n x).ldl = s.ldl := rfl
@[simp] theorem setRouter_tmr (n : Nat) (x : RouterInt) : (s.setRouter n x).tmr = s.tmr := rfl
@[simp] theorem setRouter_spr (n : Nat) (x : RouterInt) : (s.setRouter n x).spr = s.spr := rfl
@[simp] theorem setRouter_vrn (n : Nat) (x : RouterInt) : (s.setRouter n x).vrn = s.vrn := rfl

@[simp] theorem setPort_pending (n : Nat) (x : Port) : (s.setPort n x).pending = s.pending := rfl
@[simp] theorem setPort_draws (n : Nat) (x : Port) : (s.setPort n x).draws = s.draws := rfl
@[simp] theorem setPort_time (n : Nat) (x : Port) : (s.setPort n x).time = s.time := rfl
@[simp] theorem setPort_regs (n : Nat) (x : Port) : (s.setPort n x).regs = s.regs := rfl
@[simp] theorem setPort_latches (n : Nat) (x : Port) : (s.setPort n x).latches = s.latches := rfl
@[simp] theorem setPort_mem (n : Nat) (x : Port) : (s.setPort n x).mem = s.mem := rfl
@[simp] theorem setPort_upsets (n : Nat) (x : Port) : (s.setPort n x).upsets = s.upsets := rfl
@[simp] theorem setPort_poison (n : Nat) (x : Port) : (s.setPort n x).poison = s.poison := rfl
@[simp] theorem setPort_rdata (n : Nat) (x : Port) : (s.setPort n x).rdata = s.rdata := rfl
@[simp] theorem setPort_wires (n : Nat) (x : Port) : (s.setPort n x).wires = s.wires := rfl
@[simp] theorem setPort_credits (n : Nat) (x : Port) : (s.setPort n x).credits = s.credits := rfl
@[simp] theorem setPort_owed (n : Nat) (x : Port) : (s.setPort n x).owed = s.owed := rfl
@[simp] theorem setPort_tokens (n : Nat) (x : Port) : (s.setPort n x).tokens = s.tokens := rfl
@[simp] theorem setPort_routers (n : Nat) (x : Port) : (s.setPort n x).routers = s.routers := rfl
@[simp] theorem setPort_cores (n : Nat) (x : Port) : (s.setPort n x).cores = s.cores := rfl
@[simp] theorem setPort_parts (n : Nat) (x : Port) : (s.setPort n x).parts = s.parts := rfl
@[simp] theorem setPort_runc (n : Nat) (x : Port) : (s.setPort n x).runc = s.runc := rfl
@[simp] theorem setPort_img (n : Nat) (x : Port) : (s.setPort n x).img = s.img := rfl
@[simp] theorem setPort_tempers (n : Nat) (x : Port) : (s.setPort n x).tempers = s.tempers := rfl
@[simp] theorem setPort_vaults (n : Nat) (x : Port) : (s.setPort n x).vaults = s.vaults := rfl
@[simp] theorem setPort_doms (n : Nat) (x : Port) : (s.setPort n x).doms = s.doms := rfl
@[simp] theorem setPort_pwr (n : Nat) (x : Port) : (s.setPort n x).pwr = s.pwr := rfl
@[simp] theorem setPort_rst (n : Nat) (x : Port) : (s.setPort n x).rst = s.rst := rfl
@[simp] theorem setPort_sec (n : Nat) (x : Port) : (s.setPort n x).sec = s.sec := rfl
@[simp] theorem setPort_cfg (n : Nat) (x : Port) : (s.setPort n x).cfg = s.cfg := rfl
@[simp] theorem setPort_host (n : Nat) (x : Port) : (s.setPort n x).host = s.host := rfl
@[simp] theorem setPort_flashBad (n : Nat) (x : Port) : (s.setPort n x).flashBad = s.flashBad := rfl
@[simp] theorem setPort_msgs (n : Nat) (x : Port) : (s.setPort n x).msgs = s.msgs := rfl
@[simp] theorem setPort_hqs (n : Nat) (x : Port) : (s.setPort n x).hqs = s.hqs := rfl
@[simp] theorem setPort_recv (n : Nat) (x : Port) : (s.setPort n x).recv = s.recv := rfl
@[simp] theorem setPort_tnd (n : Nat) (x : Port) : (s.setPort n x).tnd = s.tnd := rfl
@[simp] theorem setPort_keep (n : Nat) (x : Port) : (s.setPort n x).keep = s.keep := rfl
@[simp] theorem setPort_smc (n : Nat) (x : Port) : (s.setPort n x).smc = s.smc := rfl
@[simp] theorem setPort_ldl (n : Nat) (x : Port) : (s.setPort n x).ldl = s.ldl := rfl
@[simp] theorem setPort_tmr (n : Nat) (x : Port) : (s.setPort n x).tmr = s.tmr := rfl
@[simp] theorem setPort_spr (n : Nat) (x : Port) : (s.setPort n x).spr = s.spr := rfl
@[simp] theorem setPort_vrn (n : Nat) (x : Port) : (s.setPort n x).vrn = s.vrn := rfl

@[simp] theorem setTemper_pending (p : Nat) (x : TemperInt) : (s.setTemper p x).pending = s.pending := rfl
@[simp] theorem setTemper_draws (p : Nat) (x : TemperInt) : (s.setTemper p x).draws = s.draws := rfl
@[simp] theorem setTemper_time (p : Nat) (x : TemperInt) : (s.setTemper p x).time = s.time := rfl
@[simp] theorem setTemper_regs (p : Nat) (x : TemperInt) : (s.setTemper p x).regs = s.regs := rfl
@[simp] theorem setTemper_latches (p : Nat) (x : TemperInt) : (s.setTemper p x).latches = s.latches := rfl
@[simp] theorem setTemper_mem (p : Nat) (x : TemperInt) : (s.setTemper p x).mem = s.mem := rfl
@[simp] theorem setTemper_upsets (p : Nat) (x : TemperInt) : (s.setTemper p x).upsets = s.upsets := rfl
@[simp] theorem setTemper_poison (p : Nat) (x : TemperInt) : (s.setTemper p x).poison = s.poison := rfl
@[simp] theorem setTemper_rdata (p : Nat) (x : TemperInt) : (s.setTemper p x).rdata = s.rdata := rfl
@[simp] theorem setTemper_wires (p : Nat) (x : TemperInt) : (s.setTemper p x).wires = s.wires := rfl
@[simp] theorem setTemper_credits (p : Nat) (x : TemperInt) : (s.setTemper p x).credits = s.credits := rfl
@[simp] theorem setTemper_owed (p : Nat) (x : TemperInt) : (s.setTemper p x).owed = s.owed := rfl
@[simp] theorem setTemper_tokens (p : Nat) (x : TemperInt) : (s.setTemper p x).tokens = s.tokens := rfl
@[simp] theorem setTemper_routers (p : Nat) (x : TemperInt) : (s.setTemper p x).routers = s.routers := rfl
@[simp] theorem setTemper_ports (p : Nat) (x : TemperInt) : (s.setTemper p x).ports = s.ports := rfl
@[simp] theorem setTemper_cores (p : Nat) (x : TemperInt) : (s.setTemper p x).cores = s.cores := rfl
@[simp] theorem setTemper_parts (p : Nat) (x : TemperInt) : (s.setTemper p x).parts = s.parts := rfl
@[simp] theorem setTemper_runc (p : Nat) (x : TemperInt) : (s.setTemper p x).runc = s.runc := rfl
@[simp] theorem setTemper_img (p : Nat) (x : TemperInt) : (s.setTemper p x).img = s.img := rfl
@[simp] theorem setTemper_vaults (p : Nat) (x : TemperInt) : (s.setTemper p x).vaults = s.vaults := rfl
@[simp] theorem setTemper_doms (p : Nat) (x : TemperInt) : (s.setTemper p x).doms = s.doms := rfl
@[simp] theorem setTemper_pwr (p : Nat) (x : TemperInt) : (s.setTemper p x).pwr = s.pwr := rfl
@[simp] theorem setTemper_rst (p : Nat) (x : TemperInt) : (s.setTemper p x).rst = s.rst := rfl
@[simp] theorem setTemper_sec (p : Nat) (x : TemperInt) : (s.setTemper p x).sec = s.sec := rfl
@[simp] theorem setTemper_cfg (p : Nat) (x : TemperInt) : (s.setTemper p x).cfg = s.cfg := rfl
@[simp] theorem setTemper_host (p : Nat) (x : TemperInt) : (s.setTemper p x).host = s.host := rfl
@[simp] theorem setTemper_flashBad (p : Nat) (x : TemperInt) : (s.setTemper p x).flashBad = s.flashBad := rfl
@[simp] theorem setTemper_msgs (p : Nat) (x : TemperInt) : (s.setTemper p x).msgs = s.msgs := rfl
@[simp] theorem setTemper_hqs (p : Nat) (x : TemperInt) : (s.setTemper p x).hqs = s.hqs := rfl
@[simp] theorem setTemper_recv (p : Nat) (x : TemperInt) : (s.setTemper p x).recv = s.recv := rfl
@[simp] theorem setTemper_tnd (p : Nat) (x : TemperInt) : (s.setTemper p x).tnd = s.tnd := rfl
@[simp] theorem setTemper_keep (p : Nat) (x : TemperInt) : (s.setTemper p x).keep = s.keep := rfl
@[simp] theorem setTemper_smc (p : Nat) (x : TemperInt) : (s.setTemper p x).smc = s.smc := rfl
@[simp] theorem setTemper_ldl (p : Nat) (x : TemperInt) : (s.setTemper p x).ldl = s.ldl := rfl
@[simp] theorem setTemper_tmr (p : Nat) (x : TemperInt) : (s.setTemper p x).tmr = s.tmr := rfl
@[simp] theorem setTemper_spr (p : Nat) (x : TemperInt) : (s.setTemper p x).spr = s.spr := rfl
@[simp] theorem setTemper_vrn (p : Nat) (x : TemperInt) : (s.setTemper p x).vrn = s.vrn := rfl

@[simp] theorem setPart_pending (n : Nat) (x : Part) : (s.setPart n x).pending = s.pending := rfl
@[simp] theorem setPart_draws (n : Nat) (x : Part) : (s.setPart n x).draws = s.draws := rfl
@[simp] theorem setPart_time (n : Nat) (x : Part) : (s.setPart n x).time = s.time := rfl
@[simp] theorem setPart_regs (n : Nat) (x : Part) : (s.setPart n x).regs = s.regs := rfl
@[simp] theorem setPart_latches (n : Nat) (x : Part) : (s.setPart n x).latches = s.latches := rfl
@[simp] theorem setPart_mem (n : Nat) (x : Part) : (s.setPart n x).mem = s.mem := rfl
@[simp] theorem setPart_upsets (n : Nat) (x : Part) : (s.setPart n x).upsets = s.upsets := rfl
@[simp] theorem setPart_poison (n : Nat) (x : Part) : (s.setPart n x).poison = s.poison := rfl
@[simp] theorem setPart_rdata (n : Nat) (x : Part) : (s.setPart n x).rdata = s.rdata := rfl
@[simp] theorem setPart_wires (n : Nat) (x : Part) : (s.setPart n x).wires = s.wires := rfl
@[simp] theorem setPart_credits (n : Nat) (x : Part) : (s.setPart n x).credits = s.credits := rfl
@[simp] theorem setPart_owed (n : Nat) (x : Part) : (s.setPart n x).owed = s.owed := rfl
@[simp] theorem setPart_tokens (n : Nat) (x : Part) : (s.setPart n x).tokens = s.tokens := rfl
@[simp] theorem setPart_routers (n : Nat) (x : Part) : (s.setPart n x).routers = s.routers := rfl
@[simp] theorem setPart_ports (n : Nat) (x : Part) : (s.setPart n x).ports = s.ports := rfl
@[simp] theorem setPart_cores (n : Nat) (x : Part) : (s.setPart n x).cores = s.cores := rfl
@[simp] theorem setPart_runc (n : Nat) (x : Part) : (s.setPart n x).runc = s.runc := rfl
@[simp] theorem setPart_img (n : Nat) (x : Part) : (s.setPart n x).img = s.img := rfl
@[simp] theorem setPart_tempers (n : Nat) (x : Part) : (s.setPart n x).tempers = s.tempers := rfl
@[simp] theorem setPart_vaults (n : Nat) (x : Part) : (s.setPart n x).vaults = s.vaults := rfl
@[simp] theorem setPart_doms (n : Nat) (x : Part) : (s.setPart n x).doms = s.doms := rfl
@[simp] theorem setPart_pwr (n : Nat) (x : Part) : (s.setPart n x).pwr = s.pwr := rfl
@[simp] theorem setPart_rst (n : Nat) (x : Part) : (s.setPart n x).rst = s.rst := rfl
@[simp] theorem setPart_sec (n : Nat) (x : Part) : (s.setPart n x).sec = s.sec := rfl
@[simp] theorem setPart_cfg (n : Nat) (x : Part) : (s.setPart n x).cfg = s.cfg := rfl
@[simp] theorem setPart_host (n : Nat) (x : Part) : (s.setPart n x).host = s.host := rfl
@[simp] theorem setPart_flashBad (n : Nat) (x : Part) : (s.setPart n x).flashBad = s.flashBad := rfl
@[simp] theorem setPart_msgs (n : Nat) (x : Part) : (s.setPart n x).msgs = s.msgs := rfl
@[simp] theorem setPart_hqs (n : Nat) (x : Part) : (s.setPart n x).hqs = s.hqs := rfl
@[simp] theorem setPart_recv (n : Nat) (x : Part) : (s.setPart n x).recv = s.recv := rfl
@[simp] theorem setPart_tnd (n : Nat) (x : Part) : (s.setPart n x).tnd = s.tnd := rfl
@[simp] theorem setPart_keep (n : Nat) (x : Part) : (s.setPart n x).keep = s.keep := rfl
@[simp] theorem setPart_smc (n : Nat) (x : Part) : (s.setPart n x).smc = s.smc := rfl
@[simp] theorem setPart_ldl (n : Nat) (x : Part) : (s.setPart n x).ldl = s.ldl := rfl
@[simp] theorem setPart_tmr (n : Nat) (x : Part) : (s.setPart n x).tmr = s.tmr := rfl
@[simp] theorem setPart_spr (n : Nat) (x : Part) : (s.setPart n x).spr = s.spr := rfl
@[simp] theorem setPart_vrn (n : Nat) (x : Part) : (s.setPart n x).vrn = s.vrn := rfl

@[simp] theorem setLink_pending (k : Nat) (x : LinkInt) : (s.setLink k x).pending = s.pending := rfl
@[simp] theorem setLink_draws (k : Nat) (x : LinkInt) : (s.setLink k x).draws = s.draws := rfl
@[simp] theorem setLink_time (k : Nat) (x : LinkInt) : (s.setLink k x).time = s.time := rfl
@[simp] theorem setLink_regs (k : Nat) (x : LinkInt) : (s.setLink k x).regs = s.regs := rfl
@[simp] theorem setLink_latches (k : Nat) (x : LinkInt) : (s.setLink k x).latches = s.latches := rfl
@[simp] theorem setLink_mem (k : Nat) (x : LinkInt) : (s.setLink k x).mem = s.mem := rfl
@[simp] theorem setLink_upsets (k : Nat) (x : LinkInt) : (s.setLink k x).upsets = s.upsets := rfl
@[simp] theorem setLink_poison (k : Nat) (x : LinkInt) : (s.setLink k x).poison = s.poison := rfl
@[simp] theorem setLink_rdata (k : Nat) (x : LinkInt) : (s.setLink k x).rdata = s.rdata := rfl
@[simp] theorem setLink_wires (k : Nat) (x : LinkInt) : (s.setLink k x).wires = s.wires := rfl
@[simp] theorem setLink_credits (k : Nat) (x : LinkInt) : (s.setLink k x).credits = s.credits := rfl
@[simp] theorem setLink_owed (k : Nat) (x : LinkInt) : (s.setLink k x).owed = s.owed := rfl
@[simp] theorem setLink_tokens (k : Nat) (x : LinkInt) : (s.setLink k x).tokens = s.tokens := rfl
@[simp] theorem setLink_routers (k : Nat) (x : LinkInt) : (s.setLink k x).routers = s.routers := rfl
@[simp] theorem setLink_ports (k : Nat) (x : LinkInt) : (s.setLink k x).ports = s.ports := rfl
@[simp] theorem setLink_cores (k : Nat) (x : LinkInt) : (s.setLink k x).cores = s.cores := rfl
@[simp] theorem setLink_parts (k : Nat) (x : LinkInt) : (s.setLink k x).parts = s.parts := rfl
@[simp] theorem setLink_runc (k : Nat) (x : LinkInt) : (s.setLink k x).runc = s.runc := rfl
@[simp] theorem setLink_img (k : Nat) (x : LinkInt) : (s.setLink k x).img = s.img := rfl
@[simp] theorem setLink_tempers (k : Nat) (x : LinkInt) : (s.setLink k x).tempers = s.tempers := rfl
@[simp] theorem setLink_vaults (k : Nat) (x : LinkInt) : (s.setLink k x).vaults = s.vaults := rfl
@[simp] theorem setLink_doms (k : Nat) (x : LinkInt) : (s.setLink k x).doms = s.doms := rfl
@[simp] theorem setLink_pwr (k : Nat) (x : LinkInt) : (s.setLink k x).pwr = s.pwr := rfl
@[simp] theorem setLink_rst (k : Nat) (x : LinkInt) : (s.setLink k x).rst = s.rst := rfl
@[simp] theorem setLink_sec (k : Nat) (x : LinkInt) : (s.setLink k x).sec = s.sec := rfl
@[simp] theorem setLink_cfg (k : Nat) (x : LinkInt) : (s.setLink k x).cfg = s.cfg := rfl
@[simp] theorem setLink_host (k : Nat) (x : LinkInt) : (s.setLink k x).host = s.host := rfl
@[simp] theorem setLink_flashBad (k : Nat) (x : LinkInt) : (s.setLink k x).flashBad = s.flashBad := rfl
@[simp] theorem setLink_msgs (k : Nat) (x : LinkInt) : (s.setLink k x).msgs = s.msgs := rfl
@[simp] theorem setLink_hqs (k : Nat) (x : LinkInt) : (s.setLink k x).hqs = s.hqs := rfl
@[simp] theorem setLink_recv (k : Nat) (x : LinkInt) : (s.setLink k x).recv = s.recv := rfl
@[simp] theorem setLink_tnd (k : Nat) (x : LinkInt) : (s.setLink k x).tnd = s.tnd := rfl
@[simp] theorem setLink_keep (k : Nat) (x : LinkInt) : (s.setLink k x).keep = s.keep := rfl
@[simp] theorem setLink_smc (k : Nat) (x : LinkInt) : (s.setLink k x).smc = s.smc := rfl
@[simp] theorem setLink_ldl (k : Nat) (x : LinkInt) : (s.setLink k x).ldl = s.ldl := rfl
@[simp] theorem setLink_tmr (k : Nat) (x : LinkInt) : (s.setLink k x).tmr = s.tmr := rfl
@[simp] theorem setLink_vrn (k : Nat) (x : LinkInt) : (s.setLink k x).vrn = s.vrn := rfl

@[simp] theorem setDom_pending (d : Nat) (x : DomInt) : (s.setDom d x).pending = s.pending := rfl
@[simp] theorem setDom_draws (d : Nat) (x : DomInt) : (s.setDom d x).draws = s.draws := rfl
@[simp] theorem setDom_time (d : Nat) (x : DomInt) : (s.setDom d x).time = s.time := rfl
@[simp] theorem setDom_regs (d : Nat) (x : DomInt) : (s.setDom d x).regs = s.regs := rfl
@[simp] theorem setDom_latches (d : Nat) (x : DomInt) : (s.setDom d x).latches = s.latches := rfl
@[simp] theorem setDom_mem (d : Nat) (x : DomInt) : (s.setDom d x).mem = s.mem := rfl
@[simp] theorem setDom_upsets (d : Nat) (x : DomInt) : (s.setDom d x).upsets = s.upsets := rfl
@[simp] theorem setDom_poison (d : Nat) (x : DomInt) : (s.setDom d x).poison = s.poison := rfl
@[simp] theorem setDom_rdata (d : Nat) (x : DomInt) : (s.setDom d x).rdata = s.rdata := rfl
@[simp] theorem setDom_wires (d : Nat) (x : DomInt) : (s.setDom d x).wires = s.wires := rfl
@[simp] theorem setDom_credits (d : Nat) (x : DomInt) : (s.setDom d x).credits = s.credits := rfl
@[simp] theorem setDom_owed (d : Nat) (x : DomInt) : (s.setDom d x).owed = s.owed := rfl
@[simp] theorem setDom_tokens (d : Nat) (x : DomInt) : (s.setDom d x).tokens = s.tokens := rfl
@[simp] theorem setDom_routers (d : Nat) (x : DomInt) : (s.setDom d x).routers = s.routers := rfl
@[simp] theorem setDom_ports (d : Nat) (x : DomInt) : (s.setDom d x).ports = s.ports := rfl
@[simp] theorem setDom_cores (d : Nat) (x : DomInt) : (s.setDom d x).cores = s.cores := rfl
@[simp] theorem setDom_parts (d : Nat) (x : DomInt) : (s.setDom d x).parts = s.parts := rfl
@[simp] theorem setDom_runc (d : Nat) (x : DomInt) : (s.setDom d x).runc = s.runc := rfl
@[simp] theorem setDom_img (d : Nat) (x : DomInt) : (s.setDom d x).img = s.img := rfl
@[simp] theorem setDom_tempers (d : Nat) (x : DomInt) : (s.setDom d x).tempers = s.tempers := rfl
@[simp] theorem setDom_vaults (d : Nat) (x : DomInt) : (s.setDom d x).vaults = s.vaults := rfl
@[simp] theorem setDom_pwr (d : Nat) (x : DomInt) : (s.setDom d x).pwr = s.pwr := rfl
@[simp] theorem setDom_rst (d : Nat) (x : DomInt) : (s.setDom d x).rst = s.rst := rfl
@[simp] theorem setDom_sec (d : Nat) (x : DomInt) : (s.setDom d x).sec = s.sec := rfl
@[simp] theorem setDom_cfg (d : Nat) (x : DomInt) : (s.setDom d x).cfg = s.cfg := rfl
@[simp] theorem setDom_host (d : Nat) (x : DomInt) : (s.setDom d x).host = s.host := rfl
@[simp] theorem setDom_flashBad (d : Nat) (x : DomInt) : (s.setDom d x).flashBad = s.flashBad := rfl
@[simp] theorem setDom_msgs (d : Nat) (x : DomInt) : (s.setDom d x).msgs = s.msgs := rfl
@[simp] theorem setDom_hqs (d : Nat) (x : DomInt) : (s.setDom d x).hqs = s.hqs := rfl
@[simp] theorem setDom_recv (d : Nat) (x : DomInt) : (s.setDom d x).recv = s.recv := rfl
@[simp] theorem setDom_tnd (d : Nat) (x : DomInt) : (s.setDom d x).tnd = s.tnd := rfl
@[simp] theorem setDom_keep (d : Nat) (x : DomInt) : (s.setDom d x).keep = s.keep := rfl
@[simp] theorem setDom_smc (d : Nat) (x : DomInt) : (s.setDom d x).smc = s.smc := rfl
@[simp] theorem setDom_ldl (d : Nat) (x : DomInt) : (s.setDom d x).ldl = s.ldl := rfl
@[simp] theorem setDom_tmr (d : Nat) (x : DomInt) : (s.setDom d x).tmr = s.tmr := rfl
@[simp] theorem setDom_spr (d : Nat) (x : DomInt) : (s.setDom d x).spr = s.spr := rfl
@[simp] theorem setDom_vrn (d : Nat) (x : DomInt) : (s.setDom d x).vrn = s.vrn := rfl

@[simp] theorem setVault_pending (p : Nat) (x : VaultInt) : (s.setVault p x).pending = s.pending := rfl
@[simp] theorem setVault_draws (p : Nat) (x : VaultInt) : (s.setVault p x).draws = s.draws := rfl
@[simp] theorem setVault_time (p : Nat) (x : VaultInt) : (s.setVault p x).time = s.time := rfl
@[simp] theorem setVault_regs (p : Nat) (x : VaultInt) : (s.setVault p x).regs = s.regs := rfl
@[simp] theorem setVault_latches (p : Nat) (x : VaultInt) : (s.setVault p x).latches = s.latches := rfl
@[simp] theorem setVault_mem (p : Nat) (x : VaultInt) : (s.setVault p x).mem = s.mem := rfl
@[simp] theorem setVault_upsets (p : Nat) (x : VaultInt) : (s.setVault p x).upsets = s.upsets := rfl
@[simp] theorem setVault_poison (p : Nat) (x : VaultInt) : (s.setVault p x).poison = s.poison := rfl
@[simp] theorem setVault_rdata (p : Nat) (x : VaultInt) : (s.setVault p x).rdata = s.rdata := rfl
@[simp] theorem setVault_wires (p : Nat) (x : VaultInt) : (s.setVault p x).wires = s.wires := rfl
@[simp] theorem setVault_credits (p : Nat) (x : VaultInt) : (s.setVault p x).credits = s.credits := rfl
@[simp] theorem setVault_owed (p : Nat) (x : VaultInt) : (s.setVault p x).owed = s.owed := rfl
@[simp] theorem setVault_tokens (p : Nat) (x : VaultInt) : (s.setVault p x).tokens = s.tokens := rfl
@[simp] theorem setVault_routers (p : Nat) (x : VaultInt) : (s.setVault p x).routers = s.routers := rfl
@[simp] theorem setVault_ports (p : Nat) (x : VaultInt) : (s.setVault p x).ports = s.ports := rfl
@[simp] theorem setVault_cores (p : Nat) (x : VaultInt) : (s.setVault p x).cores = s.cores := rfl
@[simp] theorem setVault_parts (p : Nat) (x : VaultInt) : (s.setVault p x).parts = s.parts := rfl
@[simp] theorem setVault_runc (p : Nat) (x : VaultInt) : (s.setVault p x).runc = s.runc := rfl
@[simp] theorem setVault_img (p : Nat) (x : VaultInt) : (s.setVault p x).img = s.img := rfl
@[simp] theorem setVault_tempers (p : Nat) (x : VaultInt) : (s.setVault p x).tempers = s.tempers := rfl
@[simp] theorem setVault_doms (p : Nat) (x : VaultInt) : (s.setVault p x).doms = s.doms := rfl
@[simp] theorem setVault_pwr (p : Nat) (x : VaultInt) : (s.setVault p x).pwr = s.pwr := rfl
@[simp] theorem setVault_rst (p : Nat) (x : VaultInt) : (s.setVault p x).rst = s.rst := rfl
@[simp] theorem setVault_sec (p : Nat) (x : VaultInt) : (s.setVault p x).sec = s.sec := rfl
@[simp] theorem setVault_cfg (p : Nat) (x : VaultInt) : (s.setVault p x).cfg = s.cfg := rfl
@[simp] theorem setVault_host (p : Nat) (x : VaultInt) : (s.setVault p x).host = s.host := rfl
@[simp] theorem setVault_flashBad (p : Nat) (x : VaultInt) : (s.setVault p x).flashBad = s.flashBad := rfl
@[simp] theorem setVault_msgs (p : Nat) (x : VaultInt) : (s.setVault p x).msgs = s.msgs := rfl
@[simp] theorem setVault_hqs (p : Nat) (x : VaultInt) : (s.setVault p x).hqs = s.hqs := rfl
@[simp] theorem setVault_recv (p : Nat) (x : VaultInt) : (s.setVault p x).recv = s.recv := rfl
@[simp] theorem setVault_tnd (p : Nat) (x : VaultInt) : (s.setVault p x).tnd = s.tnd := rfl
@[simp] theorem setVault_keep (p : Nat) (x : VaultInt) : (s.setVault p x).keep = s.keep := rfl
@[simp] theorem setVault_smc (p : Nat) (x : VaultInt) : (s.setVault p x).smc = s.smc := rfl
@[simp] theorem setVault_ldl (p : Nat) (x : VaultInt) : (s.setVault p x).ldl = s.ldl := rfl
@[simp] theorem setVault_tmr (p : Nat) (x : VaultInt) : (s.setVault p x).tmr = s.tmr := rfl
@[simp] theorem setVault_spr (p : Nat) (x : VaultInt) : (s.setVault p x).spr = s.spr := rfl
@[simp] theorem setVault_vrn (p : Nat) (x : VaultInt) : (s.setVault p x).vrn = s.vrn := rfl

@[simp] theorem setHq_pending (q : Nat) (x : HqInt) : (s.setHq q x).pending = s.pending := rfl
@[simp] theorem setHq_draws (q : Nat) (x : HqInt) : (s.setHq q x).draws = s.draws := rfl
@[simp] theorem setHq_time (q : Nat) (x : HqInt) : (s.setHq q x).time = s.time := rfl
@[simp] theorem setHq_regs (q : Nat) (x : HqInt) : (s.setHq q x).regs = s.regs := rfl
@[simp] theorem setHq_latches (q : Nat) (x : HqInt) : (s.setHq q x).latches = s.latches := rfl
@[simp] theorem setHq_mem (q : Nat) (x : HqInt) : (s.setHq q x).mem = s.mem := rfl
@[simp] theorem setHq_upsets (q : Nat) (x : HqInt) : (s.setHq q x).upsets = s.upsets := rfl
@[simp] theorem setHq_poison (q : Nat) (x : HqInt) : (s.setHq q x).poison = s.poison := rfl
@[simp] theorem setHq_rdata (q : Nat) (x : HqInt) : (s.setHq q x).rdata = s.rdata := rfl
@[simp] theorem setHq_wires (q : Nat) (x : HqInt) : (s.setHq q x).wires = s.wires := rfl
@[simp] theorem setHq_credits (q : Nat) (x : HqInt) : (s.setHq q x).credits = s.credits := rfl
@[simp] theorem setHq_owed (q : Nat) (x : HqInt) : (s.setHq q x).owed = s.owed := rfl
@[simp] theorem setHq_tokens (q : Nat) (x : HqInt) : (s.setHq q x).tokens = s.tokens := rfl
@[simp] theorem setHq_routers (q : Nat) (x : HqInt) : (s.setHq q x).routers = s.routers := rfl
@[simp] theorem setHq_ports (q : Nat) (x : HqInt) : (s.setHq q x).ports = s.ports := rfl
@[simp] theorem setHq_cores (q : Nat) (x : HqInt) : (s.setHq q x).cores = s.cores := rfl
@[simp] theorem setHq_parts (q : Nat) (x : HqInt) : (s.setHq q x).parts = s.parts := rfl
@[simp] theorem setHq_runc (q : Nat) (x : HqInt) : (s.setHq q x).runc = s.runc := rfl
@[simp] theorem setHq_img (q : Nat) (x : HqInt) : (s.setHq q x).img = s.img := rfl
@[simp] theorem setHq_tempers (q : Nat) (x : HqInt) : (s.setHq q x).tempers = s.tempers := rfl
@[simp] theorem setHq_vaults (q : Nat) (x : HqInt) : (s.setHq q x).vaults = s.vaults := rfl
@[simp] theorem setHq_doms (q : Nat) (x : HqInt) : (s.setHq q x).doms = s.doms := rfl
@[simp] theorem setHq_pwr (q : Nat) (x : HqInt) : (s.setHq q x).pwr = s.pwr := rfl
@[simp] theorem setHq_rst (q : Nat) (x : HqInt) : (s.setHq q x).rst = s.rst := rfl
@[simp] theorem setHq_sec (q : Nat) (x : HqInt) : (s.setHq q x).sec = s.sec := rfl
@[simp] theorem setHq_cfg (q : Nat) (x : HqInt) : (s.setHq q x).cfg = s.cfg := rfl
@[simp] theorem setHq_host (q : Nat) (x : HqInt) : (s.setHq q x).host = s.host := rfl
@[simp] theorem setHq_flashBad (q : Nat) (x : HqInt) : (s.setHq q x).flashBad = s.flashBad := rfl
@[simp] theorem setHq_msgs (q : Nat) (x : HqInt) : (s.setHq q x).msgs = s.msgs := rfl
@[simp] theorem setHq_recv (q : Nat) (x : HqInt) : (s.setHq q x).recv = s.recv := rfl
@[simp] theorem setHq_tnd (q : Nat) (x : HqInt) : (s.setHq q x).tnd = s.tnd := rfl
@[simp] theorem setHq_keep (q : Nat) (x : HqInt) : (s.setHq q x).keep = s.keep := rfl
@[simp] theorem setHq_smc (q : Nat) (x : HqInt) : (s.setHq q x).smc = s.smc := rfl
@[simp] theorem setHq_ldl (q : Nat) (x : HqInt) : (s.setHq q x).ldl = s.ldl := rfl
@[simp] theorem setHq_tmr (q : Nat) (x : HqInt) : (s.setHq q x).tmr = s.tmr := rfl
@[simp] theorem setHq_spr (q : Nat) (x : HqInt) : (s.setHq q x).spr = s.spr := rfl
@[simp] theorem setHq_vrn (q : Nat) (x : HqInt) : (s.setHq q x).vrn = s.vrn := rfl

@[simp] theorem setCase_pending (k : Nat) (x : CaseInt) : (s.setCase k x).pending = s.pending := rfl
@[simp] theorem setCase_draws (k : Nat) (x : CaseInt) : (s.setCase k x).draws = s.draws := rfl
@[simp] theorem setCase_time (k : Nat) (x : CaseInt) : (s.setCase k x).time = s.time := rfl
@[simp] theorem setCase_regs (k : Nat) (x : CaseInt) : (s.setCase k x).regs = s.regs := rfl
@[simp] theorem setCase_latches (k : Nat) (x : CaseInt) : (s.setCase k x).latches = s.latches := rfl
@[simp] theorem setCase_mem (k : Nat) (x : CaseInt) : (s.setCase k x).mem = s.mem := rfl
@[simp] theorem setCase_upsets (k : Nat) (x : CaseInt) : (s.setCase k x).upsets = s.upsets := rfl
@[simp] theorem setCase_poison (k : Nat) (x : CaseInt) : (s.setCase k x).poison = s.poison := rfl
@[simp] theorem setCase_rdata (k : Nat) (x : CaseInt) : (s.setCase k x).rdata = s.rdata := rfl
@[simp] theorem setCase_wires (k : Nat) (x : CaseInt) : (s.setCase k x).wires = s.wires := rfl
@[simp] theorem setCase_credits (k : Nat) (x : CaseInt) : (s.setCase k x).credits = s.credits := rfl
@[simp] theorem setCase_owed (k : Nat) (x : CaseInt) : (s.setCase k x).owed = s.owed := rfl
@[simp] theorem setCase_tokens (k : Nat) (x : CaseInt) : (s.setCase k x).tokens = s.tokens := rfl
@[simp] theorem setCase_routers (k : Nat) (x : CaseInt) : (s.setCase k x).routers = s.routers := rfl
@[simp] theorem setCase_ports (k : Nat) (x : CaseInt) : (s.setCase k x).ports = s.ports := rfl
@[simp] theorem setCase_cores (k : Nat) (x : CaseInt) : (s.setCase k x).cores = s.cores := rfl
@[simp] theorem setCase_parts (k : Nat) (x : CaseInt) : (s.setCase k x).parts = s.parts := rfl
@[simp] theorem setCase_runc (k : Nat) (x : CaseInt) : (s.setCase k x).runc = s.runc := rfl
@[simp] theorem setCase_img (k : Nat) (x : CaseInt) : (s.setCase k x).img = s.img := rfl
@[simp] theorem setCase_tempers (k : Nat) (x : CaseInt) : (s.setCase k x).tempers = s.tempers := rfl
@[simp] theorem setCase_vaults (k : Nat) (x : CaseInt) : (s.setCase k x).vaults = s.vaults := rfl
@[simp] theorem setCase_doms (k : Nat) (x : CaseInt) : (s.setCase k x).doms = s.doms := rfl
@[simp] theorem setCase_pwr (k : Nat) (x : CaseInt) : (s.setCase k x).pwr = s.pwr := rfl
@[simp] theorem setCase_rst (k : Nat) (x : CaseInt) : (s.setCase k x).rst = s.rst := rfl
@[simp] theorem setCase_sec (k : Nat) (x : CaseInt) : (s.setCase k x).sec = s.sec := rfl
@[simp] theorem setCase_cfg (k : Nat) (x : CaseInt) : (s.setCase k x).cfg = s.cfg := rfl
@[simp] theorem setCase_host (k : Nat) (x : CaseInt) : (s.setCase k x).host = s.host := rfl
@[simp] theorem setCase_flashBad (k : Nat) (x : CaseInt) : (s.setCase k x).flashBad = s.flashBad := rfl
@[simp] theorem setCase_msgs (k : Nat) (x : CaseInt) : (s.setCase k x).msgs = s.msgs := rfl
@[simp] theorem setCase_hqs (k : Nat) (x : CaseInt) : (s.setCase k x).hqs = s.hqs := rfl
@[simp] theorem setCase_tnd (k : Nat) (x : CaseInt) : (s.setCase k x).tnd = s.tnd := rfl
@[simp] theorem setCase_keep (k : Nat) (x : CaseInt) : (s.setCase k x).keep = s.keep := rfl
@[simp] theorem setCase_smc (k : Nat) (x : CaseInt) : (s.setCase k x).smc = s.smc := rfl
@[simp] theorem setCase_ldl (k : Nat) (x : CaseInt) : (s.setCase k x).ldl = s.ldl := rfl
@[simp] theorem setCase_tmr (k : Nat) (x : CaseInt) : (s.setCase k x).tmr = s.tmr := rfl
@[simp] theorem setCase_spr (k : Nat) (x : CaseInt) : (s.setCase k x).spr = s.spr := rfl
@[simp] theorem setCase_vrn (k : Nat) (x : CaseInt) : (s.setCase k x).vrn = s.vrn := rfl

@[simp] theorem setSec_pending (x : SecInt) : (s.setSec x).pending = s.pending := rfl
@[simp] theorem setSec_draws (x : SecInt) : (s.setSec x).draws = s.draws := rfl
@[simp] theorem setSec_time (x : SecInt) : (s.setSec x).time = s.time := rfl
@[simp] theorem setSec_regs (x : SecInt) : (s.setSec x).regs = s.regs := rfl
@[simp] theorem setSec_latches (x : SecInt) : (s.setSec x).latches = s.latches := rfl
@[simp] theorem setSec_mem (x : SecInt) : (s.setSec x).mem = s.mem := rfl
@[simp] theorem setSec_upsets (x : SecInt) : (s.setSec x).upsets = s.upsets := rfl
@[simp] theorem setSec_poison (x : SecInt) : (s.setSec x).poison = s.poison := rfl
@[simp] theorem setSec_rdata (x : SecInt) : (s.setSec x).rdata = s.rdata := rfl
@[simp] theorem setSec_wires (x : SecInt) : (s.setSec x).wires = s.wires := rfl
@[simp] theorem setSec_credits (x : SecInt) : (s.setSec x).credits = s.credits := rfl
@[simp] theorem setSec_owed (x : SecInt) : (s.setSec x).owed = s.owed := rfl
@[simp] theorem setSec_tokens (x : SecInt) : (s.setSec x).tokens = s.tokens := rfl
@[simp] theorem setSec_routers (x : SecInt) : (s.setSec x).routers = s.routers := rfl
@[simp] theorem setSec_ports (x : SecInt) : (s.setSec x).ports = s.ports := rfl
@[simp] theorem setSec_cores (x : SecInt) : (s.setSec x).cores = s.cores := rfl
@[simp] theorem setSec_parts (x : SecInt) : (s.setSec x).parts = s.parts := rfl
@[simp] theorem setSec_runc (x : SecInt) : (s.setSec x).runc = s.runc := rfl
@[simp] theorem setSec_img (x : SecInt) : (s.setSec x).img = s.img := rfl
@[simp] theorem setSec_tempers (x : SecInt) : (s.setSec x).tempers = s.tempers := rfl
@[simp] theorem setSec_vaults (x : SecInt) : (s.setSec x).vaults = s.vaults := rfl
@[simp] theorem setSec_doms (x : SecInt) : (s.setSec x).doms = s.doms := rfl
@[simp] theorem setSec_pwr (x : SecInt) : (s.setSec x).pwr = s.pwr := rfl
@[simp] theorem setSec_rst (x : SecInt) : (s.setSec x).rst = s.rst := rfl
@[simp] theorem setSec_cfg (x : SecInt) : (s.setSec x).cfg = s.cfg := rfl
@[simp] theorem setSec_host (x : SecInt) : (s.setSec x).host = s.host := rfl
@[simp] theorem setSec_flashBad (x : SecInt) : (s.setSec x).flashBad = s.flashBad := rfl
@[simp] theorem setSec_msgs (x : SecInt) : (s.setSec x).msgs = s.msgs := rfl
@[simp] theorem setSec_hqs (x : SecInt) : (s.setSec x).hqs = s.hqs := rfl
@[simp] theorem setSec_recv (x : SecInt) : (s.setSec x).recv = s.recv := rfl
@[simp] theorem setSec_tnd (x : SecInt) : (s.setSec x).tnd = s.tnd := rfl
@[simp] theorem setSec_keep (x : SecInt) : (s.setSec x).keep = s.keep := rfl
@[simp] theorem setSec_smc (x : SecInt) : (s.setSec x).smc = s.smc := rfl
@[simp] theorem setSec_ldl (x : SecInt) : (s.setSec x).ldl = s.ldl := rfl
@[simp] theorem setSec_tmr (x : SecInt) : (s.setSec x).tmr = s.tmr := rfl
@[simp] theorem setSec_spr (x : SecInt) : (s.setSec x).spr = s.spr := rfl
@[simp] theorem setSec_vrn (x : SecInt) : (s.setSec x).vrn = s.vrn := rfl

@[simp] theorem setJob_pending (j : ImgJob) : (s.setJob j).pending = s.pending := rfl
@[simp] theorem setJob_draws (j : ImgJob) : (s.setJob j).draws = s.draws := rfl
@[simp] theorem setJob_time (j : ImgJob) : (s.setJob j).time = s.time := rfl
@[simp] theorem setJob_regs (j : ImgJob) : (s.setJob j).regs = s.regs := rfl
@[simp] theorem setJob_latches (j : ImgJob) : (s.setJob j).latches = s.latches := rfl
@[simp] theorem setJob_mem (j : ImgJob) : (s.setJob j).mem = s.mem := rfl
@[simp] theorem setJob_upsets (j : ImgJob) : (s.setJob j).upsets = s.upsets := rfl
@[simp] theorem setJob_poison (j : ImgJob) : (s.setJob j).poison = s.poison := rfl
@[simp] theorem setJob_rdata (j : ImgJob) : (s.setJob j).rdata = s.rdata := rfl
@[simp] theorem setJob_wires (j : ImgJob) : (s.setJob j).wires = s.wires := rfl
@[simp] theorem setJob_credits (j : ImgJob) : (s.setJob j).credits = s.credits := rfl
@[simp] theorem setJob_owed (j : ImgJob) : (s.setJob j).owed = s.owed := rfl
@[simp] theorem setJob_tokens (j : ImgJob) : (s.setJob j).tokens = s.tokens := rfl
@[simp] theorem setJob_routers (j : ImgJob) : (s.setJob j).routers = s.routers := rfl
@[simp] theorem setJob_ports (j : ImgJob) : (s.setJob j).ports = s.ports := rfl
@[simp] theorem setJob_cores (j : ImgJob) : (s.setJob j).cores = s.cores := rfl
@[simp] theorem setJob_parts (j : ImgJob) : (s.setJob j).parts = s.parts := rfl
@[simp] theorem setJob_runc (j : ImgJob) : (s.setJob j).runc = s.runc := rfl
@[simp] theorem setJob_tempers (j : ImgJob) : (s.setJob j).tempers = s.tempers := rfl
@[simp] theorem setJob_vaults (j : ImgJob) : (s.setJob j).vaults = s.vaults := rfl
@[simp] theorem setJob_doms (j : ImgJob) : (s.setJob j).doms = s.doms := rfl
@[simp] theorem setJob_pwr (j : ImgJob) : (s.setJob j).pwr = s.pwr := rfl
@[simp] theorem setJob_rst (j : ImgJob) : (s.setJob j).rst = s.rst := rfl
@[simp] theorem setJob_sec (j : ImgJob) : (s.setJob j).sec = s.sec := rfl
@[simp] theorem setJob_cfg (j : ImgJob) : (s.setJob j).cfg = s.cfg := rfl
@[simp] theorem setJob_host (j : ImgJob) : (s.setJob j).host = s.host := rfl
@[simp] theorem setJob_flashBad (j : ImgJob) : (s.setJob j).flashBad = s.flashBad := rfl
@[simp] theorem setJob_msgs (j : ImgJob) : (s.setJob j).msgs = s.msgs := rfl
@[simp] theorem setJob_hqs (j : ImgJob) : (s.setJob j).hqs = s.hqs := rfl
@[simp] theorem setJob_recv (j : ImgJob) : (s.setJob j).recv = s.recv := rfl
@[simp] theorem setJob_tnd (j : ImgJob) : (s.setJob j).tnd = s.tnd := rfl
@[simp] theorem setJob_keep (j : ImgJob) : (s.setJob j).keep = s.keep := rfl
@[simp] theorem setJob_smc (j : ImgJob) : (s.setJob j).smc = s.smc := rfl
@[simp] theorem setJob_ldl (j : ImgJob) : (s.setJob j).ldl = s.ldl := rfl
@[simp] theorem setJob_tmr (j : ImgJob) : (s.setJob j).tmr = s.tmr := rfl
@[simp] theorem setJob_spr (j : ImgJob) : (s.setJob j).spr = s.spr := rfl
@[simp] theorem setJob_vrn (j : ImgJob) : (s.setJob j).vrn = s.vrn := rfl

@[simp] theorem hostPut_pending (a : Nat) (bs : List Byte) : (s.hostPut a bs).pending = s.pending := rfl
@[simp] theorem hostPut_draws (a : Nat) (bs : List Byte) : (s.hostPut a bs).draws = s.draws := rfl
@[simp] theorem hostPut_time (a : Nat) (bs : List Byte) : (s.hostPut a bs).time = s.time := rfl
@[simp] theorem hostPut_regs (a : Nat) (bs : List Byte) : (s.hostPut a bs).regs = s.regs := rfl
@[simp] theorem hostPut_latches (a : Nat) (bs : List Byte) : (s.hostPut a bs).latches = s.latches := rfl
@[simp] theorem hostPut_mem (a : Nat) (bs : List Byte) : (s.hostPut a bs).mem = s.mem := rfl
@[simp] theorem hostPut_upsets (a : Nat) (bs : List Byte) : (s.hostPut a bs).upsets = s.upsets := rfl
@[simp] theorem hostPut_poison (a : Nat) (bs : List Byte) : (s.hostPut a bs).poison = s.poison := rfl
@[simp] theorem hostPut_rdata (a : Nat) (bs : List Byte) : (s.hostPut a bs).rdata = s.rdata := rfl
@[simp] theorem hostPut_wires (a : Nat) (bs : List Byte) : (s.hostPut a bs).wires = s.wires := rfl
@[simp] theorem hostPut_credits (a : Nat) (bs : List Byte) : (s.hostPut a bs).credits = s.credits := rfl
@[simp] theorem hostPut_owed (a : Nat) (bs : List Byte) : (s.hostPut a bs).owed = s.owed := rfl
@[simp] theorem hostPut_tokens (a : Nat) (bs : List Byte) : (s.hostPut a bs).tokens = s.tokens := rfl
@[simp] theorem hostPut_routers (a : Nat) (bs : List Byte) : (s.hostPut a bs).routers = s.routers := rfl
@[simp] theorem hostPut_ports (a : Nat) (bs : List Byte) : (s.hostPut a bs).ports = s.ports := rfl
@[simp] theorem hostPut_cores (a : Nat) (bs : List Byte) : (s.hostPut a bs).cores = s.cores := rfl
@[simp] theorem hostPut_parts (a : Nat) (bs : List Byte) : (s.hostPut a bs).parts = s.parts := rfl
@[simp] theorem hostPut_runc (a : Nat) (bs : List Byte) : (s.hostPut a bs).runc = s.runc := rfl
@[simp] theorem hostPut_img (a : Nat) (bs : List Byte) : (s.hostPut a bs).img = s.img := rfl
@[simp] theorem hostPut_tempers (a : Nat) (bs : List Byte) : (s.hostPut a bs).tempers = s.tempers := rfl
@[simp] theorem hostPut_vaults (a : Nat) (bs : List Byte) : (s.hostPut a bs).vaults = s.vaults := rfl
@[simp] theorem hostPut_doms (a : Nat) (bs : List Byte) : (s.hostPut a bs).doms = s.doms := rfl
@[simp] theorem hostPut_pwr (a : Nat) (bs : List Byte) : (s.hostPut a bs).pwr = s.pwr := rfl
@[simp] theorem hostPut_rst (a : Nat) (bs : List Byte) : (s.hostPut a bs).rst = s.rst := rfl
@[simp] theorem hostPut_sec (a : Nat) (bs : List Byte) : (s.hostPut a bs).sec = s.sec := rfl
@[simp] theorem hostPut_cfg (a : Nat) (bs : List Byte) : (s.hostPut a bs).cfg = s.cfg := rfl
@[simp] theorem hostPut_flashBad (a : Nat) (bs : List Byte) : (s.hostPut a bs).flashBad = s.flashBad := rfl
@[simp] theorem hostPut_msgs (a : Nat) (bs : List Byte) : (s.hostPut a bs).msgs = s.msgs := rfl
@[simp] theorem hostPut_hqs (a : Nat) (bs : List Byte) : (s.hostPut a bs).hqs = s.hqs := rfl
@[simp] theorem hostPut_recv (a : Nat) (bs : List Byte) : (s.hostPut a bs).recv = s.recv := rfl
@[simp] theorem hostPut_tnd (a : Nat) (bs : List Byte) : (s.hostPut a bs).tnd = s.tnd := rfl
@[simp] theorem hostPut_keep (a : Nat) (bs : List Byte) : (s.hostPut a bs).keep = s.keep := rfl
@[simp] theorem hostPut_smc (a : Nat) (bs : List Byte) : (s.hostPut a bs).smc = s.smc := rfl
@[simp] theorem hostPut_ldl (a : Nat) (bs : List Byte) : (s.hostPut a bs).ldl = s.ldl := rfl
@[simp] theorem hostPut_tmr (a : Nat) (bs : List Byte) : (s.hostPut a bs).tmr = s.tmr := rfl
@[simp] theorem hostPut_spr (a : Nat) (bs : List Byte) : (s.hostPut a bs).spr = s.spr := rfl
@[simp] theorem hostPut_vrn (a : Nat) (bs : List Byte) : (s.hostPut a bs).vrn = s.vrn := rfl

@[simp] theorem owe_pending (n p v flits : Nat) : (s.owe n p v flits).pending = s.pending := rfl
@[simp] theorem owe_draws (n p v flits : Nat) : (s.owe n p v flits).draws = s.draws := rfl
@[simp] theorem owe_time (n p v flits : Nat) : (s.owe n p v flits).time = s.time := rfl
@[simp] theorem owe_regs (n p v flits : Nat) : (s.owe n p v flits).regs = s.regs := rfl
@[simp] theorem owe_latches (n p v flits : Nat) : (s.owe n p v flits).latches = s.latches := rfl
@[simp] theorem owe_mem (n p v flits : Nat) : (s.owe n p v flits).mem = s.mem := rfl
@[simp] theorem owe_upsets (n p v flits : Nat) : (s.owe n p v flits).upsets = s.upsets := rfl
@[simp] theorem owe_poison (n p v flits : Nat) : (s.owe n p v flits).poison = s.poison := rfl
@[simp] theorem owe_rdata (n p v flits : Nat) : (s.owe n p v flits).rdata = s.rdata := rfl
@[simp] theorem owe_wires (n p v flits : Nat) : (s.owe n p v flits).wires = s.wires := rfl
@[simp] theorem owe_credits (n p v flits : Nat) : (s.owe n p v flits).credits = s.credits := rfl
@[simp] theorem owe_tokens (n p v flits : Nat) : (s.owe n p v flits).tokens = s.tokens := rfl
@[simp] theorem owe_routers (n p v flits : Nat) : (s.owe n p v flits).routers = s.routers := rfl
@[simp] theorem owe_ports (n p v flits : Nat) : (s.owe n p v flits).ports = s.ports := rfl
@[simp] theorem owe_cores (n p v flits : Nat) : (s.owe n p v flits).cores = s.cores := rfl
@[simp] theorem owe_parts (n p v flits : Nat) : (s.owe n p v flits).parts = s.parts := rfl
@[simp] theorem owe_runc (n p v flits : Nat) : (s.owe n p v flits).runc = s.runc := rfl
@[simp] theorem owe_img (n p v flits : Nat) : (s.owe n p v flits).img = s.img := rfl
@[simp] theorem owe_tempers (n p v flits : Nat) : (s.owe n p v flits).tempers = s.tempers := rfl
@[simp] theorem owe_vaults (n p v flits : Nat) : (s.owe n p v flits).vaults = s.vaults := rfl
@[simp] theorem owe_doms (n p v flits : Nat) : (s.owe n p v flits).doms = s.doms := rfl
@[simp] theorem owe_pwr (n p v flits : Nat) : (s.owe n p v flits).pwr = s.pwr := rfl
@[simp] theorem owe_rst (n p v flits : Nat) : (s.owe n p v flits).rst = s.rst := rfl
@[simp] theorem owe_sec (n p v flits : Nat) : (s.owe n p v flits).sec = s.sec := rfl
@[simp] theorem owe_cfg (n p v flits : Nat) : (s.owe n p v flits).cfg = s.cfg := rfl
@[simp] theorem owe_host (n p v flits : Nat) : (s.owe n p v flits).host = s.host := rfl
@[simp] theorem owe_flashBad (n p v flits : Nat) : (s.owe n p v flits).flashBad = s.flashBad := rfl
@[simp] theorem owe_msgs (n p v flits : Nat) : (s.owe n p v flits).msgs = s.msgs := rfl
@[simp] theorem owe_hqs (n p v flits : Nat) : (s.owe n p v flits).hqs = s.hqs := rfl
@[simp] theorem owe_recv (n p v flits : Nat) : (s.owe n p v flits).recv = s.recv := rfl
@[simp] theorem owe_tnd (n p v flits : Nat) : (s.owe n p v flits).tnd = s.tnd := rfl
@[simp] theorem owe_keep (n p v flits : Nat) : (s.owe n p v flits).keep = s.keep := rfl
@[simp] theorem owe_smc (n p v flits : Nat) : (s.owe n p v flits).smc = s.smc := rfl
@[simp] theorem owe_ldl (n p v flits : Nat) : (s.owe n p v flits).ldl = s.ldl := rfl
@[simp] theorem owe_tmr (n p v flits : Nat) : (s.owe n p v flits).tmr = s.tmr := rfl
@[simp] theorem owe_spr (n p v flits : Nat) : (s.owe n p v flits).spr = s.spr := rfl
@[simp] theorem owe_vrn (n p v flits : Nat) : (s.owe n p v flits).vrn = s.vrn := rfl

@[simp] theorem inject_pending (n cls key payload step16 t : Nat) (data : List Byte) : (s.inject n cls key payload step16 t data).pending = s.pending := rfl
@[simp] theorem inject_draws (n cls key payload step16 t : Nat) (data : List Byte) : (s.inject n cls key payload step16 t data).draws = s.draws := rfl
@[simp] theorem inject_time (n cls key payload step16 t : Nat) (data : List Byte) : (s.inject n cls key payload step16 t data).time = s.time := rfl
@[simp] theorem inject_regs (n cls key payload step16 t : Nat) (data : List Byte) : (s.inject n cls key payload step16 t data).regs = s.regs := rfl
@[simp] theorem inject_latches (n cls key payload step16 t : Nat) (data : List Byte) : (s.inject n cls key payload step16 t data).latches = s.latches := rfl
@[simp] theorem inject_mem (n cls key payload step16 t : Nat) (data : List Byte) : (s.inject n cls key payload step16 t data).mem = s.mem := rfl
@[simp] theorem inject_upsets (n cls key payload step16 t : Nat) (data : List Byte) : (s.inject n cls key payload step16 t data).upsets = s.upsets := rfl
@[simp] theorem inject_poison (n cls key payload step16 t : Nat) (data : List Byte) : (s.inject n cls key payload step16 t data).poison = s.poison := rfl
@[simp] theorem inject_rdata (n cls key payload step16 t : Nat) (data : List Byte) : (s.inject n cls key payload step16 t data).rdata = s.rdata := rfl
@[simp] theorem inject_credits (n cls key payload step16 t : Nat) (data : List Byte) : (s.inject n cls key payload step16 t data).credits = s.credits := rfl
@[simp] theorem inject_owed (n cls key payload step16 t : Nat) (data : List Byte) : (s.inject n cls key payload step16 t data).owed = s.owed := rfl
@[simp] theorem inject_tokens (n cls key payload step16 t : Nat) (data : List Byte) : (s.inject n cls key payload step16 t data).tokens = s.tokens := rfl
@[simp] theorem inject_routers (n cls key payload step16 t : Nat) (data : List Byte) : (s.inject n cls key payload step16 t data).routers = s.routers := rfl
@[simp] theorem inject_ports (n cls key payload step16 t : Nat) (data : List Byte) : (s.inject n cls key payload step16 t data).ports = s.ports := rfl
@[simp] theorem inject_cores (n cls key payload step16 t : Nat) (data : List Byte) : (s.inject n cls key payload step16 t data).cores = s.cores := rfl
@[simp] theorem inject_parts (n cls key payload step16 t : Nat) (data : List Byte) : (s.inject n cls key payload step16 t data).parts = s.parts := rfl
@[simp] theorem inject_runc (n cls key payload step16 t : Nat) (data : List Byte) : (s.inject n cls key payload step16 t data).runc = s.runc := rfl
@[simp] theorem inject_img (n cls key payload step16 t : Nat) (data : List Byte) : (s.inject n cls key payload step16 t data).img = s.img := rfl
@[simp] theorem inject_tempers (n cls key payload step16 t : Nat) (data : List Byte) : (s.inject n cls key payload step16 t data).tempers = s.tempers := rfl
@[simp] theorem inject_vaults (n cls key payload step16 t : Nat) (data : List Byte) : (s.inject n cls key payload step16 t data).vaults = s.vaults := rfl
@[simp] theorem inject_doms (n cls key payload step16 t : Nat) (data : List Byte) : (s.inject n cls key payload step16 t data).doms = s.doms := rfl
@[simp] theorem inject_pwr (n cls key payload step16 t : Nat) (data : List Byte) : (s.inject n cls key payload step16 t data).pwr = s.pwr := rfl
@[simp] theorem inject_rst (n cls key payload step16 t : Nat) (data : List Byte) : (s.inject n cls key payload step16 t data).rst = s.rst := rfl
@[simp] theorem inject_sec (n cls key payload step16 t : Nat) (data : List Byte) : (s.inject n cls key payload step16 t data).sec = s.sec := rfl
@[simp] theorem inject_cfg (n cls key payload step16 t : Nat) (data : List Byte) : (s.inject n cls key payload step16 t data).cfg = s.cfg := rfl
@[simp] theorem inject_host (n cls key payload step16 t : Nat) (data : List Byte) : (s.inject n cls key payload step16 t data).host = s.host := rfl
@[simp] theorem inject_flashBad (n cls key payload step16 t : Nat) (data : List Byte) : (s.inject n cls key payload step16 t data).flashBad = s.flashBad := rfl
@[simp] theorem inject_msgs (n cls key payload step16 t : Nat) (data : List Byte) : (s.inject n cls key payload step16 t data).msgs = s.msgs := rfl
@[simp] theorem inject_hqs (n cls key payload step16 t : Nat) (data : List Byte) : (s.inject n cls key payload step16 t data).hqs = s.hqs := rfl
@[simp] theorem inject_recv (n cls key payload step16 t : Nat) (data : List Byte) : (s.inject n cls key payload step16 t data).recv = s.recv := rfl
@[simp] theorem inject_tnd (n cls key payload step16 t : Nat) (data : List Byte) : (s.inject n cls key payload step16 t data).tnd = s.tnd := rfl
@[simp] theorem inject_keep (n cls key payload step16 t : Nat) (data : List Byte) : (s.inject n cls key payload step16 t data).keep = s.keep := rfl
@[simp] theorem inject_smc (n cls key payload step16 t : Nat) (data : List Byte) : (s.inject n cls key payload step16 t data).smc = s.smc := rfl
@[simp] theorem inject_ldl (n cls key payload step16 t : Nat) (data : List Byte) : (s.inject n cls key payload step16 t data).ldl = s.ldl := rfl
@[simp] theorem inject_tmr (n cls key payload step16 t : Nat) (data : List Byte) : (s.inject n cls key payload step16 t data).tmr = s.tmr := rfl
@[simp] theorem inject_spr (n cls key payload step16 t : Nat) (data : List Byte) : (s.inject n cls key payload step16 t data).spr = s.spr := rfl
@[simp] theorem inject_vrn (n cls key payload step16 t : Nat) (data : List Byte) : (s.inject n cls key payload step16 t data).vrn = s.vrn := rfl

end Sys2Proof.Machine.State
end

