-- ==== Sys2Proof/Laws/Ops.lean ====
section
/-! SUPPORT. What each named operation does to what it writes: registers, fields, bytes of storage, unit records. -/

namespace Sys2Proof.Machine.State

variable (s : State)

/-- A register reads what was written to it. -/
@[simp] theorem rd_wr_same (a : Nat) (v : Word) : (s.wr a v).rd a = v := by simp [rd, wr]

/-- Every other register keeps its word. -/
theorem rd_wr_other (a b : Nat) (v : Word) (h : b ≠ a) : (s.wr a v).rd b = s.rd b := by
  simp only [rd, wr]; exact mapGet_mapSet_other _ _ _ _ _ _ h

theorem rd_wr (a b : Nat) (v : Word) : (s.wr a v).rd b = if b = a then v else s.rd b := by
  split
  · rename_i h; rw [h, rd_wr_same]
  · rename_i h; exact rd_wr_other s a b v h

theorem rf_wr_other (a b hi lo : Nat) (v : Word) (h : b ≠ a) : (s.wr a v).rf b hi lo = s.rf b hi lo := by
  simp only [rf, rd_wr_other s a b v h]

@[simp] theorem rd_wf_same (a hi lo v : Nat) : (s.wf a hi lo v).rd a = setF (s.rd a) hi lo v := by simp [wf]

theorem rd_wf_other (a b hi lo v : Nat) (h : b ≠ a) : (s.wf a hi lo v).rd b = s.rd b := rd_wr_other s a b _ h

/-- A field reads what was written to it. -/
theorem rf_wf_same (a hi lo v : Nat) (hl : lo ≤ hi) (hh : hi < 32) : (s.wf a hi lo v).rf a hi lo = v % 2 ^ (hi + 1 - lo) := by
  simp only [rf, rd_wf_same]; exact getF_setF_same _ _ _ _ hl hh

/-- Another field of the register keeps its value. -/
theorem rf_wf_field (a hi lo v h l : Nat) (hl : lo ≤ hi) (hh : hi < 32) (hd : h < lo ∨ hi < l) :
    (s.wf a hi lo v).rf a h l = s.rf a h l := by
  simp only [rf, rd_wf_same]; exact getF_setF_other _ _ _ _ _ _ hl hh hd

theorem rf_wf_other (a b hi lo v h l : Nat) (hb : b ≠ a) : (s.wf a hi lo v).rf b h l = s.rf b h l := by
  simp only [rf, rd_wf_other s a b hi lo v hb]

theorem rd_setBit_other (a b i : Nat) (h : b ≠ a) : (s.setBit a i).rd b = s.rd b := rd_wf_other s a b i i 1 h

theorem bit_setBit_same (a i : Nat) (h : i < 32) : (s.setBit a i).bit a i = true := by
  simp [bit, setBit, rf_wf_same s a i i 1 (le_refl i) h]

theorem rd_bump_same (a n : Nat) : (s.bump a n).rd a = BitVec.ofNat 32 (satN 32 ((s.rd a).toNat + n)) := by simp [bump]

theorem rd_bump_other (a b n : Nat) (h : b ≠ a) : (s.bump a n).rd b = s.rd b := rd_wr_other s a b _ h

/-- A state with the same registers reads the same. -/
theorem rd_of_regs (t : State) (h : t.regs = s.regs) (a : Nat) : t.rd a = s.rd a := by simp only [rd, h]

theorem rf_of_regs (t : State) (h : t.regs = s.regs) (a hi lo : Nat) : t.rf a hi lo = s.rf a hi lo := by
  simp only [rf, rd_of_regs s t h]

@[simp] theorem rd_store (a b : Nat) (bs : List Byte) : (s.store a bs).rd b = s.rd b := rfl
@[simp] theorem rd_setCore (c a : Nat) (x : CoreInt) : (s.setCore c x).rd a = s.rd a := rfl
@[simp] theorem rd_setRouter (n a : Nat) (x : RouterInt) : (s.setRouter n x).rd a = s.rd a := rfl
@[simp] theorem rd_setPort (n a : Nat) (x : Port) : (s.setPort n x).rd a = s.rd a := rfl
@[simp] theorem rd_setTemper (p a : Nat) (x : TemperInt) : (s.setTemper p x).rd a = s.rd a := rfl
@[simp] theorem rd_setPart (n a : Nat) (x : Part) : (s.setPart n x).rd a = s.rd a := rfl
@[simp] theorem rd_setLink (k a : Nat) (x : LinkInt) : (s.setLink k x).rd a = s.rd a := rfl
@[simp] theorem rd_setDom (d a : Nat) (x : DomInt) : (s.setDom d x).rd a = s.rd a := rfl
@[simp] theorem rd_setVault (p a : Nat) (x : VaultInt) : (s.setVault p x).rd a = s.rd a := rfl
@[simp] theorem rd_inject (n cls key payload step16 t a : Nat) (data : List Byte) :
    (s.inject n cls key payload step16 t data).rd a = s.rd a := rfl
@[simp] theorem rd_answer (bs : List Byte) (a : Nat) : (s.answer bs).rd a = s.rd a := rfl
@[simp] theorem rd_draw (a : Nat) : s.draw.rd a = s.rd a := rfl

@[simp] theorem core_setCore_same (c : Nat) (x : CoreInt) : (s.setCore c x).core c = x := by simp [core, setCore]
theorem core_setCore_other (c d : Nat) (x : CoreInt) (h : d ≠ c) : (s.setCore c x).core d = s.core d :=
  mapGet_mapSet_other _ _ _ _ _ _ h
@[simp] theorem router_setRouter_same (n : Nat) (x : RouterInt) : (s.setRouter n x).router n = x := by simp [router, setRouter]
theorem router_setRouter_other (n m : Nat) (x : RouterInt) (h : m ≠ n) : (s.setRouter n x).router m = s.router m :=
  mapGet_mapSet_other _ _ _ _ _ _ h
@[simp] theorem port_setPort_same (n : Nat) (x : Port) : (s.setPort n x).port n = x := by simp [port, setPort]
theorem port_setPort_other (n m : Nat) (x : Port) (h : m ≠ n) : (s.setPort n x).port m = s.port m :=
  mapGet_mapSet_other _ _ _ _ _ _ h
@[simp] theorem temper_setTemper_same (p : Nat) (x : TemperInt) : (s.setTemper p x).temper p = x := by simp [temper, setTemper]
theorem temper_setTemper_other (p q : Nat) (x : TemperInt) (h : q ≠ p) : (s.setTemper p x).temper q = s.temper q :=
  mapGet_mapSet_other _ _ _ _ _ _ h
@[simp] theorem part_setPart_same (n : Nat) (x : Part) : (s.setPart n x).part n = x := by simp [part, setPart]
theorem part_setPart_other (n m : Nat) (x : Part) (h : m ≠ n) : (s.setPart n x).part m = s.part m :=
  mapGet_mapSet_other _ _ _ _ _ _ h
@[simp] theorem link_setLink_same (k : Nat) (x : LinkInt) : (s.setLink k x).link k = x := by simp [link, setLink]
theorem link_setLink_other (k j : Nat) (x : LinkInt) (h : j ≠ k) : (s.setLink k x).link j = s.link j :=
  mapGet_mapSet_other _ _ _ _ _ _ h
@[simp] theorem dom_setDom_same (d : Nat) (x : DomInt) : (s.setDom d x).dom d = x := by simp [dom, setDom]
theorem dom_setDom_other (d e : Nat) (x : DomInt) (h : e ≠ d) : (s.setDom d x).dom e = s.dom e :=
  mapGet_mapSet_other _ _ _ _ _ _ h

/-- Writing bytes keeps the canonical form of the storage. -/
theorem memPut_wf (m : List (Nat × Byte)) (a : Nat) (bs : List Byte) (h : Memory.wf m) : Memory.wf (memPut m a bs) := by
  induction bs generalizing m a with
  | nil => exact h
  | cons b t ih => exact ih _ _ (mapWf_mapSet _ _ _ _ h)

/-- A store keeps the canonical form of the storage. -/
theorem store_wf (a : Nat) (bs : List Byte) (h : Memory.wf s.mem) : Memory.wf (s.store a bs).mem := memPut_wf _ _ _ h

/-- A byte that was written reads back; every other byte is as it was. -/
theorem mapGet_memPut (m : List (Nat × Byte)) (a : Nat) (bs : List Byte) (x : Nat) :
    mapGet 0 (memPut m a bs) x = if a ≤ x ∧ x < a + bs.length then bs.getD (x - a) 0 else mapGet 0 m x := by
  induction bs generalizing m a with
  | nil => rw [if_neg (by simp)]; rfl
  | cons b t ih =>
    show mapGet 0 (memPut (mapSet 0 m a b) (a + 1) t) x = _
    rw [ih]
    simp only [List.length_cons]
    by_cases hx : x = a
    · subst hx
      rw [if_neg (by omega), if_pos (by omega), mapGet_mapSet_same]
      simp
    · by_cases hr : a + 1 ≤ x ∧ x < a + 1 + t.length
      · rw [if_pos hr, if_pos (by omega), show x - a = (x - (a + 1)) + 1 by omega, List.getD_cons_succ]
      · rw [if_neg hr, if_neg (by omega), mapGet_mapSet_other _ _ _ _ _ _ hx]

/-- A byte outside what a store writes is as it was. -/
theorem byte_store_out (a : Nat) (bs : List Byte) (x : Nat) (h : x < a ∨ a + bs.length ≤ x) : (s.store a bs).byte x = s.byte x := by
  simp only [byte, store]; rw [mapGet_memPut, if_neg (by omega)]

/-- A byte inside what a store writes is the byte written. -/
theorem byte_store_in (a : Nat) (bs : List Byte) (i : Nat) (h : i < bs.length) : (s.store a bs).byte (a + i) = bs.getD i 0 := by
  simp only [byte, store]; rw [mapGet_memPut, if_pos (by omega), Nat.add_sub_cancel_left]

@[simp] theorem length_bytes (a n : Nat) : (s.bytes a n).length = n := by
  induction n generalizing a with
  | zero => rfl
  | succ n ih => simp [bytes, ih]

/-- A byte of a range. -/
theorem getElem_bytes (a n i : Nat) (h : i < (s.bytes a n).length) : (s.bytes a n)[i] = s.byte (a + i) := by
  induction n generalizing a i with
  | zero => simp [bytes] at h
  | succ n ih =>
    cases i with
    | zero => rfl
    | succ i =>
      simp only [bytes, List.getElem_cons_succ]
      rw [ih (a + 1) i (by simpa [bytes] using h)]
      congr 1; omega

end Sys2Proof.Machine.State
end

