-- ==== Sys2Proof/Laws/PerInstr.lean ====
section
/-! SUPPORT. Family Named: every constructor of Instr stands for one row of spec/opcode_table.json, whose name is at the
place of that row in the table. -/

namespace Sys2Proof.Laws.Named

open Sys2Proof

/-- Rows 0 to 23 of the opcode table. -/
def names0 : List String :=
  ["REGISTER_WRITE", "RC_REGISTER_READ", "COUNTER_LOW_READ", "WINDOW_STORAGE_WRITE",
   "PCIE_CONFIG_REQUEST", "LOAD_SLOT", "LOAD_HOST", "IMAGE_STOP_FOR_LOAD",
   "IMAGE_CLEAR_DONE", "IMAGE_SECTION_STREAMED", "CONFIG_WRITE", "IMAGE_VERIFY_DONE",
   "INSTALL", "INSTALL_PROGRAM_DONE", "ACTIVATE_DELTA", "DISCARD_DELTA",
   "SETTINGS_RESET", "EVENT_QUEUE_ACCEPT", "ACCUMULATE_ENTRY", "AXON_ENTRY_READ",
   "SYNAPSE_BEAT", "NCR_DPOOL_WRITE", "STEP_ADMIT", "ACCUMULATE_END"]

/-- Rows 24 to 47 of the opcode table. -/
def names1 : List String :=
  ["GROUP_RUN_START", "NOP", "MOV", "ADD",
   "SUB", "MUL", "MAC", "MIN",
   "MAX", "ABS", "AND", "OR",
   "XOR", "SHL", "SHR", "CLT",
   "CLE", "CEQ", "MOVI", "ADDI",
   "MULI", "CLTI", "CGEI", "LUT"]

/-- Rows 48 to 71 of the opcode table. -/
def names2 : List String :=
  ["DECAY", "TRACE", "RDA", "GET",
   "SETQ", "BR", "EMIT", "EMITG",
   "SEND_SUM", "SEND_MESSAGE", "END", "UCLIMIT_EXPIRY",
   "STEP_SEAL", "CORE_SCRUB_WORD", "VAULT_SCRUB_WORD", "ROW_COPY_DONE",
   "HORIZON_REPORT_RECEIVE", "HORIZON_TIMEOUT", "TUNDISH_ADMIT", "TUNDISH_INJECTION_END",
   "TUNDISH_STEP_SEAL", "MODE_PREPARE", "MODE_ACK_RECEIVE", "MODE_COMMIT_TIMEOUT"]

/-- Rows 72 to 95 of the opcode table. -/
def names3 : List String :=
  ["MODE_COMMIT_RECEIVE", "MODE_ABORT_RECEIVE", "START", "HOLD",
   "RESUME", "STEP", "STOP", "LEARN_ON",
   "LEARN_OFF", "LOCKSTEP", "HORIZON", "STEPLEN",
   "RUN_HELD", "ROUTER_PACKET_ARRIVE", "ROUTER_ROUTE", "ROUTER_PACKET_SEND",
   "PASS_THROUGH_FORWARD", "CREDIT_RETURN", "ESCAPE_TIMEOUT", "RETIREMENT_TOKEN",
   "COMBINE_WINDOW_CLOSE", "FAULT_COALESCE_CLOSE", "INJECTOR_DRAINED", "DRAIN_RECEIVE"]

/-- Rows 96 to 119 of the opcode table. -/
def names4 : List String :=
  ["MSG_REQUEST_ACCEPT", "FORWARD_SEND", "SELECTOR_POP", "MSG_RELEASE",
   "MSG_REPLY_RECEIVE", "MSG_REPLY_TIMEOUT", "MSG_QUEUE_CONFIG_WRITE", "PRE_RECORD_APPLY",
   "REWARD_RECEIVE", "EPOCH_PASS_BEGIN", "CHECKPOINT_COMPLETE", "SYNAPSE_UPDATE",
   "PASS1_END", "SYNAPSE_RESCALE", "EPOCH_PASS_END", "WEIGHT_SAVE_BEGIN",
   "WEIGHT_SAVE_CHUNK", "CSI_LONG_PACKET", "CSI_FRAME_START", "CSI_FRAME_END",
   "CSI3_COPY", "STREAM_DECODE", "TUNDISH_INJECT", "HOST_EVENT_INJECT"]

/-- Rows 120 to 143 of the opcode table. -/
def names5 : List String :=
  ["COUNT_RECORD_SEND", "COUNT_RECORD_RETRY", "WINDOW_RECORD_RETRY", "LADLE_DOORBELL",
   "LADLE_CHANNEL_ENABLE", "LADLE_CHANNEL_DISABLE", "LADLE_NOP", "LADLE_H2D",
   "LADLE_D2H", "LADLE_EVENTS", "LADLE_MSG", "LADLE_READQ",
   "LADLE_SEGMENT", "LADLE_COMPLETION", "LADLE_READ_TIMEOUT", "HOST_QUEUE_ACCEPT",
   "LADLE_SELECTOR_SIGNAL", "HOST_QUEUE_POP_READ", "HOST_RING_TRANSFER", "HOST_QUEUE_IRQ_DELAY",
   "HOST_QUEUE_LOCAL_WRITE", "HOST_LOST_ENTRY", "HOST_LOST_EXIT", "SMBUS_BLOCK_WRITE"]

/-- Rows 144 to 167 of the opcode table. -/
def names6 : List String :=
  ["SMBUS_SET_POINTER", "SMBUS_BLOCK_READ", "SMBUS_STATUS", "SMBUS_SCL_TIMEOUT",
   "LINK_TRAINING_DONE", "LINK_TRAIN_RETRY", "LINK_LANE_FAIL", "LINK_RETRAIN_DONE",
   "LINK_RETRAIN_REQUEST", "LINK_ENABLE", "DATA_FRAME_RECEIVE", "RETURN_FRAME_RECEIVE",
   "IDLE_FRAME_RECEIVE", "NAK_FRAME_RECEIVE", "MGMT_FRAME_RECEIVE", "DATA_FRAME_SEND",
   "IDLE_FRAME_SEND", "LINK_ACK_TIMEOUT", "LINK_PEER_TIMEOUT", "DISCOVERY_STABLE",
   "DISCOVERY_TIMEOUT", "TIME_SYNC_EXCHANGE", "REMOTE_PREPARE", "LEARNING_CLEAR_ALL"]

/-- Rows 168 to 191 of the opcode table. -/
def names7 : List String :=
  ["LEARNING_CLEAR_ONE", "VERNIER_RESET_ASSERT", "VERNIER_RESET_RELEASE", "VERNIER_BOOT_DONE",
   "LOCKSTEP_MISMATCH", "ENCODER_EDGE", "VERNIER_FRAME_START", "PROFILE_FRAME_END",
   "PROFILE_SUMMARY_DONE", "RESULT_RECORD_PUBLISH", "INDICATOR_READ", "INDICATOR_STATUS",
   "INDICATOR_OTHER", "SEAL_CHANGE", "FW_CHUNK", "VRN_FW_ACTIVATE",
   "PAR_CHUNK", "PAR_COMMIT", "ARCHIVE", "ABORT",
   "CHALLENGE", "VERIFY", "CLOSE", "PROG_KEY"]

/-- Rows 192 to 215 of the opcode table. -/
def names8 : List String :=
  ["REVOKE_KEY", "PROV_MAKER", "KEY_PROGRAM_DONE", "KEY_REVOKE_DONE",
   "SESSION_IDLE_TIMEOUT", "SEC_SEAL_CHANGE", "LOCKOUT_EXPIRY", "SLEEP",
   "DEEP", "WAKE", "PROFILE", "DEVICE_STATE_REACHED",
   "WAKE_SOURCE", "LIMITER_TICK", "THERMAL_SAMPLE", "DOMAIN_IDLE_ENTRY",
   "DOMAIN_IDLE_EXIT", "WAKE_STAGE_READY", "WAKE_STAGE_TIMEOUT", "WAKE_RETRY",
   "DOMAIN_HARD_FAILURE", "DOMAIN_POWER_DOWN_DONE", "VOLTAGE_RAMP_DONE", "CLOCK_SWITCH_DONE"]

/-- Rows 216 to 239 of the opcode table. -/
def names9 : List String :=
  ["PMBUS_STATUS_POLL", "PWR_CEIL_WRITE", "PWRFAIL_ASSERT", "PWRFAIL_RELEASE",
   "PORST_ASSERT", "PORST_RELEASE", "SYSRST_ASSERT", "SYSRST_RELEASE",
   "AON_SUPPLY_LOW", "WARM", "WARM_FULL", "WATCHDOG_EXPIRY",
   "SMC_BOOT_RESTART", "TAP_RESET", "RELEASE_ORDER_STEP", "FUSE_LOAD_DONE",
   "RSTOUT_RELEASE", "START_STAGE_END", "CORE_WAVE", "PCIE_PERST_RELEASE",
   "ISOLATION_COMPLETE", "BAND_ROW_DRAINED", "CORE_COPY_DONE", "FW_INSTALL"]

/-- Rows 240 to 263 of the opcode table. -/
def names10 : List String :=
  ["FW_ACTIVATE", "FW_SETRESET", "DIAG_DATA_READ", "FAULT_REPORT_INTAKE",
   "HANG_CHECK_EXPIRY", "RECOVERY_BEGIN", "RECOVERY_RESTORE", "REPLAY_ARRIVAL_FEED",
   "RECOVERY_REJOIN", "SUSPECT_SEARCH", "RECOVERY_COPY_WRITE", "AVAILABILITY_SAVE",
   "TIMER_FIRE", "TIMER_COMPARE_WRITE", "TIMER_CTRL_WRITE", "TIMER_GROUP_START",
   "PULSE_END", "LF_MODE_ENTRY", "LF_MODE_EXIT", "LFCLK_LOST",
   "EPHEMERIS_ARM", "EPHEMERIS_MESSAGE_SEND", "PERF_COUNTER_CLEAR", "PERF_COUNT_REPORT"]

/-- Rows 264 to 270 of the opcode table. -/
def names11 : List String :=
  ["DEBUG_HALT_WRITE", "SMC_DEBUG_HALT", "SMC_DEBUG_RESUME", "CSI_LINK_STATE_CHANGE",
   "LFCLK_RETURN", "AON_SUPPLY_RETURN", "SMC_REQUEST_RECEIVE"]

/-- The names of the opcode table, in its order, in pages of 24. -/
def rowNames : List (List String) := [names0, names1, names2, names3, names4, names5, names6, names7, names8, names9, names10, names11]

/-- The row of the opcode table that a command is of: page and place in it. -/
def row : Instr → Nat × Nat
  | .registerWrite .. => (0, 0)
  | .rcRegisterRead .. => (0, 1)
  | .counterLowRead .. => (0, 2)
  | .windowStorageWrite .. => (0, 3)
  | .pcieConfigRequest .. => (0, 4)
  | .loadSlot .. => (0, 5)
  | .loadHost .. => (0, 6)
  | .imageStopForLoad => (0, 7)
  | .imageClearDone => (0, 8)
  | .imageSectionStreamed => (0, 9)
  | .configWrite .. => (0, 10)
  | .imageVerifyDone => (0, 11)
  | .install .. => (0, 12)
  | .installProgramDone => (0, 13)
  | .activateDelta .. => (0, 14)
  | .discardDelta .. => (0, 15)
  | .settingsReset .. => (0, 16)
  | .eventQueueAccept .. => (0, 17)
  | .accumulateEntry .. => (0, 18)
  | .axonEntryRead .. => (0, 19)
  | .synapseBeat .. => (0, 20)
  | .ncrDpoolWrite .. => (0, 21)
  | .stepAdmit .. => (0, 22)
  | .accumulateEnd .. => (0, 23)
  | .groupRunStart .. => (1, 0)
  | .nop .. => (1, 1)
  | .mov .. => (1, 2)
  | .add .. => (1, 3)
  | .sub .. => (1, 4)
  | .mul .. => (1, 5)
  | .mac .. => (1, 6)
  | .minOp .. => (1, 7)
  | .maxOp .. => (1, 8)
  | .absOp .. => (1, 9)
  | .andOp .. => (1, 10)
  | .orOp .. => (1, 11)
  | .xor .. => (1, 12)
  | .shl .. => (1, 13)
  | .shr .. => (1, 14)
  | .clt .. => (1, 15)
  | .cle .. => (1, 16)
  | .ceq .. => (1, 17)
  | .movi .. => (1, 18)
  | .addi .. => (1, 19)
  | .muli .. => (1, 20)
  | .clti .. => (1, 21)
  | .cgei .. => (1, 22)
  | .lut .. => (1, 23)
  | .decay .. => (2, 0)
  | .trace .. => (2, 1)
  | .rda .. => (2, 2)
  | .get .. => (2, 3)
  | .setq .. => (2, 4)
  | .br .. => (2, 5)
  | .emit .. => (2, 6)
  | .emitg .. => (2, 7)
  | .sendSum .. => (2, 8)
  | .sendMessage .. => (2, 9)
  | .endRun .. => (2, 10)
  | .uclimitExpiry .. => (2, 11)
  | .stepSeal .. => (2, 12)
  | .coreScrubWord .. => (2, 13)
  | .vaultScrubWord .. => (2, 14)
  | .rowCopyDone .. => (2, 15)
  | .horizonReportReceive .. => (2, 16)
  | .horizonTimeout .. => (2, 17)
  | .tundishAdmit => (2, 18)
  | .tundishInjectionEnd => (2, 19)
  | .tundishStepSeal => (2, 20)
  | .modePrepare .. => (2, 21)
  | .modeAckReceive => (2, 22)
  | .modeCommitTimeout => (2, 23)
  | .modeCommitReceive .. => (3, 0)
  | .modeAbortReceive .. => (3, 1)
  | .startRun .. => (3, 2)
  | .holdRun .. => (3, 3)
  | .resumeRun .. => (3, 4)
  | .stepRun .. => (3, 5)
  | .stopRun .. => (3, 6)
  | .learnOn .. => (3, 7)
  | .learnOff .. => (3, 8)
  | .lockstepMode .. => (3, 9)
  | .horizonMode .. => (3, 10)
  | .steplen .. => (3, 11)
  | .runHeld => (3, 12)
  | .routerPacketArrive .. => (3, 13)
  | .routerRoute .. => (3, 14)
  | .routerPacketSend .. => (3, 15)
  | .passThroughForward .. => (3, 16)
  | .creditReturn .. => (3, 17)
  | .escapeTimeout .. => (3, 18)
  | .retirementToken .. => (3, 19)
  | .combineWindowClose .. => (3, 20)
  | .faultCoalesceClose .. => (3, 21)
  | .injectorDrained .. => (3, 22)
  | .drainReceive => (3, 23)
  | .msgRequestAccept .. => (4, 0)
  | .forwardSend .. => (4, 1)
  | .selectorPop .. => (4, 2)
  | .msgRelease .. => (4, 3)
  | .msgReplyReceive .. => (4, 4)
  | .msgReplyTimeout .. => (4, 5)
  | .msgQueueConfigWrite .. => (4, 6)
  | .preRecordApply .. => (4, 7)
  | .rewardReceive .. => (4, 8)
  | .epochPassBegin .. => (4, 9)
  | .checkpointComplete .. => (4, 10)
  | .synapseUpdate .. => (4, 11)
  | .pass1End .. => (4, 12)
  | .synapseRescale .. => (4, 13)
  | .epochPassEnd .. => (4, 14)
  | .weightSaveBegin => (4, 15)
  | .weightSaveChunk .. => (4, 16)
  | .csiLongPacket .. => (4, 17)
  | .csiFrameStart .. => (4, 18)
  | .csiFrameEnd .. => (4, 19)
  | .csi3Copy .. => (4, 20)
  | .streamDecode .. => (4, 21)
  | .tundishInject .. => (4, 22)
  | .hostEventInject .. => (4, 23)
  | .countRecordSend .. => (5, 0)
  | .countRecordRetry .. => (5, 1)
  | .windowRecordRetry => (5, 2)
  | .ladleDoorbell .. => (5, 3)
  | .ladleChannelEnable .. => (5, 4)
  | .ladleChannelDisable .. => (5, 5)
  | .ladleNop .. => (5, 6)
  | .ladleH2d .. => (5, 7)
  | .ladleD2h .. => (5, 8)
  | .ladleEvents .. => (5, 9)
  | .ladleMsg .. => (5, 10)
  | .ladleReadq .. => (5, 11)
  | .ladleSegment .. => (5, 12)
  | .ladleCompletion .. => (5, 13)
  | .ladleReadTimeout .. => (5, 14)
  | .hostQueueAccept .. => (5, 15)
  | .ladleSelectorSignal .. => (5, 16)
  | .hostQueuePopRead .. => (5, 17)
  | .hostRingTransfer .. => (5, 18)
  | .hostQueueIrqDelay .. => (5, 19)
  | .hostQueueLocalWrite .. => (5, 20)
  | .hostLostEntry .. => (5, 21)
  | .hostLostExit .. => (5, 22)
  | .smbusBlockWrite .. => (5, 23)
  | .smbusSetPointer .. => (6, 0)
  | .smbusBlockRead .. => (6, 1)
  | .smbusStatus .. => (6, 2)
  | .smbusSclTimeout => (6, 3)
  | .linkTrainingDone .. => (6, 4)
  | .linkTrainRetry .. => (6, 5)
  | .linkLaneFail .. => (6, 6)
  | .linkRetrainDone .. => (6, 7)
  | .linkRetrainRequest .. => (6, 8)
  | .linkEnable .. => (6, 9)
  | .dataFrameReceive .. => (6, 10)
  | .returnFrameReceive .. => (6, 11)
  | .idleFrameReceive .. => (6, 12)
  | .nakFrameReceive .. => (6, 13)
  | .mgmtFrameReceive .. => (6, 14)
  | .dataFrameSend .. => (6, 15)
  | .idleFrameSend .. => (6, 16)
  | .linkAckTimeout .. => (6, 17)
  | .linkPeerTimeout .. => (6, 18)
  | .discoveryStable => (6, 19)
  | .discoveryTimeout => (6, 20)
  | .timeSyncExchange .. => (6, 21)
  | .remotePrepare => (6, 22)
  | .learningClearAll .. => (6, 23)
  | .learningClearOne .. => (7, 0)
  | .vernierResetAssert => (7, 1)
  | .vernierResetRelease => (7, 2)
  | .vernierBootDone => (7, 3)
  | .lockstepMismatch => (7, 4)
  | .encoderEdge .. => (7, 5)
  | .vernierFrameStart => (7, 6)
  | .profileFrameEnd => (7, 7)
  | .profileSummaryDone => (7, 8)
  | .resultRecordPublish => (7, 9)
  | .indicatorRead .. => (7, 10)
  | .indicatorStatus => (7, 11)
  | .indicatorOther .. => (7, 12)
  | .sealChange .. => (7, 13)
  | .fwChunk .. => (7, 14)
  | .vrnFwActivate .. => (7, 15)
  | .parChunk .. => (7, 16)
  | .parCommit .. => (7, 17)
  | .archive .. => (7, 18)
  | .abortStaged .. => (7, 19)
  | .challenge .. => (7, 20)
  | .verifySession .. => (7, 21)
  | .closeSession .. => (7, 22)
  | .progKey .. => (7, 23)
  | .revokeKey .. => (8, 0)
  | .provMaker .. => (8, 1)
  | .keyProgramDone .. => (8, 2)
  | .keyRevokeDone .. => (8, 3)
  | .sessionIdleTimeout => (8, 4)
  | .secSealChange .. => (8, 5)
  | .lockoutExpiry => (8, 6)
  | .sleep .. => (8, 7)
  | .deepState .. => (8, 8)
  | .wake .. => (8, 9)
  | .profile .. => (8, 10)
  | .deviceStateReached => (8, 11)
  | .wakeSource .. => (8, 12)
  | .limiterTick .. => (8, 13)
  | .thermalSample .. => (8, 14)
  | .domainIdleEntry .. => (8, 15)
  | .domainIdleExit .. => (8, 16)
  | .wakeStageReady .. => (8, 17)
  | .wakeStageTimeout .. => (8, 18)
  | .wakeRetry .. => (8, 19)
  | .domainHardFailure .. => (8, 20)
  | .domainPowerDownDone .. => (8, 21)
  | .voltageRampDone .. => (8, 22)
  | .clockSwitchDone .. => (8, 23)
  | .pmbusStatusPoll .. => (9, 0)
  | .pwrCeilWrite .. => (9, 1)
  | .pwrfailAssert => (9, 2)
  | .pwrfailRelease => (9, 3)
  | .porstAssert => (9, 4)
  | .porstRelease => (9, 5)
  | .sysrstAssert => (9, 6)
  | .sysrstRelease => (9, 7)
  | .aonSupplyLow => (9, 8)
  | .warmReset .. => (9, 9)
  | .warmFull .. => (9, 10)
  | .watchdogExpiry => (9, 11)
  | .smcBootRestart => (9, 12)
  | .tapReset => (9, 13)
  | .releaseOrderStep => (9, 14)
  | .fuseLoadDone => (9, 15)
  | .rstoutRelease => (9, 16)
  | .startStageEnd .. => (9, 17)
  | .coreWave .. => (9, 18)
  | .pciePerstRelease => (9, 19)
  | .isolationComplete .. => (9, 20)
  | .bandRowDrained => (9, 21)
  | .coreCopyDone => (9, 22)
  | .fwInstall .. => (9, 23)
  | .fwActivate .. => (10, 0)
  | .fwSetreset .. => (10, 1)
  | .diagDataRead .. => (10, 2)
  | .faultReportIntake => (10, 3)
  | .hangCheckExpiry .. => (10, 4)
  | .recoveryBegin .. => (10, 5)
  | .recoveryRestore .. => (10, 6)
  | .replayArrivalFeed .. => (10, 7)
  | .recoveryRejoin .. => (10, 8)
  | .suspectSearch .. => (10, 9)
  | .recoveryCopyWrite => (10, 10)
  | .availabilitySave => (10, 11)
  | .timerFire .. => (10, 12)
  | .timerCompareWrite .. => (10, 13)
  | .timerCtrlWrite .. => (10, 14)
  | .timerGroupStart .. => (10, 15)
  | .pulseEnd .. => (10, 16)
  | .lfModeEntry => (10, 17)
  | .lfModeExit => (10, 18)
  | .lfclkLost => (10, 19)
  | .ephemerisArm .. => (10, 20)
  | .ephemerisMessageSend => (10, 21)
  | .perfCounterClear .. => (10, 22)
  | .perfCountReport .. => (10, 23)
  | .debugHaltWrite .. => (11, 0)
  | .smcDebugHalt => (11, 1)
  | .smcDebugResume .. => (11, 2)
  | .csiLinkStateChange .. => (11, 3)
  | .lfclkReturn => (11, 4)
  | .aonSupplyReturn => (11, 5)
  | .smcRequestReceive => (11, 6)

/-- The name of a command. -/
def mnemonic : Instr → String
  | .registerWrite .. => "REGISTER_WRITE"
  | .rcRegisterRead .. => "RC_REGISTER_READ"
  | .counterLowRead .. => "COUNTER_LOW_READ"
  | .windowStorageWrite .. => "WINDOW_STORAGE_WRITE"
  | .pcieConfigRequest .. => "PCIE_CONFIG_REQUEST"
  | .loadSlot .. => "LOAD_SLOT"
  | .loadHost .. => "LOAD_HOST"
  | .imageStopForLoad => "IMAGE_STOP_FOR_LOAD"
  | .imageClearDone => "IMAGE_CLEAR_DONE"
  | .imageSectionStreamed => "IMAGE_SECTION_STREAMED"
  | .configWrite .. => "CONFIG_WRITE"
  | .imageVerifyDone => "IMAGE_VERIFY_DONE"
  | .install .. => "INSTALL"
  | .installProgramDone => "INSTALL_PROGRAM_DONE"
  | .activateDelta .. => "ACTIVATE_DELTA"
  | .discardDelta .. => "DISCARD_DELTA"
  | .settingsReset .. => "SETTINGS_RESET"
  | .eventQueueAccept .. => "EVENT_QUEUE_ACCEPT"
  | .accumulateEntry .. => "ACCUMULATE_ENTRY"
  | .axonEntryRead .. => "AXON_ENTRY_READ"
  | .synapseBeat .. => "SYNAPSE_BEAT"
  | .ncrDpoolWrite .. => "NCR_DPOOL_WRITE"
  | .stepAdmit .. => "STEP_ADMIT"
  | .accumulateEnd .. => "ACCUMULATE_END"
  | .groupRunStart .. => "GROUP_RUN_START"
  | .nop .. => "NOP"
  | .mov .. => "MOV"
  | .add .. => "ADD"
  | .sub .. => "SUB"
  | .mul .. => "MUL"
  | .mac .. => "MAC"
  | .minOp .. => "MIN"
  | .maxOp .. => "MAX"
  | .absOp .. => "ABS"
  | .andOp .. => "AND"
  | .orOp .. => "OR"
  | .xor .. => "XOR"
  | .shl .. => "SHL"
  | .shr .. => "SHR"
  | .clt .. => "CLT"
  | .cle .. => "CLE"
  | .ceq .. => "CEQ"
  | .movi .. => "MOVI"
  | .addi .. => "ADDI"
  | .muli .. => "MULI"
  | .clti .. => "CLTI"
  | .cgei .. => "CGEI"
  | .lut .. => "LUT"
  | .decay .. => "DECAY"
  | .trace .. => "TRACE"
  | .rda .. => "RDA"
  | .get .. => "GET"
  | .setq .. => "SETQ"
  | .br .. => "BR"
  | .emit .. => "EMIT"
  | .emitg .. => "EMITG"
  | .sendSum .. => "SEND_SUM"
  | .sendMessage .. => "SEND_MESSAGE"
  | .endRun .. => "END"
  | .uclimitExpiry .. => "UCLIMIT_EXPIRY"
  | .stepSeal .. => "STEP_SEAL"
  | .coreScrubWord .. => "CORE_SCRUB_WORD"
  | .vaultScrubWord .. => "VAULT_SCRUB_WORD"
  | .rowCopyDone .. => "ROW_COPY_DONE"
  | .horizonReportReceive .. => "HORIZON_REPORT_RECEIVE"
  | .horizonTimeout .. => "HORIZON_TIMEOUT"
  | .tundishAdmit => "TUNDISH_ADMIT"
  | .tundishInjectionEnd => "TUNDISH_INJECTION_END"
  | .tundishStepSeal => "TUNDISH_STEP_SEAL"
  | .modePrepare .. => "MODE_PREPARE"
  | .modeAckReceive => "MODE_ACK_RECEIVE"
  | .modeCommitTimeout => "MODE_COMMIT_TIMEOUT"
  | .modeCommitReceive .. => "MODE_COMMIT_RECEIVE"
  | .modeAbortReceive .. => "MODE_ABORT_RECEIVE"
  | .startRun .. => "START"
  | .holdRun .. => "HOLD"
  | .resumeRun .. => "RESUME"
  | .stepRun .. => "STEP"
  | .stopRun .. => "STOP"
  | .learnOn .. => "LEARN_ON"
  | .learnOff .. => "LEARN_OFF"
  | .lockstepMode .. => "LOCKSTEP"
  | .horizonMode .. => "HORIZON"
  | .steplen .. => "STEPLEN"
  | .runHeld => "RUN_HELD"
  | .routerPacketArrive .. => "ROUTER_PACKET_ARRIVE"
  | .routerRoute .. => "ROUTER_ROUTE"
  | .routerPacketSend .. => "ROUTER_PACKET_SEND"
  | .passThroughForward .. => "PASS_THROUGH_FORWARD"
  | .creditReturn .. => "CREDIT_RETURN"
  | .escapeTimeout .. => "ESCAPE_TIMEOUT"
  | .retirementToken .. => "RETIREMENT_TOKEN"
  | .combineWindowClose .. => "COMBINE_WINDOW_CLOSE"
  | .faultCoalesceClose .. => "FAULT_COALESCE_CLOSE"
  | .injectorDrained .. => "INJECTOR_DRAINED"
  | .drainReceive => "DRAIN_RECEIVE"
  | .msgRequestAccept .. => "MSG_REQUEST_ACCEPT"
  | .forwardSend .. => "FORWARD_SEND"
  | .selectorPop .. => "SELECTOR_POP"
  | .msgRelease .. => "MSG_RELEASE"
  | .msgReplyReceive .. => "MSG_REPLY_RECEIVE"
  | .msgReplyTimeout .. => "MSG_REPLY_TIMEOUT"
  | .msgQueueConfigWrite .. => "MSG_QUEUE_CONFIG_WRITE"
  | .preRecordApply .. => "PRE_RECORD_APPLY"
  | .rewardReceive .. => "REWARD_RECEIVE"
  | .epochPassBegin .. => "EPOCH_PASS_BEGIN"
  | .checkpointComplete .. => "CHECKPOINT_COMPLETE"
  | .synapseUpdate .. => "SYNAPSE_UPDATE"
  | .pass1End .. => "PASS1_END"
  | .synapseRescale .. => "SYNAPSE_RESCALE"
  | .epochPassEnd .. => "EPOCH_PASS_END"
  | .weightSaveBegin => "WEIGHT_SAVE_BEGIN"
  | .weightSaveChunk .. => "WEIGHT_SAVE_CHUNK"
  | .csiLongPacket .. => "CSI_LONG_PACKET"
  | .csiFrameStart .. => "CSI_FRAME_START"
  | .csiFrameEnd .. => "CSI_FRAME_END"
  | .csi3Copy .. => "CSI3_COPY"
  | .streamDecode .. => "STREAM_DECODE"
  | .tundishInject .. => "TUNDISH_INJECT"
  | .hostEventInject .. => "HOST_EVENT_INJECT"
  | .countRecordSend .. => "COUNT_RECORD_SEND"
  | .countRecordRetry .. => "COUNT_RECORD_RETRY"
  | .windowRecordRetry => "WINDOW_RECORD_RETRY"
  | .ladleDoorbell .. => "LADLE_DOORBELL"
  | .ladleChannelEnable .. => "LADLE_CHANNEL_ENABLE"
  | .ladleChannelDisable .. => "LADLE_CHANNEL_DISABLE"
  | .ladleNop .. => "LADLE_NOP"
  | .ladleH2d .. => "LADLE_H2D"
  | .ladleD2h .. => "LADLE_D2H"
  | .ladleEvents .. => "LADLE_EVENTS"
  | .ladleMsg .. => "LADLE_MSG"
  | .ladleReadq .. => "LADLE_READQ"
  | .ladleSegment .. => "LADLE_SEGMENT"
  | .ladleCompletion .. => "LADLE_COMPLETION"
  | .ladleReadTimeout .. => "LADLE_READ_TIMEOUT"
  | .hostQueueAccept .. => "HOST_QUEUE_ACCEPT"
  | .ladleSelectorSignal .. => "LADLE_SELECTOR_SIGNAL"
  | .hostQueuePopRead .. => "HOST_QUEUE_POP_READ"
  | .hostRingTransfer .. => "HOST_RING_TRANSFER"
  | .hostQueueIrqDelay .. => "HOST_QUEUE_IRQ_DELAY"
  | .hostQueueLocalWrite .. => "HOST_QUEUE_LOCAL_WRITE"
  | .hostLostEntry .. => "HOST_LOST_ENTRY"
  | .hostLostExit .. => "HOST_LOST_EXIT"
  | .smbusBlockWrite .. => "SMBUS_BLOCK_WRITE"
  | .smbusSetPointer .. => "SMBUS_SET_POINTER"
  | .smbusBlockRead .. => "SMBUS_BLOCK_READ"
  | .smbusStatus .. => "SMBUS_STATUS"
  | .smbusSclTimeout => "SMBUS_SCL_TIMEOUT"
  | .linkTrainingDone .. => "LINK_TRAINING_DONE"
  | .linkTrainRetry .. => "LINK_TRAIN_RETRY"
  | .linkLaneFail .. => "LINK_LANE_FAIL"
  | .linkRetrainDone .. => "LINK_RETRAIN_DONE"
  | .linkRetrainRequest .. => "LINK_RETRAIN_REQUEST"
  | .linkEnable .. => "LINK_ENABLE"
  | .dataFrameReceive .. => "DATA_FRAME_RECEIVE"
  | .returnFrameReceive .. => "RETURN_FRAME_RECEIVE"
  | .idleFrameReceive .. => "IDLE_FRAME_RECEIVE"
  | .nakFrameReceive .. => "NAK_FRAME_RECEIVE"
  | .mgmtFrameReceive .. => "MGMT_FRAME_RECEIVE"
  | .dataFrameSend .. => "DATA_FRAME_SEND"
  | .idleFrameSend .. => "IDLE_FRAME_SEND"
  | .linkAckTimeout .. => "LINK_ACK_TIMEOUT"
  | .linkPeerTimeout .. => "LINK_PEER_TIMEOUT"
  | .discoveryStable => "DISCOVERY_STABLE"
  | .discoveryTimeout => "DISCOVERY_TIMEOUT"
  | .timeSyncExchange .. => "TIME_SYNC_EXCHANGE"
  | .remotePrepare => "REMOTE_PREPARE"
  | .learningClearAll .. => "LEARNING_CLEAR_ALL"
  | .learningClearOne .. => "LEARNING_CLEAR_ONE"
  | .vernierResetAssert => "VERNIER_RESET_ASSERT"
  | .vernierResetRelease => "VERNIER_RESET_RELEASE"
  | .vernierBootDone => "VERNIER_BOOT_DONE"
  | .lockstepMismatch => "LOCKSTEP_MISMATCH"
  | .encoderEdge .. => "ENCODER_EDGE"
  | .vernierFrameStart => "VERNIER_FRAME_START"
  | .profileFrameEnd => "PROFILE_FRAME_END"
  | .profileSummaryDone => "PROFILE_SUMMARY_DONE"
  | .resultRecordPublish => "RESULT_RECORD_PUBLISH"
  | .indicatorRead .. => "INDICATOR_READ"
  | .indicatorStatus => "INDICATOR_STATUS"
  | .indicatorOther .. => "INDICATOR_OTHER"
  | .sealChange .. => "SEAL_CHANGE"
  | .fwChunk .. => "FW_CHUNK"
  | .vrnFwActivate .. => "VRN_FW_ACTIVATE"
  | .parChunk .. => "PAR_CHUNK"
  | .parCommit .. => "PAR_COMMIT"
  | .archive .. => "ARCHIVE"
  | .abortStaged .. => "ABORT"
  | .challenge .. => "CHALLENGE"
  | .verifySession .. => "VERIFY"
  | .closeSession .. => "CLOSE"
  | .progKey .. => "PROG_KEY"
  | .revokeKey .. => "REVOKE_KEY"
  | .provMaker .. => "PROV_MAKER"
  | .keyProgramDone .. => "KEY_PROGRAM_DONE"
  | .keyRevokeDone .. => "KEY_REVOKE_DONE"
  | .sessionIdleTimeout => "SESSION_IDLE_TIMEOUT"
  | .secSealChange .. => "SEC_SEAL_CHANGE"
  | .lockoutExpiry => "LOCKOUT_EXPIRY"
  | .sleep .. => "SLEEP"
  | .deepState .. => "DEEP"
  | .wake .. => "WAKE"
  | .profile .. => "PROFILE"
  | .deviceStateReached => "DEVICE_STATE_REACHED"
  | .wakeSource .. => "WAKE_SOURCE"
  | .limiterTick .. => "LIMITER_TICK"
  | .thermalSample .. => "THERMAL_SAMPLE"
  | .domainIdleEntry .. => "DOMAIN_IDLE_ENTRY"
  | .domainIdleExit .. => "DOMAIN_IDLE_EXIT"
  | .wakeStageReady .. => "WAKE_STAGE_READY"
  | .wakeStageTimeout .. => "WAKE_STAGE_TIMEOUT"
  | .wakeRetry .. => "WAKE_RETRY"
  | .domainHardFailure .. => "DOMAIN_HARD_FAILURE"
  | .domainPowerDownDone .. => "DOMAIN_POWER_DOWN_DONE"
  | .voltageRampDone .. => "VOLTAGE_RAMP_DONE"
  | .clockSwitchDone .. => "CLOCK_SWITCH_DONE"
  | .pmbusStatusPoll .. => "PMBUS_STATUS_POLL"
  | .pwrCeilWrite .. => "PWR_CEIL_WRITE"
  | .pwrfailAssert => "PWRFAIL_ASSERT"
  | .pwrfailRelease => "PWRFAIL_RELEASE"
  | .porstAssert => "PORST_ASSERT"
  | .porstRelease => "PORST_RELEASE"
  | .sysrstAssert => "SYSRST_ASSERT"
  | .sysrstRelease => "SYSRST_RELEASE"
  | .aonSupplyLow => "AON_SUPPLY_LOW"
  | .warmReset .. => "WARM"
  | .warmFull .. => "WARM_FULL"
  | .watchdogExpiry => "WATCHDOG_EXPIRY"
  | .smcBootRestart => "SMC_BOOT_RESTART"
  | .tapReset => "TAP_RESET"
  | .releaseOrderStep => "RELEASE_ORDER_STEP"
  | .fuseLoadDone => "FUSE_LOAD_DONE"
  | .rstoutRelease => "RSTOUT_RELEASE"
  | .startStageEnd .. => "START_STAGE_END"
  | .coreWave .. => "CORE_WAVE"
  | .pciePerstRelease => "PCIE_PERST_RELEASE"
  | .isolationComplete .. => "ISOLATION_COMPLETE"
  | .bandRowDrained => "BAND_ROW_DRAINED"
  | .coreCopyDone => "CORE_COPY_DONE"
  | .fwInstall .. => "FW_INSTALL"
  | .fwActivate .. => "FW_ACTIVATE"
  | .fwSetreset .. => "FW_SETRESET"
  | .diagDataRead .. => "DIAG_DATA_READ"
  | .faultReportIntake => "FAULT_REPORT_INTAKE"
  | .hangCheckExpiry .. => "HANG_CHECK_EXPIRY"
  | .recoveryBegin .. => "RECOVERY_BEGIN"
  | .recoveryRestore .. => "RECOVERY_RESTORE"
  | .replayArrivalFeed .. => "REPLAY_ARRIVAL_FEED"
  | .recoveryRejoin .. => "RECOVERY_REJOIN"
  | .suspectSearch .. => "SUSPECT_SEARCH"
  | .recoveryCopyWrite => "RECOVERY_COPY_WRITE"
  | .availabilitySave => "AVAILABILITY_SAVE"
  | .timerFire .. => "TIMER_FIRE"
  | .timerCompareWrite .. => "TIMER_COMPARE_WRITE"
  | .timerCtrlWrite .. => "TIMER_CTRL_WRITE"
  | .timerGroupStart .. => "TIMER_GROUP_START"
  | .pulseEnd .. => "PULSE_END"
  | .lfModeEntry => "LF_MODE_ENTRY"
  | .lfModeExit => "LF_MODE_EXIT"
  | .lfclkLost => "LFCLK_LOST"
  | .ephemerisArm .. => "EPHEMERIS_ARM"
  | .ephemerisMessageSend => "EPHEMERIS_MESSAGE_SEND"
  | .perfCounterClear .. => "PERF_COUNTER_CLEAR"
  | .perfCountReport .. => "PERF_COUNT_REPORT"
  | .debugHaltWrite .. => "DEBUG_HALT_WRITE"
  | .smcDebugHalt => "SMC_DEBUG_HALT"
  | .smcDebugResume .. => "SMC_DEBUG_RESUME"
  | .csiLinkStateChange .. => "CSI_LINK_STATE_CHANGE"
  | .lfclkReturn => "LFCLK_RETURN"
  | .aonSupplyReturn => "AON_SUPPLY_RETURN"
  | .smcRequestReceive => "SMC_REQUEST_RECEIVE"

/-- The name of the command stands in the table at the row of the command. -/
def Statement (i : Instr) : Prop := (rowNames.getD (row i).1 []).getD (row i).2 "" = mnemonic i

theorem registerWrite (src : Src) (addr : Nat) (len : Nat) (data : Nat) : Statement (.registerWrite src addr len data) := rfl
theorem rcRegisterRead (src : Src) (addr : Nat) (len : Nat) : Statement (.rcRegisterRead src addr len) := rfl
theorem counterLowRead (src : Src) (addr : Nat) (len : Nat) : Statement (.counterLowRead src addr len) := rfl
theorem windowStorageWrite (src : Src) (addr : Nat) (data : List (BitVec 8)) : Statement (.windowStorageWrite src addr data) := rfl
theorem pcieConfigRequest (write : Bool) (off : Nat) (data : Nat) : Statement (.pcieConfigRequest write off data) := rfl
theorem loadSlot (src : Src) (slot : Nat) : Statement (.loadSlot src slot) := rfl
theorem loadHost (src : Src) : Statement (.loadHost src) := rfl
theorem imageStopForLoad : Statement (.imageStopForLoad) := rfl
theorem imageClearDone : Statement (.imageClearDone) := rfl
theorem imageSectionStreamed : Statement (.imageSectionStreamed) := rfl
theorem configWrite (lcn : Nat) : Statement (.configWrite lcn) := rfl
theorem imageVerifyDone : Statement (.imageVerifyDone) := rfl
theorem install (src : Src) (slot : Nat) : Statement (.install src slot) := rfl
theorem installProgramDone : Statement (.installProgramDone) := rfl
theorem activateDelta (src : Src) (arg : Nat) : Statement (.activateDelta src arg) := rfl
theorem discardDelta (src : Src) : Statement (.discardDelta src) := rfl
theorem settingsReset (src : Src) (slot : Nat) : Statement (.settingsReset src slot) := rfl
theorem eventQueueAccept (lcn : Nat) (vc : Nat) : Statement (.eventQueueAccept lcn vc) := rfl
theorem accumulateEntry (lcn : Nat) : Statement (.accumulateEntry lcn) := rfl
theorem axonEntryRead (lcn : Nat) : Statement (.axonEntryRead lcn) := rfl
theorem synapseBeat (lcn : Nat) : Statement (.synapseBeat lcn) := rfl
theorem ncrDpoolWrite (src : Src) (lcn : Nat) (data : Nat) : Statement (.ncrDpoolWrite src lcn data) := rfl
theorem stepAdmit (lcn : Nat) : Statement (.stepAdmit lcn) := rfl
theorem accumulateEnd (lcn : Nat) : Statement (.accumulateEnd lcn) := rfl
theorem groupRunStart (lcn : Nat) : Statement (.groupRunStart lcn) := rfl
theorem nop (lcn : Nat) : Statement (.nop lcn) := rfl
theorem mov (lcn : Nat) : Statement (.mov lcn) := rfl
theorem add (lcn : Nat) : Statement (.add lcn) := rfl
theorem sub (lcn : Nat) : Statement (.sub lcn) := rfl
theorem mul (lcn : Nat) : Statement (.mul lcn) := rfl
theorem mac (lcn : Nat) : Statement (.mac lcn) := rfl
theorem minOp (lcn : Nat) : Statement (.minOp lcn) := rfl
theorem maxOp (lcn : Nat) : Statement (.maxOp lcn) := rfl
theorem absOp (lcn : Nat) : Statement (.absOp lcn) := rfl
theorem andOp (lcn : Nat) : Statement (.andOp lcn) := rfl
theorem orOp (lcn : Nat) : Statement (.orOp lcn) := rfl
theorem xor (lcn : Nat) : Statement (.xor lcn) := rfl
theorem shl (lcn : Nat) : Statement (.shl lcn) := rfl
theorem shr (lcn : Nat) : Statement (.shr lcn) := rfl
theorem clt (lcn : Nat) : Statement (.clt lcn) := rfl
theorem cle (lcn : Nat) : Statement (.cle lcn) := rfl
theorem ceq (lcn : Nat) : Statement (.ceq lcn) := rfl
theorem movi (lcn : Nat) : Statement (.movi lcn) := rfl
theorem addi (lcn : Nat) : Statement (.addi lcn) := rfl
theorem muli (lcn : Nat) : Statement (.muli lcn) := rfl
theorem clti (lcn : Nat) : Statement (.clti lcn) := rfl
theorem cgei (lcn : Nat) : Statement (.cgei lcn) := rfl
theorem lut (lcn : Nat) : Statement (.lut lcn) := rfl
theorem decay (lcn : Nat) : Statement (.decay lcn) := rfl
theorem trace (lcn : Nat) : Statement (.trace lcn) := rfl
theorem rda (lcn : Nat) : Statement (.rda lcn) := rfl
theorem get (lcn : Nat) : Statement (.get lcn) := rfl
theorem setq (lcn : Nat) : Statement (.setq lcn) := rfl
theorem br (lcn : Nat) : Statement (.br lcn) := rfl
theorem emit (lcn : Nat) : Statement (.emit lcn) := rfl
theorem emitg (lcn : Nat) : Statement (.emitg lcn) := rfl
theorem sendSum (lcn : Nat) : Statement (.sendSum lcn) := rfl
theorem sendMessage (lcn : Nat) : Statement (.sendMessage lcn) := rfl
theorem endRun (lcn : Nat) : Statement (.endRun lcn) := rfl
theorem uclimitExpiry (lcn : Nat) : Statement (.uclimitExpiry lcn) := rfl
theorem stepSeal (lcn : Nat) : Statement (.stepSeal lcn) := rfl
theorem coreScrubWord (lcn : Nat) : Statement (.coreScrubWord lcn) := rfl
theorem vaultScrubWord (part : Nat) : Statement (.vaultScrubWord part) := rfl
theorem rowCopyDone (part : Nat) : Statement (.rowCopyDone part) := rfl
theorem horizonReportReceive (who : Nat) : Statement (.horizonReportReceive who) := rfl
theorem horizonTimeout (lcn : Nat) : Statement (.horizonTimeout lcn) := rfl
theorem tundishAdmit : Statement (.tundishAdmit) := rfl
theorem tundishInjectionEnd : Statement (.tundishInjectionEnd) := rfl
theorem tundishStepSeal : Statement (.tundishStepSeal) := rfl
theorem modePrepare (who : Nat) : Statement (.modePrepare who) := rfl
theorem modeAckReceive : Statement (.modeAckReceive) := rfl
theorem modeCommitTimeout : Statement (.modeCommitTimeout) := rfl
theorem modeCommitReceive (who : Nat) : Statement (.modeCommitReceive who) := rfl
theorem modeAbortReceive (who : Nat) : Statement (.modeAbortReceive who) := rfl
theorem startRun (src : Src) : Statement (.startRun src) := rfl
theorem holdRun (src : Src) : Statement (.holdRun src) := rfl
theorem resumeRun (src : Src) : Statement (.resumeRun src) := rfl
theorem stepRun (src : Src) (arg : Nat) : Statement (.stepRun src arg) := rfl
theorem stopRun (src : Src) : Statement (.stopRun src) := rfl
theorem learnOn (src : Src) : Statement (.learnOn src) := rfl
theorem learnOff (src : Src) : Statement (.learnOff src) := rfl
theorem lockstepMode (src : Src) : Statement (.lockstepMode src) := rfl
theorem horizonMode (src : Src) : Statement (.horizonMode src) := rfl
theorem steplen (src : Src) (arg : Nat) : Statement (.steplen src arg) := rfl
theorem runHeld : Statement (.runHeld) := rfl
theorem routerPacketArrive (node : Nat) (port : Nat) (err : Bool) : Statement (.routerPacketArrive node port err) := rfl
theorem routerRoute (lcn : Nat) (port : Nat) (vc : Nat) : Statement (.routerRoute lcn port vc) := rfl
theorem routerPacketSend (lcn : Nat) (out : Nat) (aged : List Nat) : Statement (.routerPacketSend lcn out aged) := rfl
theorem passThroughForward (pcn : Nat) (port : Nat) (vc : Nat) : Statement (.passThroughForward pcn port vc) := rfl
theorem creditReturn (node : Nat) (port : Nat) (vc : Nat) : Statement (.creditReturn node port vc) := rfl
theorem escapeTimeout (lcn : Nat) (port : Nat) (vc : Nat) : Statement (.escapeTimeout lcn port vc) := rfl
theorem retirementToken (n : Nat) : Statement (.retirementToken n) := rfl
theorem combineWindowClose (lcn : Nat) (entry : Nat) : Statement (.combineWindowClose lcn entry) := rfl
theorem faultCoalesceClose (lcn : Nat) (entry : Nat) : Statement (.faultCoalesceClose lcn entry) := rfl
theorem injectorDrained (who : Nat) : Statement (.injectorDrained who) := rfl
theorem drainReceive : Statement (.drainReceive) := rfl
theorem msgRequestAccept (lcn : Nat) : Statement (.msgRequestAccept lcn) := rfl
theorem forwardSend (lcn : Nat) : Statement (.forwardSend lcn) := rfl
theorem selectorPop (src : Src) (lcn : Nat) (sel : Nat) : Statement (.selectorPop src lcn sel) := rfl
theorem msgRelease (src : Src) (lcn : Nat) (queue : Nat) : Statement (.msgRelease src lcn queue) := rfl
theorem msgReplyReceive (who : Nat) : Statement (.msgReplyReceive who) := rfl
theorem msgReplyTimeout (who : Nat) (desc : Nat) : Statement (.msgReplyTimeout who desc) := rfl
theorem msgQueueConfigWrite (src : Src) (lcn : Nat) (queue : Nat) (ring : Bool) (data : Nat) : Statement (.msgQueueConfigWrite src lcn queue ring data) := rfl
theorem preRecordApply (part : Nat) : Statement (.preRecordApply part) := rfl
theorem rewardReceive (part : Nat) : Statement (.rewardReceive part) := rfl
theorem epochPassBegin (part : Nat) : Statement (.epochPassBegin part) := rfl
theorem checkpointComplete (part : Nat) : Statement (.checkpointComplete part) := rfl
theorem synapseUpdate (part : Nat) : Statement (.synapseUpdate part) := rfl
theorem pass1End (part : Nat) : Statement (.pass1End part) := rfl
theorem synapseRescale (part : Nat) : Statement (.synapseRescale part) := rfl
theorem epochPassEnd (part : Nat) : Statement (.epochPassEnd part) := rfl
theorem weightSaveBegin : Statement (.weightSaveBegin) := rfl
theorem weightSaveChunk (part : Nat) : Statement (.weightSaveChunk part) := rfl
theorem csiLongPacket (port : Nat) (header : Nat) (payload : List (BitVec 8)) (crc : Nat) : Statement (.csiLongPacket port header payload crc) := rfl
theorem csiFrameStart (port : Nat) (vc : Nat) (frame : Nat) : Statement (.csiFrameStart port vc frame) := rfl
theorem csiFrameEnd (port : Nat) (vc : Nat) (frame : Nat) : Statement (.csiFrameEnd port vc frame) := rfl
theorem csi3Copy (header : Nat) (payload : List (BitVec 8)) (crc : Nat) : Statement (.csi3Copy header payload crc) := rfl
theorem streamDecode (port : Nat) : Statement (.streamDecode port) := rfl
theorem tundishInject (row : Nat) : Statement (.tundishInject row) := rfl
theorem hostEventInject (ch : Nat) : Statement (.hostEventInject ch) := rfl
theorem countRecordSend (lcn : Nat) : Statement (.countRecordSend lcn) := rfl
theorem countRecordRetry (lcn : Nat) : Statement (.countRecordRetry lcn) := rfl
theorem windowRecordRetry : Statement (.windowRecordRetry) := rfl
theorem ladleDoorbell (src : Src) (ch : Nat) (tail : Nat) : Statement (.ladleDoorbell src ch tail) := rfl
theorem ladleChannelEnable (src : Src) (ch : Nat) (cfg : Nat) : Statement (.ladleChannelEnable src ch cfg) := rfl
theorem ladleChannelDisable (src : Src) (ch : Nat) (cfg : Nat) : Statement (.ladleChannelDisable src ch cfg) := rfl
theorem ladleNop (ch : Nat) : Statement (.ladleNop ch) := rfl
theorem ladleH2d (ch : Nat) : Statement (.ladleH2d ch) := rfl
theorem ladleD2h (ch : Nat) : Statement (.ladleD2h ch) := rfl
theorem ladleEvents (ch : Nat) : Statement (.ladleEvents ch) := rfl
theorem ladleMsg (ch : Nat) : Statement (.ladleMsg ch) := rfl
theorem ladleReadq (ch : Nat) : Statement (.ladleReadq ch) := rfl
theorem ladleSegment (ch : Nat) : Statement (.ladleSegment ch) := rfl
theorem ladleCompletion (ch : Nat) : Statement (.ladleCompletion ch) := rfl
theorem ladleReadTimeout (ch : Nat) : Statement (.ladleReadTimeout ch) := rfl
theorem hostQueueAccept (att : Nat) : Statement (.hostQueueAccept att) := rfl
theorem ladleSelectorSignal (att : Nat) : Statement (.ladleSelectorSignal att) := rfl
theorem hostQueuePopRead (queue : Nat) (off : Nat) (len : Nat) : Statement (.hostQueuePopRead queue off len) := rfl
theorem hostRingTransfer (queue : Nat) : Statement (.hostRingTransfer queue) := rfl
theorem hostQueueIrqDelay (queue : Nat) : Statement (.hostQueueIrqDelay queue) := rfl
theorem hostQueueLocalWrite (src : Src) (queue : Nat) (data : Nat) : Statement (.hostQueueLocalWrite src queue data) := rfl
theorem hostLostEntry (cause : LostCause) : Statement (.hostLostEntry cause) := rfl
theorem hostLostExit (speed : Nat) (width : Nat) : Statement (.hostLostExit speed width) := rfl
theorem smbusBlockWrite (bytes : List (BitVec 8)) (pecOk : Bool) : Statement (.smbusBlockWrite bytes pecOk) := rfl
theorem smbusSetPointer (bytes : List (BitVec 8)) (pecOk : Bool) : Statement (.smbusSetPointer bytes pecOk) := rfl
theorem smbusBlockRead (pecOk : Bool) : Statement (.smbusBlockRead pecOk) := rfl
theorem smbusStatus (pecOk : Bool) : Statement (.smbusStatus pecOk) := rfl
theorem smbusSclTimeout : Statement (.smbusSclTimeout) := rfl
theorem linkTrainingDone (link : Nat) (lanes : Nat) : Statement (.linkTrainingDone link lanes) := rfl
theorem linkTrainRetry (link : Nat) : Statement (.linkTrainRetry link) := rfl
theorem linkLaneFail (link : Nat) (lane : Nat) : Statement (.linkLaneFail link lane) := rfl
theorem linkRetrainDone (link : Nat) (lanes : Nat) : Statement (.linkRetrainDone link lanes) := rfl
theorem linkRetrainRequest (src : Src) (link : Nat) : Statement (.linkRetrainRequest src link) := rfl
theorem linkEnable (src : Src) (link : Nat) : Statement (.linkEnable src link) := rfl
theorem dataFrameReceive (link : Nat) (frame : List (BitVec 8)) : Statement (.dataFrameReceive link frame) := rfl
theorem returnFrameReceive (link : Nat) (frame : List (BitVec 8)) : Statement (.returnFrameReceive link frame) := rfl
theorem idleFrameReceive (link : Nat) (frame : List (BitVec 8)) : Statement (.idleFrameReceive link frame) := rfl
theorem nakFrameReceive (link : Nat) (frame : List (BitVec 8)) : Statement (.nakFrameReceive link frame) := rfl
theorem mgmtFrameReceive (link : Nat) (frame : List (BitVec 8)) : Statement (.mgmtFrameReceive link frame) := rfl
theorem dataFrameSend (link : Nat) : Statement (.dataFrameSend link) := rfl
theorem idleFrameSend (link : Nat) : Statement (.idleFrameSend link) := rfl
theorem linkAckTimeout (link : Nat) : Statement (.linkAckTimeout link) := rfl
theorem linkPeerTimeout (link : Nat) : Statement (.linkPeerTimeout link) := rfl
theorem discoveryStable : Statement (.discoveryStable) := rfl
theorem discoveryTimeout : Statement (.discoveryTimeout) := rfl
theorem timeSyncExchange (offset : Int) : Statement (.timeSyncExchange offset) := rfl
theorem remotePrepare : Statement (.remotePrepare) := rfl
theorem learningClearAll (src : Src) : Statement (.learningClearAll src) := rfl
theorem learningClearOne (src : Src) (entry : Nat) : Statement (.learningClearOne src entry) := rfl
theorem vernierResetAssert : Statement (.vernierResetAssert) := rfl
theorem vernierResetRelease : Statement (.vernierResetRelease) := rfl
theorem vernierBootDone : Statement (.vernierBootDone) := rfl
theorem lockstepMismatch : Statement (.lockstepMismatch) := rfl
theorem encoderEdge (enc : Nat) (move : EncMove) : Statement (.encoderEdge enc move) := rfl
theorem vernierFrameStart : Statement (.vernierFrameStart) := rfl
theorem profileFrameEnd : Statement (.profileFrameEnd) := rfl
theorem profileSummaryDone : Statement (.profileSummaryDone) := rfl
theorem resultRecordPublish : Statement (.resultRecordPublish) := rfl
theorem indicatorRead (addr : Nat) (len : Nat) (hits : List Nat) : Statement (.indicatorRead addr len hits) := rfl
theorem indicatorStatus : Statement (.indicatorStatus) := rfl
theorem indicatorOther (cmd : Nat) (len : Nat) : Statement (.indicatorOther cmd len) := rfl
theorem sealChange (closed : Bool) : Statement (.sealChange closed) := rfl
theorem fwChunk (src : Src) (index : Nat) : Statement (.fwChunk src index) := rfl
theorem vrnFwActivate (src : Src) : Statement (.vrnFwActivate src) := rfl
theorem parChunk (src : Src) (index : Nat) : Statement (.parChunk src index) := rfl
theorem parCommit (src : Src) : Statement (.parCommit src) := rfl
theorem archive (src : Src) : Statement (.archive src) := rfl
theorem abortStaged (src : Src) : Statement (.abortStaged src) := rfl
theorem challenge (src : Src) (role : Nat) (slot : Nat) : Statement (.challenge src role slot) := rfl
theorem verifySession (src : Src) : Statement (.verifySession src) := rfl
theorem closeSession (src : Src) : Statement (.closeSession src) := rfl
theorem progKey (src : Src) (role : Nat) (slot : Nat) : Statement (.progKey src role slot) := rfl
theorem revokeKey (src : Src) (role : Nat) (slot : Nat) : Statement (.revokeKey src role slot) := rfl
theorem provMaker (src : Src) : Statement (.provMaker src) := rfl
theorem keyProgramDone (good : Bool) : Statement (.keyProgramDone good) := rfl
theorem keyRevokeDone (good : Bool) : Statement (.keyRevokeDone good) := rfl
theorem sessionIdleTimeout : Statement (.sessionIdleTimeout) := rfl
theorem secSealChange (closed : Bool) : Statement (.secSealChange closed) := rfl
theorem lockoutExpiry : Statement (.lockoutExpiry) := rfl
theorem sleep (src : Src) : Statement (.sleep src) := rfl
theorem deepState (src : Src) : Statement (.deepState src) := rfl
theorem wake (src : Src) : Statement (.wake src) := rfl
theorem profile (src : Src) (prof : Nat) (arg : Nat) : Statement (.profile src prof arg) := rfl
theorem deviceStateReached : Statement (.deviceStateReached) := rfl
theorem wakeSource (source : WakeSource) : Statement (.wakeSource source) := rfl
theorem limiterTick (draw : Nat) : Statement (.limiterTick draw) := rfl
theorem thermalSample (temps : List Int) : Statement (.thermalSample temps) := rfl
theorem domainIdleEntry (dom : Nat) : Statement (.domainIdleEntry dom) := rfl
theorem domainIdleExit (dom : Nat) : Statement (.domainIdleExit dom) := rfl
theorem wakeStageReady (dom : Nat) : Statement (.wakeStageReady dom) := rfl
theorem wakeStageTimeout (dom : Nat) (pos : Nat) : Statement (.wakeStageTimeout dom pos) := rfl
theorem wakeRetry (dom : Nat) : Statement (.wakeRetry dom) := rfl
theorem domainHardFailure (dom : Nat) : Statement (.domainHardFailure dom) := rfl
theorem domainPowerDownDone (dom : Nat) : Statement (.domainPowerDownDone dom) := rfl
theorem voltageRampDone (dom : Nat) : Statement (.voltageRampDone dom) := rfl
theorem clockSwitchDone (dom : Nat) : Statement (.clockSwitchDone dom) := rfl
theorem pmbusStatusPoll (status : Nat) (vout : Nat) : Statement (.pmbusStatusPoll status vout) := rfl
theorem pwrCeilWrite (src : Src) (data : Nat) : Statement (.pwrCeilWrite src data) := rfl
theorem pwrfailAssert : Statement (.pwrfailAssert) := rfl
theorem pwrfailRelease : Statement (.pwrfailRelease) := rfl
theorem porstAssert : Statement (.porstAssert) := rfl
theorem porstRelease : Statement (.porstRelease) := rfl
theorem sysrstAssert : Statement (.sysrstAssert) := rfl
theorem sysrstRelease : Statement (.sysrstRelease) := rfl
theorem aonSupplyLow : Statement (.aonSupplyLow) := rfl
theorem warmReset (src : Src) : Statement (.warmReset src) := rfl
theorem warmFull (src : Src) : Statement (.warmFull src) := rfl
theorem watchdogExpiry : Statement (.watchdogExpiry) := rfl
theorem smcBootRestart : Statement (.smcBootRestart) := rfl
theorem tapReset : Statement (.tapReset) := rfl
theorem releaseOrderStep : Statement (.releaseOrderStep) := rfl
theorem fuseLoadDone : Statement (.fuseLoadDone) := rfl
theorem rstoutRelease : Statement (.rstoutRelease) := rfl
theorem startStageEnd (found : List Nat) : Statement (.startStageEnd found) := rfl
theorem coreWave (wave : Nat) : Statement (.coreWave wave) := rfl
theorem pciePerstRelease : Statement (.pciePerstRelease) := rfl
theorem isolationComplete (part : Nat) : Statement (.isolationComplete part) := rfl
theorem bandRowDrained : Statement (.bandRowDrained) := rfl
theorem coreCopyDone : Statement (.coreCopyDone) := rfl
theorem fwInstall (src : Src) (slot : Nat) : Statement (.fwInstall src slot) := rfl
theorem fwActivate (src : Src) (slot : Nat) : Statement (.fwActivate src slot) := rfl
theorem fwSetreset (src : Src) (slot : Nat) : Statement (.fwSetreset src slot) := rfl
theorem diagDataRead (src : Src) : Statement (.diagDataRead src) := rfl
theorem faultReportIntake : Statement (.faultReportIntake) := rfl
theorem hangCheckExpiry (slot : Nat) : Statement (.hangCheckExpiry slot) := rfl
theorem recoveryBegin (part : Nat) : Statement (.recoveryBegin part) := rfl
theorem recoveryRestore (part : Nat) : Statement (.recoveryRestore part) := rfl
theorem replayArrivalFeed (part : Nat) : Statement (.replayArrivalFeed part) := rfl
theorem recoveryRejoin (part : Nat) : Statement (.recoveryRejoin part) := rfl
theorem suspectSearch (part : Nat) (ctx : Nat) (guilty : Bool) : Statement (.suspectSearch part ctx guilty) := rfl
theorem recoveryCopyWrite : Statement (.recoveryCopyWrite) := rfl
theorem availabilitySave : Statement (.availabilitySave) := rfl
theorem timerFire (ch : Nat) : Statement (.timerFire ch) := rfl
theorem timerCompareWrite (src : Src) (ch : Nat) (data : Nat) : Statement (.timerCompareWrite src ch data) := rfl
theorem timerCtrlWrite (src : Src) (ch : Nat) (data : Nat) : Statement (.timerCtrlWrite src ch data) := rfl
theorem timerGroupStart (src : Src) (data : Nat) : Statement (.timerGroupStart src data) := rfl
theorem pulseEnd (ch : Nat) : Statement (.pulseEnd ch) := rfl
theorem lfModeEntry : Statement (.lfModeEntry) := rfl
theorem lfModeExit : Statement (.lfModeExit) := rfl
theorem lfclkLost : Statement (.lfclkLost) := rfl
theorem ephemerisArm (src : Src) (alarm : Nat) (word : Nat) (data : Nat) : Statement (.ephemerisArm src alarm word data) := rfl
theorem ephemerisMessageSend : Statement (.ephemerisMessageSend) := rfl
theorem perfCounterClear (src : Src) : Statement (.perfCounterClear src) := rfl
theorem perfCountReport (events : List Nat) : Statement (.perfCountReport events) := rfl
theorem debugHaltWrite (src : Src) (group : Nat) (data : Nat) : Statement (.debugHaltWrite src group data) := rfl
theorem smcDebugHalt : Statement (.smcDebugHalt) := rfl
theorem smcDebugResume (forced : Bool) : Statement (.smcDebugResume forced) := rfl
theorem csiLinkStateChange (port : Nat) (link : Nat) : Statement (.csiLinkStateChange port link) := rfl
theorem lfclkReturn : Statement (.lfclkReturn) := rfl
theorem aonSupplyReturn : Statement (.aonSupplyReturn) := rfl
theorem smcRequestReceive : Statement (.smcRequestReceive) := rfl

end Sys2Proof.Laws.Named
end

