-- ==== Sys2Proof/Laws/Sha.lean ====
section
/-! SUPPORT. The constants of SHA-256 are what FIPS 180-4 takes them from: fraction bits of roots of the first primes. -/

namespace Sys2Proof.Laws

open Sys2Proof.Machine

/-- The 64 primes below 312. -/
def shaPrimes : List Nat := (List.range 312).filter (fun n => 1 < n && (List.range n).all (fun d => d < 2 || n % d != 0))

/-- `x` is the first 32 fraction bits of the `k`-th root of `p`. -/
def isRootFrac (k p x : Nat) : Bool :=
  (List.range 32).any (fun n => (n * 2 ^ 32 + x) ^ k ≤ p * 2 ^ (32 * k) && p * 2 ^ (32 * k) < (n * 2 ^ 32 + x + 1) ^ k)

/-- There are 64 of them. -/
theorem length_shaPrimes : shaPrimes.length = 64 := by decide +kernel

/-- The round constants are the fraction bits of the primes' cube roots. -/
theorem shaRound_roots : ((shaPrimes.zip (wordsOf shaRoundBits 64)).all (fun e => isRootFrac 3 e.1 e.2)) = true := by decide +kernel

/-- The initial hash value is the fraction bits of the square roots of the first 8. -/
theorem shaStart_roots : ((shaPrimes.zip (wordsOf shaStartBits 8)).all (fun e => isRootFrac 2 e.1 e.2)) = true := by decide +kernel

end Sys2Proof.Laws
end

