-- ==== Sys2Proof/Tests/Slice0.lean ====
section
/-! SUPPORT. Tests: the operand checks of WellFormed, worked examples of the spec, and for every clause of a statement that has
hypotheses a concrete state and operands that meet all of them (`test_meets_<part>_<clause>`). The expected values of the examples are
the spec's own. -/

set_option linter.unusedVariables false
set_option linter.unnecessarySeqFocus false
set_option Elab.async false

namespace Sys2Proof.Tests
open Sys2Proof Sys2Proof.Machine Sys2Proof.Claims
/-- A state with some registers set, each entry an address and a value. -/
def regs (l : List (Nat × Nat)) : State := l.foldl (fun s e => s.wr e.1 (BitVec.ofNat 32 e.2)) State.reset
/-- Bytes laid out by offset and value. -/
def raw (n : Nat) (l : List (Nat × Nat)) : List Byte := leBytes n (l.map (fun e => e.2 * 256 ^ e.1)).sum
/-- Bytes with their CRC behind them. -/
def sealCrc (b : List Byte) : List Byte := b ++ leBytes 4 (crc32 b)
/-- An Almanac entry of one target. -/
def entry (type off : Nat) (b : List Byte) : List Byte :=
  raw 32 [(0, type), (6, 1), (16, off), (20, b.length), (24, b.length), (28, crc32 b)]
/-- A small full image: one section of each required type, all of zeros; its signature is left out. -/
def fullImage : List Byte :=
  sealCrc (raw 92 [(0, 0x4C545244), (4, 1), (6, 96), (8, 448), (12, 4), (15, 7), (20, 0x964)]) ++
    entry 1 224 [0] ++ entry 2 240 [0] ++ entry 9 256 [0] ++ entry 15 272 (zeros 8)
/-- A signed delta image with two sections of a type that a loader ignores. -/
def signedImage : List Byte := leBytes 352 0xb18cec430000000000000000000000000000000000000000ccb90039b45c8a9b8c1247926d3801faec5203186b06e8dad30dc07ee9ca1c93ccb90039b45c8a9b8c1247926d3801faec5203186b06e8dad30dc07ee9ca1c9374103f84b588500eeaa439fbe13aca337a1d5b924261222b3585dcadd9139c0fe7474fd43e7ce79ba491509a6f2b25eb30f87225f4a1b84ca1522865d2fe8751000001004e4749530000000000000000000000000000000000000000000000000000000000000000d202ef8d0000000100000001000000b000000000000000000001000000000080d202ef8d0000000100000001000000a0000000000000000000010000000000802daea1d7000000000000000000000000000000000000000000000000000000000000000000000000000000000000000000000000000000000000000000000000000000000000000000000964000000010701000200000160006000014c545244
/-- Registers after reset with an installer session and the domains of the host and of partition 0 ON, and more of them. -/
def inst (l : List (Nat × Nat)) : State :=
  regs ([(Reg.SEC_STAT, 0x40000000), (Reg.PWR_DSTAT 0, 0), (Reg.PWR_DSTAT 128, 0), (Reg.PWR_DSTAT 144, 0), (Reg.PWR_DSTAT 161, 0), (Reg.PWR_DSTAT 162, 0), (Reg.PWR_DSTAT 163, 0), (Reg.PWR_DSTAT 175, 0)] ++ l)
/-- The flash with a slot directory, and an image in slot A that is VALID. -/
def inFlash (s : State) (b : List Byte) : State :=
  { (s.store flashBase (sealCrc (raw 60 [(0, 0x544C5344), (4, 1), (8, 0x10000), (12, 0x20000), (16, 0x10000)]))).store (flashBase + 0x10000) b with
    pending := [] }.wr (Reg.SMC_IMGSLOT 0) 0x40000000
/-- The image in host memory, with the host's link up. -/
def atHost (s : State) (b : List Byte) : State :=
  ((({ s with host := State.memPut [] 0x1000 b }.wr Reg.SMC_IMGHADDR_LO 0x1000).wr Reg.SMC_IMGHLEN 0x1000).wr Reg.HIF_LINK 0x80000000).wr Reg.HIF_STAT 0
/-- A command of the image loader under way. -/
def job (install : Bool) (source base phase : Nat) (delta : Bool) : ImgJob :=
  ⟨install, source, base, 0x10000, delta, false, false, phase, 0, [], zeros 8, [], 0, 0, 0, false, 0⟩
/-- The state with a command of the image loader under way. -/
def withJob (s : State) (j : ImgJob) : State := { s with img := { s.img with job := some j } }
/-- The state with the key that signed `signedImage` in installer slot 0. -/
def keyed (s : State) : State := { s with sec := { s.sec with hashes := [(0, 0xe6d57e6a1073d3e56502fdb9c7404c3d1e109721f37f27d73dbda81a5395d1c2)] } }.wr Reg.SEC_OTP 1
/-- A packet with a correct CRC. -/
def pkt (cls key payload step : Nat) (data : List Byte) (r : RetPt) : Packet :=
  Packet.sign ⟨cls, 0, false, 0, 0, 0, false, 0, step, payload, key, data, r, none⟩
/-- The state with a packet waiting at a network interface or attachment. -/
def inbox (s : State) (n v : Nat) (p : Packet) : State := s.setPort n { s.port n with inbox := [(v, [p])] }
/-- A result that is a value. -/
theorem ok_of {α : Type} [DecidableEq α] {e : Except Nat α} {x : α}
    (h : (match e with | .ok y => decide (y = x) | .error _ => false) = true) : e = .ok x := by
  cases e with
  | ok y => simpa using h
  | error c => simp at h
theorem copyBank_of_empty (s : State) (g : Nat) (h : s.mem = []) : s.copyBank g = s := by
  unfold State.copyBank
  induction List.range 1024 with
  | nil => rfl
  | cons l ls ih =>
    rw [List.foldl_cons]
    have e : ({ s with mem := [] } : State) = s := by rw [← h]
    simpa [h, mapClear, e] using ih
/-- An outcome that is a next state. -/
theorem next_of {o : Host.Outcome State Fault Refusal} {t : State} (h : (match o with | .next u => decide (u = t) | _ => false) = true) : o = .next t := by
  cases o with
  | next u => simpa using h
  | fault _ => simp at h
  | refused _ => simp at h
/-- A lane of context 0 with zeros in every register. -/
def lane : Lane := ⟨true, 0, false, List.replicate 16 0, List.replicate 4 false, false, [0, 0, 0, 0], 5, 0, 0⟩
/-- A group run of model 0 at the first word, one lane. -/
def run0 : Run := ⟨0, 0, 0, 0, [lane], false⟩
/-- Core 0 in a run, the word at the start of its microcode store. -/
def uc (w : Nat) (r : Run) : State :=
  ({ regs [(Reg.NCR_STAT 0, 0x20000000)] with cores := [(0, { CoreInt.init with run := some r, plan := [(1, 0)] })] }).store 0x100020000 (leBytes 4 w)
theorem test_meets_AluRows : (∀ e ∈ [(0x01, false, false, false), (2, true, false, false), (3, true, false, false), (4, true, true, true), (5, true, true, true),
    (6, true, false, false), (7, true, false, false), (8, false, false, false), (9, true, false, false), (0xA, true, false, false), (0xB, true, false, false),
    (0xC, false, true, false), (0xD, false, true, true)],
    UcAt (uc (e.1 * 2 ^ 26) run0) 0 run0 (e.1 * 2 ^ 26) ∧ aluWord e.1 e.2.1 e.2.2.1 e.2.2.2 (e.1 * 2 ^ 26)) := by
  delta UcAt aluWord; decide +kernel
theorem test_meets_ImmAndCompareRows : (∀ op ∈ [0x10, 0x11, 0x12, 0x18, 0x19, 0x1A, 0x1B, 0x1C],
    UcAt (uc (op * 2 ^ 26) run0) 0 run0 (op * 2 ^ 26) ∧ bits (op * 2 ^ 26) 31 26 = op ∧ bits (op * 2 ^ 26) 25 21 < 16 ∧ bits (op * 2 ^ 26) 20 16 = 0 ∧
      bitAt (op * 2 ^ 26) 25 = false ∧ bits (op * 2 ^ 26) 24 23 ≠ 3 ∧ bitAt (op * 2 ^ 26) 9 = false ∧ bits (op * 2 ^ 26) 6 0 = 0) := by
  delta UcAt; decide +kernel
/-- The state with a packet at the head of a router's input buffer. -/
def held (s : State) (n p v : Nat) (h : Held) : State := s.setRouter n { s.router n with bufs := [(8 * p + v, [h])] }
/-- A packet whose CRC is right and that no one waits for. -/
def pk (cls key payload step : Nat) (data : List Byte) : Packet := pkt cls key payload step data .init
/-- The state with the Tundish's internal state. -/
def withTnd (s : State) (x : TndInt) : State := { s with tnd := x }
/-- The state with a Ladle channel's internal state. -/
def withChan (s : State) (n : Nat) (x : ChInt) : State := { s with ldl := { s.ldl with chans := [(n, x)] } }
/-- The Ladle with a descriptor of channel 0 in host memory and the doorbell rung. -/
def ladle (d : List Byte) (l : List (Nat × Nat)) : State :=
  { inst ([(Reg.HIF_STAT, 0), (Reg.LDL_CHCFG 0, 0x80000000), (Reg.LDL_CHSTAT 0, 0), (Reg.LDL_CHTAIL 0, 1), (Reg.LDL_CHDRING_LO 0, 0x2000)] ++ l) with
    host := State.memPut [] 0x2000 d }
/-- The state with the internal state of Temper unit 0. -/
def withTemper (s : State) (x : TemperInt) : State := { s with tempers := [(0, x)] }
/-- A partition with one pre entry, its rule set, and an axon entry of two plastic synapses. -/
def plastic (l : List (Nat × Nat)) : State :=
  (((regs ([(Reg.TMP_PREBASE 0, 0x1000), (Reg.TMP_PRELEN 0, 1), (Reg.NCR_AXLEN 0, 1)] ++ l)).store 0x200010000 (leBytes 4 0x80000000)).store
    0x201FFA000 (leBytes 4 0x80000000)).store 0x200000000 (leBytes 8 (2 ^ 63 + 0x100 * 2 ^ 17 + 2))
/-- Link 0 up, with its internal state. -/
def linked (l : List (Nat × Nat)) (x : LinkInt) : State :=
  let s := inst ([(Reg.PWR_DSTAT 167, 0), (Reg.SPL_SYSCFG, 0x80000000), (Reg.SPL_LSTAT 0, 0x5E000000)] ++ l)
  { s with spr := { s.spr with links := [(0, x)] } }
/-- A frame without credits. -/
def frame (ftype seq ack nflit : Nat) (slots : List Byte) : List Byte := frameBytes ⟨ftype, seq, ack, 0, nflit, none, [0, 0, 0, 0, 0, 0]⟩ slots
/-- A frame of link 0 that carries one packet flit. -/
def dataFrame : List Byte := frame 1 0 0 1 (pk 0 5 0 1 []).flit
/-- A commit record in the sealed MRAM. -/
def commitBytes (c : Commit) : List Byte := sealCrc c.body
/-- A firmware package of one byte. -/
def vrnPackage : List Byte :=
  raw 32 [(0, 0x50574656), (4, 1), (8, 1), (12, crc32 [0])] ++ sha256 [0]
/-- The first 136 bytes of a parameter set; the others are 0. -/
def parHead : List Byte := raw 136 [(0, 0x52415056), (4, 0x9), (8, 0x8400), (64, 0x1), (66, 0x50), (71, 0x2a), (72, 0x2), (74, 0x5), (81, 0xff), (82, 0x1), (84, 0x186a0), (96, 0x1), (98, 0x1), (132, 0xe0dc330c), (12, 0xffffffff)]
/-- The Vernier partition with a commit record, a package in slot 0 and a parameter set in slot 0. -/
def vern (l : List (Nat × Nat)) (c : Commit) : State :=
  let s := inst ([(Reg.PWR_DSTAT 174, 0)] ++ l)
  { ((s.store (commitAddr 0) (commitBytes c)).store (vfwAddr 0) vrnPackage).store (vparAddr 0) parHead with vrn := { VrnInt.init with live := true } }
/-- The commit record of a partition where nothing has been changed. -/
def commit0 : Commit := ⟨0, 0, 0, 0, 0, 0⟩
/-- A partition that runs with slots 1 in force, a maker's session open and the seal open, so that slots 0 can be activated. -/
def maker (l : List (Nat × Nat)) : State :=
  vern ([(Reg.SEC_STAT, 0x84000000), (Reg.VRN_STAT, 0x58000000), (Reg.VRN_UPDSTAT, 0)] ++ l) ⟨0, 0, 1, 1, 0, 0⟩
theorem crc32_append_zeros (b : List Byte) (n : Nat) (h : crc32 b = 0xFFFFFFFF) : crc32 (b ++ List.replicate n 0) = 0xFFFFFFFF := by
  unfold crc32 at h ⊢
  rw [List.foldl_append]
  generalize b.foldl _ _ = x at h ⊢
  have hx : x = 0 := by
    have := congrArg (· ^^^ 0xFFFFFFFF) h
    simpa [Nat.xor_assoc] using this
  subst hx
  have step : ∀ n, (List.replicate n (0 : Byte)).foldl (fun c b => crcStepLsb 0xEDB88320 (c ^^^ b.toNat) 8) 0 = 0 := by
    intro n
    induction n with
    | zero => rfl
    | succ n ih => simpa [List.replicate_succ, crcStepLsb] using ih
  rw [step]; rfl
theorem crc_of_zero_tail (s : State) (a n m : Nat) (hc : crc32 (s.bytes a n) = 0xFFFFFFFF)
    (hz : s.mem.all (fun e => decide (e.1 < a + n) || decide (a + n + m ≤ e.1)) = true) : crc32 (s.bytes a (n + m)) = 0xFFFFFFFF := by
  have hb : s.bytes a (n + m) = s.bytes a n ++ List.replicate m 0 := by
    apply List.ext_getElem
    · simp
    · intro i h1 h2
      rw [List.getElem_append, State.getElem_bytes]
      split
      · rw [State.getElem_bytes]
      · rename_i hi
        simp only [State.length_bytes] at h1 hi
        simp only [List.getElem_replicate, State.byte]
        apply mapGet_absent
        intro e he
        have := List.all_eq_true.1 hz e he
        simp only [Bool.or_eq_true, decide_eq_true_eq] at this
        omega
  rw [hb]; exact crc32_append_zeros _ _ hc
theorem parGood (s : State) (hc : crc32 (s.bytes (vparAddr 0 + 64) 72) = 0xFFFFFFFF)
    (hz : s.mem.all (fun e => decide (e.1 < vparAddr 0 + 64 + 72) || decide (vparAddr 0 + 64 + 72 + 33656 ≤ e.1)) = true)
    (h : s.par 0 8 4 = 33792) (hr : s.bytes (vparAddr 0) 136 = parHead ∧ (s.bytes (vparAddr 0 + 136) 888).all (· == 0) = true) : s.vparOk 0 = true := by
  have e := crc_of_zero_tail s _ _ _ hc hz
  have part : ∀ off n, off + n ≤ 136 → s.bytes (vparAddr 0 + off) n = (parHead.drop off).take n := by
    intro off n hn
    rw [← hr.1]
    apply List.ext_getElem
    · simp only [State.length_bytes, List.length_take, List.length_drop]; omega
    · intro i h1 h2
      rw [State.getElem_bytes, List.getElem_take, List.getElem_drop, State.getElem_bytes, Nat.add_assoc]
  have hp : ∀ off n, off + n ≤ 136 → s.par 0 off n = leNat ((parHead.drop off).take n) := fun off n hn => by
    unfold State.par State.num; rw [part off n hn]
  simp only [State.vparOk, h, e, hr.2]
  simp (disch := decide) only [hp, part]
  decide +kernel
/-- The response buffer with a key, and a signature of it over the challenge block below. -/
def response : List (Nat × Nat) :=
  (List.range 32).map (fun i => (Reg.SEC_RESP i, bits 0x7be0924a84b29d2d8e1b46c8c465e0832a396bc05939fd265d60403eadc9b89a7be0924a84b29d2d8e1b46c8c465e0832a396bc05939fd265d60403eadc9b89a38dadf5db56456e86548ddd3856cd9b71900bfcebde2f839b07013545a80f7170e9ef66b75d134bd5a69af28f8d557a83f79f29ec5ffd00760b8aeeacca69a60 (32 * i + 31) (32 * i)))
/-- The state with a nonce drawn for an installer's key in slot 0. -/
def challenged (l : List (Nat × Nat)) : State :=
  let s := inst (response ++ [(Reg.SEC_NONCE 0, 1), (Reg.SEC_OTP, 1)] ++ l)
  { s with sec := { s.sec with nonce := some (1, 0, 0), hashes := [(0, 0xfaffb428f4b34c6dfcfd15e895511229ec19f678da6b8701e473bc5b29cdf236)] } }
theorem tempsMax : ∀ (j : Nat) (x : Int), ([30, 115, 115] : List Int)[j]? = some x → x ≤ 115 ∧ (j < 1 → x < 115) := by
  rintro (_ | _ | _ | j) x h <;> simp_all <;> omega
/-- A domain's transition under way. -/
def withDom (s : State) (d : Nat) (x : DomInt) : State := { s with doms := [(d, x)] }
/-- A signed firmware package of one byte of code. -/
def package : List Byte := leBytes 257 0x4182f2fa000000000000000000000000000000000000000000000000000000000000000000000000000000000000000000000000000000000000000000000000212e62426c5b9b08fa8c1f557bccde2c7a11ac1d74c5ef10ae1c701240fc7907212e62426c5b9b08fa8c1f557bccde2c7a11ac1d74c5ef10ae1c701240fc7907987f356d897be05f8f98e0bc90f674770fc80645f25c6c5b6a7bc31d4b9ff546458819fc1b092677a06c31deb9d357147305a3d2af3b4dff62af2b9ea25def0a00000000000000000000000000000000000000000000000000000000000000000000000000000000000000000000010000000000000000010000000046434d53
/-- An installer's session with a package in host memory. -/
def fwState (l : List (Nat × Nat)) (b : List Byte) : State :=
  let s := inst ([(Reg.HIF_LINK, 0x80000000), (Reg.HIF_STAT, 0), (Reg.RST_FWHADDR 0, 0x1000), (Reg.RST_FWHLEN, 0x100000), (Reg.SEC_OTP, 0x100)] ++ l)
  { s with host := State.memPut [] 0x1000 b, sec := { s.sec with hashes := [(4, 0x1fe75a9cd1e77f67b2f7ead4e8cd17b83dafb3dbb3e99287a2683efc48ad752b)] } }
/-- The state with the reset block's internal state. -/
def withRst (s : State) (x : RstInt) : State := { s with rst := x }
/-- A start in progress at a stage. -/
def atStage (n : Nat) (l : List (Nat × Nat)) : State :=
  withRst (regs ([(Reg.RST_STAT, n * 2 ^ 28), (Reg.PWR_DEVSTAT, 0)] ++ l)) { RstInt.init with rel := 4, wave := 9 }
/-- Some domains that are ON. -/
def on (l : List Nat) : List (Nat × Nat) := l.map (fun d => (Reg.PWR_DSTAT d, 0))
/-- A FAULT report waits at the SMC: kind, class and unit of its suspect. -/
def reported (s : State) (kind cl unit : Nat) : State := inbox s 1060 0 (pk 3 (0x40000000 + kind * 2 ^ 24 + cl * 2 ^ 17 + unit * 2 ^ 7) 1 0 [])
/-- The state with fault handling under way, and cores in use. -/
def withRecv (s : State) (used : Nat) (x : RecInt) : State := { s with recv := x, img := { ImgInt.init with inUse := used } }
/-- A hang check of core 5 in slot 15, the core waiting after step 0. -/
def hangs (l : List (Nat × Nat)) (used sealed0 : Nat) : State :=
  withRecv (regs ([(Reg.SMC_CASE 15 0, 0x90000000), (Reg.SMC_CASE 15 1, 0x41000280), (Reg.NCR_STAT 5, 0x40000000), (Reg.NCR_SEALED 5, 0), (Reg.SMC_RECCFG, 0)] ++ l)) used
    { RecInt.init with cases := [(15, { CaseInt.init with sealed0 := sealed0 })] }
/-- Partition 0, whose core 0 is in use, under recovery by the case in slot 15. -/
def recovers (l : List (Nat × Nat)) (x : RecInt) : State :=
  withRecv (regs ([(Reg.SMC_CASE 15 0, 0xA0000000), (Reg.SMC_RECSTAT, 0x10000), (Reg.RST_ISO, 0x10001), (Reg.SMC_RECCFG, 0), (Reg.NCR_STAT 0, 0x40000000)] ++
    on (partDoms 0) ++ l)) 1 x
/-- The state at a time of the timebase. -/
def atTime (s : State) (t : Nat) : State := { s with time := t }
/-- What a step answers. -/
def after (s : State) : State := match step s with | .next t => t | _ => s

theorem test_meets_UnalignedRegisterAccess_1 : ∃ (s : State) (src : Src) (a : Nat) (n : Nat) (v : Nat), (mapped a = true) ∧ (storageAt a = false) ∧ (inVernier a = false) ∧ (0 < n) ∧ (a % 4 + n ≤ 4) ∧ (n ≠ 4) :=
  ⟨.reset, .pcie, 0x30000, 2, 7, by decide +kernel⟩

theorem test_meets_UnalignedRegisterAccess_2 : ∃ (s : State) (src : Src) (a : Nat) (n : Nat), (mapped a = true) ∧ (storageAt a = false) ∧ ((a < 0x1400000 ∨ 0x1600000 ≤ a)) ∧ (0 < n) ∧ (a % 4 + n ≤ 4) ∧ (n ≠ 4) :=
  ⟨.reset, .pcie, 0x30003, 1, by decide +kernel⟩

theorem test_meets_RegisterWriteByAccessCode_1 : ∃ (s : State) (src : Src) (a : Nat) (v : Nat) (r : RegRow), (plainRegister a = true) ∧ (a % 4 = 0) ∧ (regRow a = some r) ∧ (protectedFor a = none) ∧ (s.answers a = true) ∧ (v < 2 ^ 32) :=
  ⟨regs [(Reg.PWR_DSTAT 128, 0), (0x10000004, 0x1F)], .pcie, 0x10000004, 3, ⟨"RTR_ERRSTAT", 0x10000004, [(1024, 0x10000)], [(4, 4, .w1c), (3, 3, .w1c), (2, 2, .w1c), (1, 1, .w1c), (0, 0, .w1c)], 0x0, 0x0, 0⟩, by decide +kernel⟩

theorem test_meets_RegisterReadClearsRC_1 : ∃ (s : State) (src : Src) (a : Nat) (r : RegRow), (plainRead a = true) ∧ (a % 4 = 0) ∧ (regRow a = some r) ∧ (r.wide = 0) ∧ (s.answers a = true) :=
  ⟨.reset, .pcie, Reg.SYS_ACCERR_CNT, ⟨"SYS_ACCERR_CNT", 0x1c, [], [(31, 0, .rc)], 0x0, 0x0, 0⟩, by decide +kernel⟩

theorem test_meets_WideCounterLatch_1 : ∃ (s : State) (src : Src) (a : Nat) (r : RegRow) (h : RegRow), (plainRead a = true) ∧ (a % 4 = 0) ∧ (regRow a = some r) ∧ (r.wide = 1) ∧ (regRow (a + 4) = some h) ∧ (h.wide = 2) ∧ (plainRead (a + 4) = true) ∧ (s.answers a = true) ∧ (s.answers (a + 4) = true) :=
  ⟨regs [(Reg.PWR_DSTAT 144, 0), (0x201ff0044, 7)], .pcie, 0x201ff0040, ⟨"VLT_FETCHWD", 0x201ff0040, [(16, 0x2000000)], [(31, 0, .ro)], 0x0, 0x0, 1⟩, ⟨"VLT_FETCHWD_H", 0x201ff0044, [(16, 0x2000000)], [(15, 0, .ro)], 0x0, 0x0, 2⟩, by decide +kernel⟩

theorem test_meets_StorageWindowWrite_1 : ∃ (s : State) (src : Src) (a : Nat) (bs : List Byte), (bs ≠ []) ∧ (storageAt a = true) ∧ (a + bs.length ≤ storageEnd a) ∧ (¬ (0x100000000 ≤ a ∧ a < 0x200000000 ∧ 0x24000 ≤ a % 0x400000 ∧ a % 0x400000 < 0x28000)) ∧ ((0x300000000 ≤ a → src = .smc)) ∧ (s.answers a = true) ∧ ((0x100000000 ≤ a → a < 0x200000000 → (s.core (winLcn a)).run = none)) :=
  ⟨regs [(Reg.PWR_DSTAT 127, 0)], .pcie, 0x1FFC2FFFC, [1, 2, 3, 4], by decide +kernel⟩

theorem test_meets_StorageWindowWrite_2 : ∃ (s : State) (src : Src) (a : Nat) (bs : List Byte), (bs ≠ []) ∧ (0x100000000 ≤ a) ∧ (a < 0x200000000) ∧ (0x24000 ≤ a % 0x400000) ∧ (a % 0x400000 + bs.length ≤ 0x28000) ∧ (s.answers a = true) :=
  ⟨regs [(Reg.PWR_DSTAT 0, 0)], .pcie, 0x100027FFF, [9], by decide +kernel⟩

theorem test_meets_StorageWindowWrite_3 : ∃ (s : State) (src : Src) (a : Nat) (bs : List Byte), (bs ≠ []) ∧ (0x300000000 ≤ a) ∧ (a + bs.length ≤ 0x304000000) ∧ (src ≠ .smc) :=
  ⟨.reset, .pcie, 0x303FFFFFF, [9], by decide +kernel⟩

theorem test_meets_StorageWindowWrite_4 : ∃ (s : State) (src : Src) (c : Nat) (r : Run) (l : Lane) (bs : List Byte), (c < 1024) ∧ ((s.core c).run = some r) ∧ (l ∈ r.lanes) ∧ (l.mask = true) ∧ (l.ctx < 8192) ∧ (0 < bs.length) ∧ (bs.length ≤ 16) ∧ (s.answers (0x100000000 + c * 0x400000 + 16 * l.ctx) = true) :=
  ⟨(regs [(Reg.PWR_DSTAT 0, 0)]).setCore 0 { CoreInt.init with run := some { run0 with lanes := [{ lane with ctx := 8191 }] } }, .pcie, 0, { run0 with lanes := [{ lane with ctx := 8191 }] }, { lane with ctx := 8191 }, zeros 16, by decide +kernel⟩

theorem test_meets_AccessErrorCapture_1 : ∃ (s : State) (src : Src) (a : Nat) (v : Nat), (mapped a = false) ∧ (a + 4 ≤ gapEnd a) ∧ (s.bit Reg.SYS_ACCERR_STAT 31 = false) :=
  ⟨.reset, .jtag, 0x5000000, 1, by decide +kernel⟩

theorem test_meets_AccessErrorCapture_2 : ∃ (s : State) (src : Src) (a : Nat) (v : Nat), (mapped a = false) ∧ (a + 4 ≤ gapEnd a) ∧ (s.bit Reg.SYS_ACCERR_STAT 31 = true) :=
  ⟨regs [(Reg.SYS_ACCERR_STAT, 0x80000000)], .jtag, 0xFFFFFFC, 1, by decide +kernel⟩

theorem test_meets_ConfigurationRequests_1 : ∃ (s : State) (w : Bool) (off : Nat) (data : Nat), (s.endpointReady = false) :=
  ⟨.reset, true, 16, 1, by decide +kernel⟩

theorem test_meets_ConfigurationRequests_2 : ∃ (s : State) (data : Nat), (s.endpointReady = true) ∧ (mapGet 0 s.cfg 0 = 0) :=
  ⟨{ regs [(Reg.PWR_DSTAT 162, 0), (Reg.HIF_LINK, 0x80000000)] with rst := { RstInt.init with perst := false } }, 0, by decide +kernel⟩

theorem test_meets_ConfigurationRequests_3 : ∃ (s : State) (off : Nat) (data : Nat), (s.endpointReady = true) ∧ (off ∈ [0x10, 0x14, 0x1C, 0x3C]) :=
  ⟨{ regs [(Reg.PWR_DSTAT 162, 0), (Reg.HIF_LINK, 0x80000000)] with rst := { RstInt.init with perst := false } }, 0x14, 0xFFFFFFFF, by decide +kernel⟩

theorem test_meets_SmbusCommands_1 : ∃ (s : State) (bs : List Byte) (i : Instr), (s.bit Reg.HIF_SMBCFG 31 = true) ∧ (i ∈ [Instr.smbusSclTimeout, .smbusBlockWrite bs false, .smbusSetPointer bs false, .smbusBlockRead false, .smbusStatus false]) :=
  ⟨regs [(Reg.HIF_SMBCFG, 0x80000000)], [1, 2], .smbusSetPointer [1, 2] false, by decide +kernel⟩

theorem test_meets_SmbusCommands_2 : ∃ (s : State) (bs : List Byte), (s.bit Reg.HIF_SMBCFG 31 = true) ∧ (bs.length = 9) ∧ (s.answers (leNat (bs.take 5)) = true) ∧ (storageAt (leNat (bs.take 5)) = true) ∧ (leNat (bs.take 5) + 4 ≤ storageEnd (leNat (bs.take 5))) ∧ (leNat (bs.take 5) < 0x100000000 ∨ 0x200000000 ≤ leNat (bs.take 5)) ∧ (leNat (bs.take 5) < 0x300000000) :=
  ⟨regs [(Reg.HIF_SMBCFG, 0x80000000), (Reg.PWR_DSTAT 163, 0)], [0xFC, 0xFF, 0xFF, 0x02, 0, 1, 2, 3, 4], by decide +kernel⟩

theorem test_meets_SmbusCommands_3 : ∃ (s : State) (bs : List Byte), (s.bit Reg.HIF_SMBCFG 31 = true) ∧ (bs.length = 5) :=
  ⟨regs [(Reg.HIF_SMBCFG, 0x80000000)], [1, 2, 3, 4, 5], by decide +kernel⟩

theorem test_meets_SmbusCommands_4 : ∃ (s : State) (r : RegRow), (s.bit Reg.HIF_SMBCFG 31 = true) ∧ (plainRead s.ldl.ptr = true) ∧ (s.ldl.ptr % 4 = 0) ∧ (regRow s.ldl.ptr = some r) ∧ (r.wide = 0) ∧ ((∀ f ∈ r.fields, f.2.2 = .ro ∨ f.2.2 = .rw)) ∧ (s.answers s.ldl.ptr = true) :=
  ⟨{ regs [(Reg.HIF_SMBCFG, 0x80000000)] with ldl := { LdlInt.init with ptr := 0x14 } }, ⟨"SYS_ACCERR_ADDR_LO", 0x14, [], [(31, 0, .ro)], 0x0, 0x0, 0⟩, by decide +kernel⟩

theorem test_meets_ImageCommandsBegin_1 : ∃ (s : State) (src : Src) (slot : Nat), (slot < 2) ∧ (s.accKind src true Reg.SMC_IMGCMD = none) ∧ (s.bit Reg.SMC_IMGSTAT 26 = false) ∧ (s.imgBarred = false) ∧ (s.imgState ≠ 3) ∧ (s.precheck (s.slotJob slot false (src == .smc) (0x01000000 + slot * 0x10000) (srcCode src)) = none) :=
  ⟨inFlash (inst []) fullImage, .smbus, 0, by decide +kernel⟩

theorem test_meets_ImageCommandsBegin_2 : ∃ (s : State), (s.accKind .pcie true Reg.SMC_IMGCMD = none) ∧ (s.rf Reg.SEC_STAT 31 30 = 1) ∧ (s.bit Reg.SMC_IMGSTAT 26 = false) ∧ (s.imgBarred = false) ∧ (s.imgState = 3) ∧ ((s.touchSession.hostJob false 0 0x02000000 0).delta = false) ∧ (s.touchSession.precheck (s.touchSession.hostJob false 0 0x02000000 0) = none) :=
  ⟨atHost (inst [(Reg.SMC_IMGSTAT, 0x60000000)]) fullImage, by decide +kernel⟩

theorem test_meets_ImageCommandsBegin_3 : ∃ (s : State) (slot : Nat), (slot < 2) ∧ (s.accKind .pcie true Reg.SMC_IMGCMD = none) ∧ (s.rf Reg.SEC_STAT 31 30 = 1) ∧ (s.bit Reg.SMC_IMGSTAT 26 = false) ∧ (s.imgBarred = false) ∧ (s.touchSession.precheck (s.touchSession.hostJob true slot (0x03000000 + slot * 0x10000) 0) = none) ∧ (s.touchSession.directory.isSome) ∧ (s.touchSession.imgLen (s.touchSession.hostJob true slot (0x03000000 + slot * 0x10000) 0) ≤ ((s.touchSession.slotPlace slot).getD (0, 0)).2) :=
  ⟨inFlash (atHost (inst []) fullImage) [], 1, by decide +kernel⟩

theorem test_meets_ImageLoadPhases_1 : ∃ (s : State) (j : ImgJob), (s.img.job = some j) ∧ (j.install = false) ∧ (j.phase = 0) ∧ (s.imageStopped = true) :=
  ⟨withJob .reset (job false 2 0 0 false), job false 2 0 0 false, by decide +kernel⟩

theorem test_meets_ImageLoadPhases_2 : ∃ (s : State) (j : ImgJob), (s.img.job = some j) ∧ (j.install = false) ∧ (j.phase = 1) ∧ (s.targetsOn j = true) ∧ (s.keep.busy = false) ∧ (s.keep.due = false) ∧ (s.configFlying = false) :=
  ⟨withJob (atHost .reset signedImage) (job false 2 0x1000 1 false), job false 2 0x1000 1 false, by decide +kernel⟩

theorem test_meets_ImageLoadPhases_3 : ∃ (s : State) (u : State) (j : ImgJob) (k : ImgJob) (x : List Byte), (s.img.job = some j) ∧ (j.install = false) ∧ (j.phase = 2) ∧ (j.gone = false) ∧ (s.expand j (s.alm j j.next) = .ok x) ∧ (s.applySection j (s.alm j j.next) x = .ok (u, k)) ∧ (j.next + 1 < s.almCount j) :=
  ⟨withJob (atHost .reset signedImage) (job false 2 0x1000 2 true), withJob (atHost .reset signedImage) (job false 2 0x1000 2 true), job false 2 0x1000 2 true, job false 2 0x1000 2 true, [0], by decide +kernel, by decide +kernel, by decide +kernel, by decide +kernel, ok_of (by decide +kernel), ok_of (by decide +kernel), by decide +kernel⟩

theorem test_meets_ImageLoadPhases_4 : ∃ (s : State) (c : Nat) (p : Packet), (c < 1024) ∧ (s.inboxHead c 3 = some p) ∧ (p.cls = 6) ∧ (p.good = true) ∧ (configTarget p.key c = true) ∧ (bitAt p.key 1 = false) ∧ (p.payload % 4 = 0) ∧ (p.payload + p.data.length ≤ 0x24000) :=
  ⟨inbox .reset 0 3 (pkt 6 0 0x23FF0 1 (leBytes 16 7) .init), 0, pkt 6 0 0x23FF0 1 (leBytes 16 7) .init, by decide +kernel⟩

theorem test_meets_ImageCommandsEnd_1 : ∃ (s : State) (j : ImgJob), (s.img.job = some j) ∧ (j.install = false) ∧ (j.phase = 3) ∧ (j.delta = true) ∧ (j.gone = false) ∧ (s.configFlying = false) ∧ (s.signatureBad j = none) :=
  ⟨withJob (keyed (atHost .reset signedImage)) (job false 2 0x1000 3 true), job false 2 0x1000 3 true, by decide +kernel⟩

theorem test_meets_ImageCommandsEnd_2 : ∃ (s : State) (j : ImgJob), (s.img.job = some j) ∧ (j.install = true) ∧ (j.phase = 4) ∧ (s.flashBad = false) ∧ ((∀ u : State, u = s.store (flashBase + (s.readBack j).base) (s.src j 0 (s.imgLen j)) → u.sectionsBad (s.readBack j) 0 (u.almanac (s.readBack j)) = none ∧ u.signatureBad (s.readBack j) = none)) :=
  ⟨withJob (keyed (inFlash (atHost (inst []) signedImage) [])) (job true 2 0x1000 4 false), job true 2 0x1000 4 false, by decide +kernel, by decide +kernel, by decide +kernel, by decide +kernel, by rintro u rfl; decide +kernel⟩

theorem test_meets_FullLoadEndsLoaded_1 : ∃ (s : State) (u : State) (j : ImgJob), (s.img.job = some j) ∧ (j.install = false) ∧ (j.phase = 3) ∧ (j.delta = false) ∧ (j.gone = false) ∧ (j.own = false) ∧ (j.source < 3) ∧ (s.configFlying = false) ∧ ((s.copyBank 0).axonBad = none) ∧ ((s.copyBank 0).signatureBad j = none) ∧ ((s.copyBank 0).settingsStep j = some u) :=
  ⟨withJob (keyed (atHost .reset signedImage)) (job false 2 0x1000 3 false), (withJob (keyed (atHost .reset signedImage)) (job false 2 0x1000 3 false)).settingsWrite 2 (zeros 8), job false 2 0x1000 3 false, by decide +kernel, by decide +kernel, by decide +kernel, by decide +kernel, by decide +kernel, by decide +kernel, by decide +kernel, by decide +kernel, by rw [copyBank_of_empty _ _ rfl]; decide +kernel, by rw [copyBank_of_empty _ _ rfl]; decide +kernel, by rw [copyBank_of_empty _ _ rfl]; decide +kernel⟩

theorem test_meets_DeltaAndSettingsCommands_1 : ∃ (s : State) (arg : Nat), (s.accKind .pcie true Reg.SMC_IMGCMD = none) ∧ (s.rf Reg.SEC_STAT 31 30 = 1) ∧ (s.bit Reg.SMC_IMGSTAT 26 = false) ∧ (s.imgBarred = false) ∧ (s.bit Reg.SMC_IMGSTAT 25 = true) ∧ (s.commitOpen = false) :=
  ⟨inst [(Reg.SMC_IMGSTAT, 0x62000000)], 16, by decide +kernel⟩

theorem test_meets_DeltaAndSettingsCommands_2 : ∃ (s : State) (slot : Nat) (x : List Byte), (slot < 2) ∧ (s.accKind .pcie true Reg.SMC_IMGCMD = none) ∧ (s.rf Reg.SEC_STAT 31 30 = 1) ∧ (s.bit Reg.SMC_IMGSTAT 26 = false) ∧ (s.imgBarred = false) ∧ (s.touchSession.slotSettings (s.touchSession.slotJob slot false false (0x06000000 + slot * 0x10000) 0) = .ok x) :=
  ⟨inFlash (inst [(Reg.SMC_IMGSLOT 0, 0xC0000000)]) fullImage, 0, zeros 8, by decide +kernel, by decide +kernel, by decide +kernel, by decide +kernel, by decide +kernel, ok_of (by decide +kernel)⟩

theorem test_meets_EventQueueCommands_1 : ∃ (s : State) (c : Nat) (v : Nat) (p : Packet) (words : List Nat), (c < 1024) ∧ (s.inboxHead c v = some p) ∧ (p.cls ≤ 2) ∧ (p.good = true) ∧ (s.wrapped c = false) ∧ (s.entryOf c p = some words) ∧ (s.rf (Reg.NCR_EQSTAT c) 12 0 + words.length ≤ 4096) ∧ (p.ret.kind ≠ 3) :=
  ⟨inbox .reset 0 2 (pkt 2 0 7 5 [] ⟨1, 0, 0⟩), 0, 2, pkt 2 0 7 5 [] ⟨1, 0, 0⟩, [0x80014000, 7], by decide +kernel⟩

theorem test_meets_EventQueueCommands_2 : ∃ (s : State) (c : Nat) (h : Nat), (c < 1024) ∧ (s.accReady c = true) ∧ (s.slotDue c = false) ∧ (s.rf (Reg.NCR_STAT c) 31 29 = 0) ∧ (0 < s.rf (Reg.NCR_EQSTAT c) 12 0) ∧ (0 < (s.core c).eqPresent) ∧ (s.eqNext c = [h]) ∧ (bits h 31 30 = 0) ∧ (SoundStorage s) ∧ (s.axonOff c (bits h 13 0) < 0x1800000) ∧ (s.dueStep c h = (s.rd (Reg.NCR_STEP c)).toNat) :=
  ⟨{ regs [(Reg.NCR_STAT 0, 0), (Reg.NCR_STEP 0, 1), (Reg.NCR_EQSTAT 0, 1)] with cores := [(0, { CoreInt.init with eqPresent := 1 })] }, 0, 0, by decide +kernel⟩

theorem test_meets_EventQueueCommands_3 : ∃ (s : State) (c : Nat) (w : Nat) (st : Stream), (c < 1024) ∧ ((s.core c).cur = some st) ∧ (st.ready = false) ∧ ((s.core c).stopped = false) ∧ (SoundStorage s) ∧ (8 * (s.rf (Reg.NCR_AXBASE c) 21 0 + st.axon) < 0x1800000) ∧ (s.num (0x200000000 + partOf c * 0x2000000 + 8 * (s.rf (Reg.NCR_AXBASE c) 21 0 + st.axon)) 8 = w) ∧ (bits w 55 53 = 0) :=
  ⟨{ State.reset with cores := [(0, { CoreInt.init with cur := some ⟨false, 0, 3, false, [], 0, 0, 0, false⟩ })] }, 0, 0, ⟨false, 0, 3, false, [], 0, 0, 0, false⟩, by decide +kernel⟩

theorem test_meets_EventQueueCommands_4 : ∃ (s : State) (c : Nat) (data : Nat), (c < 1024) ∧ (s.accKind .pcie true (Reg.NCR_DPOOL c) = none) ∧ (s.rf Reg.SEC_STAT 31 30 = 1) :=
  ⟨inst [], 0, 0x00040003, by decide +kernel⟩

theorem test_meets_DueSumEntryAdds_1 : ∃ (s : State) (c : Nat) (h : Nat) (d : Nat), (c < 1024) ∧ (s.accReady c = true) ∧ (s.slotDue c = false) ∧ (s.rf (Reg.NCR_STAT c) 31 29 = 0) ∧ (0 < s.rf (Reg.NCR_EQSTAT c) 12 0) ∧ (0 < (s.core c).eqPresent) ∧ (s.eqNext c = [h, d]) ∧ (bits h 31 30 = 2) ∧ (s.upsets = []) ∧ (s.dueStep c h = (s.rd (Reg.NCR_STEP c)).toNat) ∧ (bitAt (s.ctx c (s.govern c (bits h 12 0))) 114 = false) :=
  ⟨{ regs [(Reg.NCR_STAT 0, 0), (Reg.NCR_STEP 0, 1), (Reg.NCR_EQSTAT 0, 2)] with cores := [(0, { CoreInt.init with eqPresent := 2 })] }.store 0x100024000 [0, 0, 0, 0x80, 5, 0, 0, 0], 0, 0x80000000, 5, by decide +kernel⟩

theorem test_meets_SynapseBeatAddsLevel_1 : ∃ (s : State) (c : Nat) (w : Nat) (pl : Nat) (ax : Nat) (prev : Nat), (c < 1024) ∧ ((s.core c).cur = some ⟨false, pl, ax, true, [w], 0, 0, prev, false⟩) ∧ ((s.core c).stopped = false) ∧ (bits w 63 62 = 0) ∧ (bits w 13 0 = 1) ∧ (bits w 37 17 * 16 + 1 ≤ 0x1800000) ∧ (bits w 50 38 + bits w 52 51 / 2 ≤ 8191) ∧ (SoundStorage s) ∧ ((s.byte (0x200000000 + partOf c * 0x2000000 + bits w 37 17 * 16)).toNat % 16 ≠ 15) ∧ (bitAt (s.ctx c (s.govern c (bits w 50 38 + bits w 52 51 / 2))) 114 = false) :=
  ⟨{ State.reset with cores := [(0, { CoreInt.init with cur := some ⟨false, 0, 0, true, [1], 0, 0, 0, false⟩ })] }, 0, 1, 0, 0, 0, by decide +kernel⟩

theorem test_meets_CoreStepPhases_1 : ∃ (s : State) (c : Nat), (c < 1024) ∧ (s.canAdmit c = true) ∧ (s.upsets = []) ∧ ((s.part c).committed = none) ∧ ((s.part (2048 + partOf c)).committed = none) ∧ ((s.blockAt c (s.nextStep c)).1 = 0) :=
  ⟨{ regs [(Reg.NCR_STAT 0, 0x40000000), (Reg.NCR_STEP 0, 0xFFFFFFFF), (Reg.NCR_SEALED 0, 0xFFFFFFFF), (Reg.SMC_STEPCFG, 0x1800000)] with img := { ImgInt.init with inUse := 1 } }, 0, by decide +kernel⟩

theorem test_meets_CoreStepPhases_2 : ∃ (s : State) (c : Nat), (c < 1024) ∧ (s.accDone c = true) ∧ (s.feedWaits c = false) :=
  ⟨regs [(Reg.NCR_STAT 0, 0)], 0, by decide +kernel⟩

theorem test_meets_CoreStepPhases_3 : ∃ (s : State) (c : Nat) (g : Nat) (m : Nat) (rest : List (Nat × Nat)), (c < 1024) ∧ (s.runReady c = true) ∧ ((s.core c).plan = (g, m) :: rest) ∧ (bitAt (s.entryPoint c m) 15 = true) ∧ (s.upsets = []) :=
  ⟨({ regs [(Reg.NCR_STAT 0, 0x20000000)] with cores := [(0, { CoreInt.init with plan := [(0, 0)] })] }).store 0x100022020 [5, 0x80], 0, 0, 0, [], by decide +kernel⟩

theorem test_meets_CoreStepPhases_4 : ∃ (s : State) (c : Nat), (c < 1024) ∧ (s.runReady c = true) ∧ ((s.core c).plan = []) ∧ (s.windowLast (s.rd (Reg.NCR_TAPWIN c)).toNat (s.rd (Reg.NCR_STEP c)).toNat = false) :=
  ⟨regs [(Reg.NCR_STAT 0, 0x20000000), (Reg.SMC_EPOCH, 0x20004)], 0, by decide +kernel⟩

theorem test_meets_CoreStepPhases_5 : ∃ (s : State) (c : Nat), (c < 1024) ∧ (s.rf (Reg.NCR_STAT c) 31 29 = 2) ∧ ((s.core c).stopped = false) ∧ (s.inUse c = true) ∧ (s.rd (Reg.NCR_SEALED c) ≠ s.rd (Reg.NCR_STEP c)) ∧ (s.unretired c (s.rd (Reg.NCR_STEP c)).toNat = false) ∧ ((s.part c).committed = none) ∧ ((s.core c).replay = none) ∧ (mapGet 0 s.img.horizKeys 255 ≠ 0) :=
  ⟨{ regs [(Reg.NCR_STAT 0, 0x40000000), (Reg.NCR_STEP 0, 0), (Reg.NCR_SEALED 0, 0xFFFFFFFF)] with img := { ImgInt.init with inUse := 1, horizKeys := [(255, 5)] } }, 0, by decide +kernel⟩

theorem test_meets_Scrubbing_1 : ∃ (s : State) (c : Nat), (c < 1024) ∧ (mapWf 0 s.upsets) ∧ ((∀ e ∈ s.upsets, e.1 % 4 = 0)) ∧ (mapGet 0 s.upsets (0x100000000 + c * 0x400000 + 4 * ((s.core c).scrub % 49152)) = 1) :=
  ⟨{ State.reset with upsets := [(0x100000000, 1)] }, 0, by decide +kernel⟩

theorem test_meets_Scrubbing_2 : ∃ (s : State) (p : Nat), (p < 16) ∧ (s.bit (Reg.VLT_SCRUB p) 31 = true) ∧ (s.domOn (144 + p) = true) ∧ (s.upsets = []) ∧ (s.poison = []) :=
  ⟨regs [(Reg.VLT_SCRUB 0, 0x80000000), (Reg.PWR_DSTAT 144, 0)], 0, by decide +kernel⟩

theorem test_meets_Scrubbing_3 : ∃ (s : State) (p : Nat) (r : Nat) (rows : List Nat), (p < 16) ∧ ((s.vault p).rows = r :: rows) :=
  ⟨{ State.reset with vaults := [(0, { VaultInt.init with rows := [5] })] }, 0, 5, [], by decide +kernel⟩

theorem test_meets_WrongWords_1 : ∃ (s : State) (c : Nat) (g : Nat) (m : Nat) (k : Nat) (n : Nat) (rest : List (Nat × Nat)), (c < 1024) ∧ (s.runReady c = true) ∧ ((s.core c).plan = (g, m) :: rest) ∧ (g < 2048) ∧ (k < 16) ∧ (bitAt (s.entryPoint c m) 15 = true) ∧ (s.upsets = [(0x100000000 + c * 0x400000 + 64 * g + 4 * k, n)]) :=
  ⟨{ (regs [(Reg.NCR_STAT 0, 0x20000000)]).store 0x100022020 [0, 0x80] with cores := [(0, { CoreInt.init with plan := [(1, 0)] })], upsets := [(0x100000044, 1)] }, 0, 1, 0, 1, 1, [], by decide +kernel⟩

theorem test_meets_WrongWords_2 : ∃ (s : State) (c : Nat) (a : Nat) (st : Stream), (c < 1024) ∧ ((s.core c).cur = some st) ∧ (st.ready = false) ∧ ((s.core c).stopped = false) ∧ (8 * (s.rf (Reg.NCR_AXBASE c) 21 0 + st.axon) < 0x1800000) ∧ (bits (s.axonWord c st.axon) 55 53 = 0) ∧ (s.upsets = []) ∧ (a = 0x200000000 + partOf c * 0x2000000 + (s.rf (Reg.NCR_AXBASE c) 21 0 + st.axon) / 2 * 16) ∧ (s.poison = [(a, true)]) :=
  ⟨{ regs [] with cores := [(0, { CoreInt.init with cur := some ⟨false, 0, 3, false, [], 0, 0, 0, false⟩ })], poison := [(0x200000010, true)] }, 0, 0x200000010, ⟨false, 0, 3, false, [], 0, 0, 0, false⟩, by decide +kernel⟩

theorem test_meets_TableInstructions_1 : ∃ (s : State) (c : Nat) (r : Run) (w : Nat) (d : Nat), (UcAt s c r w) ∧ (tblWord 0x20 w) ∧ (descAt s c w = d) ∧ (bitAt d 31 = true) ∧ (bits d 29 28 = 0) ∧ (bits d 23 12 ≠ 0) ∧ (bits d 11 0 + bits d 23 12 ≤ 3040) :=
  ⟨(uc 0x80000000 run0).store 0x100022800 (leBytes 4 0x80004000), 0, run0, 0x80000000, 0x80004000, by delta UcAt tblWord; decide +kernel⟩

theorem test_meets_TableInstructions_2 : ∃ (s : State) (c : Nat) (r : Run) (w : Nat) (d : Nat), (UcAt s c r w) ∧ (tblWord 0x21 w) ∧ (descAt s c w = d) ∧ (bitAt d 31 = true) ∧ (bitAt d 30 = false) ∧ (bits d 29 28 = 1) ∧ (bits d 27 24 = 0) ∧ (bits d 23 12 ≠ 0) ∧ (bits d 11 0 + bits d 23 12 ≤ 3040) :=
  ⟨(uc 0x84000000 run0).store 0x100022800 (leBytes 4 0x90004000), 0, run0, 0x84000000, 0x90004000, by delta UcAt tblWord; decide +kernel⟩

theorem test_meets_TableInstructions_3 : ∃ (s : State) (c : Nat) (r : Run) (w : Nat) (d : Nat), (UcAt s c r w) ∧ (tblWord 0x22 w) ∧ (bits w 25 21 = 0) ∧ (descAt s c w = d) ∧ (bitAt d 31 = true) ∧ (bitAt d 30 = false) ∧ (bits d 29 28 = 1) ∧ (bits d 27 24 = 0) ∧ (bits d 23 12 ≠ 0) ∧ (bits d 11 0 + bits d 23 12 ≤ 3040) ∧ (s.learning (partOf c) = false) :=
  ⟨(uc 0x88000000 run0).store 0x100022800 (leBytes 4 0x90004000), 0, run0, 0x88000000, 0x90004000, by delta UcAt tblWord; decide +kernel⟩

theorem test_meets_LaneValueInstructions_1 : ∃ (s : State) (c : Nat) (r : Run) (w : Nat), (UcAt s c r w) ∧ (bits w 31 26 = 0x23) ∧ (bits w 25 21 < 16) ∧ ((bitAt w 10 = true ∨ bitAt w 9 = false)) ∧ (bits w 20 18 = 0) ∧ (bits w 15 11 = 0) ∧ (bits w 6 1 = 0) ∧ (bitAt w 0 = true) :=
  ⟨uc 0x8C000001 run0, 0, run0, 0x8C000001, by delta UcAt; decide +kernel⟩

theorem test_meets_LaneValueInstructions_2 : ∃ (s : State) (c : Nat) (r : Run) (w : Nat), (UcAt s c r w) ∧ (bits w 31 26 = 0x24) ∧ (bits w 25 21 < 16) ∧ (bits w 20 16 = 0) ∧ (bits w 15 0 ≤ 5) :=
  ⟨uc 0x90000005 run0, 0, run0, 0x90000005, by delta UcAt; decide +kernel⟩

theorem test_meets_LaneValueInstructions_3 : ∃ (s : State) (c : Nat) (r : Run) (w : Nat), (UcAt s c r w) ∧ (bits w 31 26 = 0x25) ∧ (bits w 25 11 = 0) ∧ ((bitAt w 10 = true ∨ bitAt w 9 = false)) ∧ (bits w 6 1 = 0) :=
  ⟨uc 0x94000000 run0, 0, run0, 0x94000000, by delta UcAt; decide +kernel⟩

theorem test_meets_LaneValueInstructions_4 : ∃ (s : State) (c : Nat) (r : Run) (w : Nat), (UcAt s c r w) ∧ (bits w 31 26 = 0x28) ∧ (bits w 25 20 = 0) ∧ (bits w 15 11 = 0) :=
  ⟨uc 0xA0000000 run0, 0, run0, 0xA0000000, by delta UcAt; decide +kernel⟩

theorem test_meets_LaneValueInstructions_5 : ∃ (s : State) (c : Nat) (r : Run), (UcAt s c r 0) :=
  ⟨uc 0 run0, 0, run0, by delta UcAt; decide +kernel⟩

theorem test_meets_IllegalWordAborts_1 : ∃ (s : State) (c : Nat) (r : Run) (w : Nat), (c < 1024) ∧ (UcAt s c r w) ∧ (w ≠ 0) ∧ (bits w 31 26 = 0) ∧ (s.bit (Reg.NCR_ERRSTAT c) 5 = false) :=
  ⟨uc 1 run0, 0, run0, 1, by delta UcAt; decide +kernel⟩

theorem test_meets_CycleLimitAborts_1 : ∃ (s : State) (c : Nat) (r : Run), (c < 1024) ∧ (s.rf (Reg.NCR_STAT c) 31 29 = 1) ∧ ((s.core c).stopped = false) ∧ ((s.core c).run = some r) ∧ ((if s.rf (Reg.NCR_UCLIMIT c) 11 0 = 0 then 4096 else s.rf (Reg.NCR_UCLIMIT c) 11 0) ≤ r.cycles) ∧ (s.bit (Reg.NCR_ERRSTAT c) 5 = false) :=
  ⟨uc 0 { run0 with cycles := 4096 }, 0, { run0 with cycles := 4096 }, by decide +kernel⟩

theorem test_meets_LanesStayInRange_1 : ∃ (s : State) (t : State) (c : Nat) (r : Run) (i : Instr) (r' : Run), (i ∈ laneRows c) ∧ ((s.core c).run = some r) ∧ (lanesOk r) ∧ (exec i s = .next t) ∧ ((t.core c).run = some r') :=
  ⟨uc 0x04000000 run0, (uc 0x04000000 run0).setCore 0 { CoreInt.init with run := some { run0 with pc := 1, cycles := 1 }, plan := [(1, 0)] }, 0, run0, .mov 0, { run0 with pc := 1, cycles := 1 }, List.mem_cons_self, by decide +kernel, by delta lanesOk; decide +kernel, next_of (by decide +kernel), by decide +kernel⟩

theorem test_meets_LanesStayInRange_2 : ∃ (s : State) (t : State) (c : Nat) (r : Run) (i : Instr) (d : Nat), (i ∈ laneRows c) ∧ ((s.core c).run = some r) ∧ (lanesOk r) ∧ (exec i s = .next t) ∧ (d ≠ c) :=
  ⟨uc 0x04000000 run0, (uc 0x04000000 run0).setCore 0 { CoreInt.init with run := some { run0 with pc := 1, cycles := 1 }, plan := [(1, 0)] }, 0, run0, .mov 0, 1, List.mem_cons_self, by decide +kernel, by delta lanesOk; decide +kernel, next_of (by decide +kernel), by decide +kernel⟩

theorem test_meets_OutputInstructions_1 : ∃ (s : State) (c : Nat) (r : Run) (w : Nat) (l : Lane), (c < 1024) ∧ (UcAt s c r w) ∧ (bits w 31 26 = 0x30) ∧ (bits w 25 11 = 0) ∧ ((bitAt w 10 = true ∨ bitAt w 9 = false)) ∧ (bits w 6 5 = 0) ∧ (r.lanes.filter (live w) = [l]) ∧ (s.outFlits c < 64) ∧ ((s.core c).replay = none) ∧ ((s.core c).tapOn = []) :=
  ⟨({ regs [(Reg.NCR_STAT 0, 0x20000000)] with cores := [(0, { CoreInt.init with run := some run0 })] }).store 0x100020000 (leBytes 4 0xC0000000), 0, run0, 0xC0000000, lane, by delta UcAt; decide +kernel⟩

theorem test_meets_OutputInstructions_2 : ∃ (s : State) (c : Nat) (r : Run) (w : Nat) (l : Lane), (c < 1024) ∧ (UcAt s c r w) ∧ (bits w 31 26 = 0x31) ∧ (bits w 25 21 = 0) ∧ (bits w 15 11 = 0) ∧ ((bitAt w 10 = true ∨ bitAt w 9 = false)) ∧ (bits w 6 5 = 0) ∧ (r.lanes.filter (live w) = [l]) ∧ (s.outFlits c < 64) ∧ ((s.core c).replay = none) ∧ ((s.core c).tapOn = []) :=
  ⟨uc 0xC4000000 run0, 0, run0, 0xC4000000, lane, by delta UcAt; decide +kernel⟩

theorem test_meets_OutputInstructions_3 : ∃ (s : State) (c : Nat) (r : Run) (w : Nat) (l : Lane), (c < 1024) ∧ (UcAt s c r w) ∧ (bits w 31 26 = 0x32) ∧ (bits w 25 21 = 0) ∧ (bitAt w 6 = false) ∧ ((bitAt w 10 = true ∨ bitAt w 9 = false)) ∧ (bitAt w 5 = false) ∧ (8 ≤ bits w 15 11) ∧ (bits w 15 11 ≤ 15) ∧ (r.lanes.filter (live w) = [l]) ∧ (s.outFlits c < 64) ∧ ((s.core c).replay = none) :=
  ⟨uc 0xC8004000 run0, 0, run0, 0xC8004000, lane, by delta UcAt; decide +kernel⟩

theorem test_meets_OutputInstructions_4 : ∃ (s : State) (c : Nat) (r : Run) (w : Nat) (l : Lane), (c < 1024) ∧ (UcAt s c r w) ∧ (bits w 31 26 = 0x32) ∧ (bits w 25 21 = 0) ∧ (bitAt w 6 = true) ∧ ((bitAt w 10 = true ∨ bitAt w 9 = false)) ∧ (bitAt w 5 = false) ∧ (bits w 15 11 = 0) ∧ (l ∈ r.lanes) ∧ (live w l = true) ∧ (s.rf (Reg.MSG_SDLAND c (bits w 4 0)) 27 23 ≠ 0) ∧ (s.outFlits c + 2 ≤ 64) ∧ (s.rf (Reg.MSG_SDSTAT c (bits w 4 0)) 19 15 < min 16 (s.rf (Reg.MSG_SDLAND c (bits w 4 0)) 27 23)) ∧ ((s.core c).replay = none) :=
  ⟨(uc 0xC8000040 run0).wr (Reg.MSG_SDLAND 0 0) 0x00800000, 0, run0, 0xC8000040, lane, by delta UcAt; decide +kernel⟩

theorem test_meets_OutputInstructions_5 : ∃ (s : State) (c : Nat) (r : Run), (c < 1024) ∧ (UcAt s c r 0xFC000000) ∧ (r.lanes = []) ∧ ((s.core c).plan ≠ []) :=
  ⟨uc 0xFC000000 { run0 with lanes := [] }, 0, { run0 with lanes := [] }, by delta UcAt; decide +kernel⟩

theorem test_meets_OutputInstructions_6 : ∃ (s : State) (c : Nat) (r : Run) (l : Lane), (c < 1024) ∧ (UcAt s c r 0xFC000000) ∧ (r.lanes = [l]) ∧ (l.mask = true) ∧ (l.paired = false) ∧ (l.ctx < 8192) ∧ ((s.core c).plan ≠ []) :=
  ⟨uc 0xFC000000 run0, 0, run0, lane, by delta UcAt; decide +kernel⟩

theorem test_meets_RunCommandsOfAnyRole_1 : ∃ (s : State) (src : Src) (arg : Nat), (RunReady s src) ∧ (arg < 65536) ∧ ((s.rf Reg.SMC_RUNSTAT 31 29 = 1 ∨ s.rf Reg.SMC_RUNSTAT 31 29 = 5)) :=
  ⟨inst [(Reg.SMC_RUNSTAT, 0x20000000)], .smbus, 100, by delta RunReady; decide +kernel⟩

theorem test_meets_RunCommandsOfAnyRole_2 : ∃ (s : State) (src : Src) (arg : Nat), (RunReady s src) ∧ (arg < 65536) ∧ (s.rf Reg.SMC_RUNSTAT 31 29 = 2) :=
  ⟨inst [(Reg.SMC_RUNSTAT, 0x40000000), (Reg.SMC_STEPCFG, 100)], .smbus, 100, by delta RunReady; decide +kernel⟩

theorem test_meets_RunCommandsOfAnyRole_3 : ∃ (s : State) (src : Src) (arg : Nat) (n : Nat), (RunReady s src) ∧ (arg < 65536) ∧ (s.rf Reg.SMC_RUNSTAT 31 29 = 4) ∧ (s.runc.stopping = false) ∧ (0 < n) ∧ (n < 65536) :=
  ⟨inst [(Reg.SMC_RUNSTAT, 0x80000000)], .smc, 100, 65535, by delta RunReady; decide +kernel⟩

theorem test_meets_RunCommandsOfAnyRole_4 : ∃ (s : State) (src : Src) (arg : Nat), (RunReady s src) ∧ (arg < 65536) ∧ ((s.rf Reg.SMC_RUNSTAT 31 29 = 2 ∨ s.rf Reg.SMC_RUNSTAT 31 29 = 4)) ∧ (s.runc.stopping = false) :=
  ⟨inst [(Reg.SMC_RUNSTAT, 0x80000000)], .jtag, 100, by delta RunReady; decide +kernel⟩

theorem test_meets_RunCommandsOfInstallers_1 : ∃ (s : State) (arg : Nat), (RunReady s .pcie) ∧ (arg < 65536) ∧ (s.rf Reg.SEC_STAT 31 30 = 1) ∧ ((s.rf Reg.SMC_RUNSTAT 31 29 = 2 ∨ s.rf Reg.SMC_RUNSTAT 31 29 = 4)) ∧ (s.heldAtEpoch = true) :=
  ⟨inst [(Reg.SMC_RUNSTAT, 0x40000000), (Reg.SMC_STEPCFG, 100), (Reg.SMC_EPOCH, 10)], 100, by delta RunReady; decide +kernel⟩

theorem test_meets_RunCommandsOfInstallers_2 : ∃ (s : State) (arg : Nat) (us : Nat), (RunReady s .pcie) ∧ (arg < 65536) ∧ (s.rf Reg.SEC_STAT 31 30 = 1) ∧ ((s.rf Reg.SMC_RUNSTAT 31 29 = 2 ∨ s.rf Reg.SMC_RUNSTAT 31 29 = 4)) ∧ (0 < us) ∧ (us < 65536) :=
  ⟨inst [(Reg.SMC_RUNSTAT, 0x40000000), (Reg.SMC_STEPCFG, 100)], 100, 1, by delta RunReady; decide +kernel⟩

theorem test_meets_RunCommandRefusals_1 : ∃ (s : State) (src : Src) (i : Instr), (s.accKind src true Reg.SMC_RUNCMD = none) ∧ (s.commitOpen = true) ∧ (i ∈ [Instr.startRun src, .holdRun src, .resumeRun src, .stopRun src]) :=
  ⟨{ inst [] with runc := { RunCtl.init with change := some ⟨[.start], 0, 1⟩ } }, .pcie, .holdRun .pcie, by decide +kernel, by decide +kernel, .tail _ (List.mem_cons_self)⟩

theorem test_meets_RunCommandRefusals_2 : ∃ (s : State) (src : Src) (arg : Nat) (e : Instr × List Nat), (RunReady s src) ∧ (e ∈ [(Instr.startRun src, [1, 5]), (.holdRun src, [2]), (.resumeRun src, [4]), (.stepRun src arg, [4]), (.stopRun src, [2, 4])]) ∧ (s.rf Reg.SMC_RUNSTAT 31 29 ∉ e.2) :=
  ⟨inst [(Reg.SMC_RUNSTAT, 0x60000000)], .pcie, 100, (.holdRun .pcie, [2]), by delta RunReady; decide +kernel, .tail _ (List.mem_cons_self), by decide +kernel⟩

theorem test_meets_RunCommandRefusals_3 : ∃ (s : State) (src : Src) (arg : Nat) (i : Instr), (s.accKind src true Reg.SMC_RUNCMD = none) ∧ (s.installer src = false) ∧ (i ∈ [Instr.learnOn src, .learnOff src, .lockstepMode src, .horizonMode src, .steplen src arg]) :=
  ⟨inst [], .smbus, 100, .learnOff .smbus, by decide +kernel, by decide +kernel, .tail _ (List.mem_cons_self)⟩

theorem test_meets_CommitStepDistance_1 : ∃ (s : State) (dist : Nat) (more : Nat) (epoch : Bool), (s.rf Reg.SMC_RUNSTAT 31 29 = 2) ∧ (s.runc.tstart ≤ s.time) ∧ (s.runc.anchorC + s.sinceAnchor.toNat + dist + more + 2000000 + 2 * 65536 < 2 ^ 32) ∧ (s.epochLen ≤ 65536) ∧ (epoch = true) :=
  ⟨regs [(Reg.SMC_RUNSTAT, 0x40000000), (Reg.SMC_STEPCFG, 100), (Reg.SMC_EPOCH, 10)], 16, 0, true, by decide +kernel⟩

theorem test_meets_ModeCommitPhases_1 : ∃ (s : State) (n : Nat) (ch : Change), (1024 ≤ n) ∧ (s.castOf 0 = some ch) ∧ ((s.part n).acked = false) ∧ ((s.part n).prepared = none) ∧ (s.isParticipant n = true) ∧ ((unitPart n).any s.behalf = false) ∧ (s.startWaits n ch = none) ∧ (s.before n ch = true) :=
  ⟨{ State.reset with runc := { RunCtl.init with cast := [(0, ⟨[.hold], 100, 1⟩)] } }, 2064, ⟨[.hold], 100, 1⟩, by decide +kernel⟩

theorem test_meets_ModeCommitPhases_2 : ∃ (s : State) (n : Nat) (v : Nat) (m : Packet) (ch : Change), (n < 1024) ∧ (s.ctrlHead n 2 = some (v, m)) ∧ (s.wrapped n = false) ∧ (m.good = true) ∧ (s.castOf 0 = some ch) ∧ ((s.part n).acked = false) ∧ ((s.part n).prepared = none) ∧ (s.inUse n = true) ∧ (s.behalf (partOf n) = false) ∧ (s.startWaits n ch = none) ∧ (((s.takeInbox n v).retire m.ret).before n ch = true) :=
  ⟨{ inbox .reset 1 0 (pkt 7 0x20000001 1 100 [] .init) with img := { ImgInt.init with inUse := 2 }, runc := { RunCtl.init with cast := [(0, ⟨[.hold], 100, 1⟩)] } }, 1, 0, pkt 7 0x20000001 1 100 [] .init, ⟨[.hold], 100, 1⟩, by decide +kernel⟩

theorem test_meets_ModeCommitPhases_3 : ∃ (s : State) (p : Packet) (ch : Change), (s.inboxHead 1060 0 = some p) ∧ ((p.cls = 3 ∨ p.cls = 7)) ∧ (p.good = true) ∧ (bits p.key 31 28 = 3) ∧ (s.runc.change = some ch) ∧ (s.runc.phase = 1) ∧ (s.notFirst = false) ∧ (bits p.key 15 0 = ch.gen) ∧ (p.step = ch.c % 2 ^ 16) ∧ (p.payload = 1) ∧ (s.rf Reg.SMC_MODEACK 31 16 = 0) ∧ (s.rf Reg.SMC_MODEACK 15 0 + 1 < s.runc.expect) ∧ (s.runc.expect < 2 ^ 16) :=
  ⟨{ inbox .reset 1060 0 (pkt 3 0x30000001 1 100 [] .init) with runc := { RunCtl.init with change := some ⟨[.hold], 100, 1⟩, phase := 1, expect := 5 } }, pkt 3 0x30000001 1 100 [] .init, ⟨[.hold], 100, 1⟩, by decide +kernel⟩

theorem test_meets_ModeCommitPhases_4 : ∃ (s : State) (ch : Change), (s.runc.change = some ch) ∧ (s.runc.phase = 1) ∧ (s.smcHalted = false) ∧ (s.notFirst = false) ∧ (s.runc.again = false) ∧ (ch.kinds = [.start]) :=
  ⟨{ State.reset with runc := { RunCtl.init with change := some ⟨[.start], 0, 1⟩, phase := 1 } }, ⟨[.start], 0, 1⟩, by decide +kernel⟩

theorem test_meets_ModeCommitPhases_5 : ∃ (s : State) (ch : Change), (s.runc.change = some ch) ∧ (s.runc.phase = 1) ∧ (s.smcHalted = false) ∧ (s.notFirst = false) ∧ (s.runc.again = true) ∧ (ch.kinds = [.hold]) :=
  ⟨{ State.reset with runc := { RunCtl.init with change := some ⟨[.hold], 100, 1⟩, phase := 1, again := true } }, ⟨[.hold], 100, 1⟩, by decide +kernel⟩

theorem test_meets_ModeCommitPhases_6 : ∃ (s : State) (n : Nat) (ch : Change), (1024 ≤ n) ∧ (s.castOf 1 = some ch) ∧ ((s.part n).prepared = some ch) ∧ (ch.kinds.contains .bankSwap = false) ∧ ((∀ u : State, u = s.setPart n { s.part n with prepared := none, committed := some ch } → u.reached n ch = false)) :=
  ⟨{ State.reset with parts := [(2064, { Part.init with prepared := some ⟨[.hold], 100, 1⟩ })], runc := { RunCtl.init with cast := [(1, ⟨[.hold], 100, 1⟩)] } }, 2064, ⟨[.hold], 100, 1⟩, by decide +kernel, by decide +kernel, by decide +kernel, by decide +kernel, by rintro u rfl; decide +kernel⟩

theorem test_meets_ModeCommitPhases_7 : ∃ (s : State) (u : State) (n : Nat) (v : Nat) (m : Packet) (ch : Change), (n < 1024) ∧ (s.ctrlHead n 2 = some (v, m)) ∧ (s.wrapped n = false) ∧ (m.good = true) ∧ (s.castOf 1 = some ch) ∧ ((s.part n).prepared = some ch) ∧ (u = ((s.takeInbox n v).retire m.ret).setPart n { s.part n with prepared := none, committed := some ch }) ∧ (u.reached n ch = false) :=
  ⟨{ inbox .reset 1 0 (pkt 7 0x20000001 2 100 [] .init) with parts := [(1, { Part.init with prepared := some ⟨[.hold], 100, 1⟩ })], runc := { RunCtl.init with cast := [(1, ⟨[.hold], 100, 1⟩)] } }, (({ inbox .reset 1 0 (pkt 7 0x20000001 2 100 [] .init) with parts := [(1, { Part.init with prepared := some ⟨[.hold], 100, 1⟩ })], runc := { RunCtl.init with cast := [(1, ⟨[.hold], 100, 1⟩)] } }.takeInbox 1 0).retire (pkt 7 0x20000001 2 100 [] .init).ret).setPart 1 { Part.init with prepared := none, committed := some ⟨[.hold], 100, 1⟩ }, 1, 0, pkt 7 0x20000001 2 100 [] .init, ⟨[.hold], 100, 1⟩, by decide +kernel⟩

theorem test_meets_ModeCommitPhases_8 : ∃ (s : State) (l : Nat) (ch : Change), (l < 1024) ∧ (s.castOf 1 = some ch) ∧ (s.domOn (128 + partOf l) = true) ∧ (s.behalf (partOf l) = true) ∧ (ch.kinds = [.bankSwap]) ∧ ((s.part (1024 + l)).gen ≠ ch.gen) ∧ (ch.gen < 2 ^ 16) :=
  ⟨{ withRecv (regs (on [128] ++ [(Reg.SMC_CASE 15 0, 0xA0000000), (Reg.SMC_RECSTAT, 0x10000)])) 1 .init with runc := { RunCtl.init with cast := [(1, ⟨[.bankSwap], 100, 7⟩)] } }, 1, ⟨[.bankSwap], 100, 7⟩, by decide +kernel⟩

theorem test_meets_ModeCommitPhases_9 : ∃ (s : State) (n : Nat) (ch : Change), (1024 ≤ n) ∧ (s.castOf 2 = some ch) ∧ ((s.part n).prepared = some ch) :=
  ⟨{ State.reset with parts := [(2064, { Part.init with prepared := some ⟨[.hold], 100, 1⟩ })], runc := { RunCtl.init with cast := [(2, ⟨[.hold], 100, 1⟩)] } }, 2064, ⟨[.hold], 100, 1⟩, by decide +kernel⟩

theorem test_meets_ModeCommitPhases_10 : ∃ (s : State) (n : Nat) (v : Nat) (m : Packet) (ch : Change), (n < 1024) ∧ (s.ctrlHead n 2 = some (v, m)) ∧ (s.wrapped n = false) ∧ (m.good = true) ∧ (s.castOf 2 = some ch) ∧ ((s.part n).prepared = some ch) :=
  ⟨{ inbox .reset 1 0 (pkt 7 0x20000001 3 100 [] .init) with parts := [(1, { Part.init with prepared := some ⟨[.hold], 100, 1⟩ })], runc := { RunCtl.init with cast := [(2, ⟨[.hold], 100, 1⟩)] } }, 1, 0, pkt 7 0x20000001 3 100 [] .init, ⟨[.hold], 100, 1⟩, by decide +kernel⟩

theorem test_meets_HoldAndTimeout_1 : ∃ (s : State) (c : Nat), (s.runc.hold = some c) ∧ (s.runc.stopping = false) ∧ (s.rf Reg.SMC_RUNSTAT 31 29 = 3) ∧ ((∀ p, p < 16 → s.heldPart p = false)) ∧ (stepGe (s.rd Reg.SMC_DEVHZ).toNat ((c + 2 ^ 32 - 1) % 2 ^ 32) = true) :=
  ⟨{ regs [(Reg.SMC_RUNSTAT, 0x60000000), (Reg.SMC_DEVHZ, 9)] with runc := { RunCtl.init with hold := some 10 } }, 10, by decide +kernel⟩

theorem test_meets_HoldAndTimeout_2 : ∃ (s : State) (c : Nat), (c < 1024) ∧ (s.rf (Reg.NCR_HZCFG c) 15 0 ≠ 0) ∧ (s.rf (Reg.NCR_HZCFG c) 15 0 ≤ (s.core c).hzWait) ∧ (s.bit Reg.SMC_RUNSTAT 25 = false) ∧ (s.rf Reg.SMC_RUNSTAT 31 29 = 2) ∧ ((s.core c).timedOut = false) ∧ (s.replaying (partOf c) (s.nextStep c) = false) ∧ ((s.blockOf c).1 = 2) :=
  ⟨{ regs [(Reg.SMC_RUNSTAT, 0x40000000), (Reg.SMC_STEPCFG, 0x1800000), (Reg.SMC_EPOCH, 100), (Reg.NCR_HZCFG 0, 1), (Reg.NCR_STAT 0, 0x40000000), (Reg.NCR_STEP 0, 5), (Reg.NCR_SEALED 0, 5)] with img := { ImgInt.init with inUse := 1 }, parts := [(0, { Part.init with lock := true })], cores := [(0, { CoreInt.init with hzWait := 1 })] }, 0, by decide +kernel⟩

theorem test_meets_TundishStepsAndHorizons_1 : ∃ (s : State), (s.tndWaiting = true) ∧ (s.loadStops = false) ∧ ((s.part 2064).committed = none) ∧ (s.tndBlockAt (((s.rd Reg.TND_STEP).toNat + 1) % 2 ^ 32) = 0) :=
  ⟨regs [(Reg.SMC_RUNSTAT, 0x40000000), (Reg.SMC_STEPCFG, 0x1800000), (Reg.TND_STEP, 0xFFFFFFFF), (Reg.TND_SEALED, 0xFFFFFFFF)], by decide +kernel⟩

theorem test_meets_TundishStepsAndHorizons_2 : ∃ (s : State), (s.tnd.isOpen = true) ∧ (s.bit Reg.SMC_STEPCFG 23 = false) ∧ (s.tickPassed (((s.rd Reg.TND_STEP).toNat + 1) % 2 ^ 32) = true) :=
  ⟨{ regs [(Reg.SMC_RUNSTAT, 0x40000000), (Reg.SMC_STEPCFG, 100), (Reg.TND_STEP, 0)] with time := 200000, tnd := { TndInt.init with isOpen := true } }, by decide +kernel⟩

theorem test_meets_TundishStepsAndHorizons_3 : ∃ (s : State), (s.tnd.isOpen = false) ∧ (s.rd Reg.TND_SEALED ≠ s.rd Reg.TND_STEP) ∧ (s.tnd.ran = true) ∧ ((∀ r, r < 32 → s.unretired (1024 + r) (s.rd Reg.TND_STEP).toNat = false)) ∧ ((s.part 2064).committed = none) ∧ (s.windowLast (s.rd Reg.TND_WIN).toNat (s.rd Reg.TND_STEP).toNat = false) :=
  ⟨{ regs [(Reg.TND_STEP, 0), (Reg.TND_SEALED, 0xFFFFFFFF), (Reg.SMC_EPOCH, 0x20004)] with tnd := { TndInt.init with ran := true } }, by decide +kernel⟩

theorem test_meets_TundishStepsAndHorizons_4 : ∃ (s : State) (c : Nat) (n : Nat) (p : Packet), (c < 1024) ∧ (n < 8) ∧ (s.inboxHead c 0 = some p) ∧ (p.cls = 3) ∧ (bits p.key 31 28 = 1) ∧ (p.good = true) ∧ (s.wrapped c = false) ∧ (mapGet 0 s.img.horizKeys (s.rf (Reg.NCR_HZLIST c n) 7 0) = p.key) ∧ (stepGe p.payload (s.rd (Reg.NCR_HZVAL c n)).toNat = true) ∧ (p.payload < 2 ^ 32) :=
  ⟨{ inbox (regs [(Reg.NCR_HZVAL 0 0, 3)]) 0 0 (pkt 3 0x10000005 3 3 [] .init) with img := { ImgInt.init with horizKeys := [(0, 0x10000005)] } }, 0, 0, pkt 3 0x10000005 3 3 [] .init, by decide +kernel⟩

theorem test_meets_TundishStepsAndHorizons_5 : ∃ (s : State) (c : Nat) (p : Packet), (c < 1024) ∧ (s.inboxHead c 0 = some p) ∧ (p.cls = 3) ∧ (bits p.key 31 28 = 1) ∧ (p.good = true) ∧ (s.wrapped c = false) ∧ ((∀ n, n < 8 → mapGet 0 s.img.horizKeys (s.rf (Reg.NCR_HZLIST c n) 7 0) = p.key → stepGe p.payload (s.rd (Reg.NCR_HZVAL c n)).toNat = false)) :=
  ⟨{ inbox (regs [(Reg.NCR_HZLIST 0 0, 1), (Reg.NCR_HZVAL 0 0, 4)]) 0 0 (pkt 3 0x10000005 3 3 [] .init) with img := { ImgInt.init with horizKeys := [(1, 0x10000005)] } }, 0, pkt 3 0x10000005 3 3 [] .init, by decide +kernel⟩

theorem test_meets_CrcFindsOneWrongBit_1 : ∃ (bs : List Byte) (i : Nat) (j : Nat), (i < bs.length) ∧ (j < 8) :=
  ⟨[0], 0, 0, by decide +kernel⟩

theorem test_meets_RouterForwards_1 : ∃ (s : State) (l : Nat) (p : Nat) (pk : Packet) (t : List Packet), (l < 1024) ∧ (p < 4) ∧ (s.bit Reg.PWR_DEVSTAT 29 = false) ∧ (mapGet [] s.wires (8 * l + p) = pk :: t) ∧ (s.bufFlits l p pk.channel + pk.flits ≤ 17) :=
  ⟨{ State.reset with wires := [(1, [pk 0 5 0 1 []])] }, 0, 1, Tests.pk 0 5 0 1 [], [], by decide +kernel⟩

theorem test_meets_RouterForwards_2 : ∃ (s : State) (l : Nat) (p : Nat) (q : Packet) (pk : Packet) (t : List Packet), (l < 1024) ∧ (p < 4) ∧ (s.bit Reg.PWR_DEVSTAT 29 = false) ∧ (mapGet [] s.wires (8 * l + p) = q :: pk :: t) ∧ (17 < s.bufFlits l p q.channel + q.flits) ∧ (pk.channel ≠ q.channel) ∧ (s.bufFlits l p pk.channel + pk.flits ≤ 17) :=
  ⟨{ State.reset with wires := [(1, [pk 0 5 0 1 [], pk 4 5 0 1 []])], routers := [(0, { RouterInt.init with bufs := [(8 * 1 + 2, List.replicate 17 ⟨pk 0 5 0 1 [], none, none, false⟩)] })] }, 0, 1, Tests.pk 0 5 0 1 [], Tests.pk 4 5 0 1 [], [], by decide +kernel⟩

theorem test_meets_RouterForwards_3 : ∃ (s : State) (l : Nat) (p : Nat) (v : Nat) (h : Held), (l < 1024) ∧ (v ≠ 5) ∧ (s.bit Reg.PWR_DEVSTAT 29 = false) ∧ (s.bufHead l p v = some h) ∧ (h.branches = none) ∧ (h.pkt.cls = 4) ∧ (bits h.pkt.key 31 28 = s.rf Reg.SPL_SYSSTAT 23 20) ∧ (homeLcn h.pkt.key ≠ l) :=
  ⟨held .reset 0 4 3 ⟨pk 4 0x40000 0 0 [], none, none, false⟩, 0, 4, 3, ⟨pk 4 0x40000 0 0 [], none, none, false⟩, by decide +kernel⟩

theorem test_meets_RouterForwards_4 : ∃ (s : State) (l : Nat) (o : Nat) (p : Nat) (v : Nat) (m : Nat) (q : Nat) (aged : List Nat) (h : Held) (b : Branch), (l < 1024) ∧ (o < 4) ∧ (s.bit Reg.PWR_DEVSTAT 29 = false) ∧ (s.recWaits l o = false) ∧ (s.grant l o 0 none = some (p, v)) ∧ (s.candidate l p v o 0 = some (h, b)) ∧ (h.branches = some [b]) ∧ (h.needsRecd = false) ∧ (s.linkTo l o = .router m q) ∧ (h.pkt.hops < 127) :=
  ⟨held (regs [(Reg.PWR_DSTAT 0, 0)]) 0 4 0 ⟨pk 3 0x10000000 0 0 [], some [⟨1, some 1, false⟩], none, false⟩, 0, 1, 4, 0, 1, 3, [], ⟨pk 3 0x10000000 0 0 [], some [⟨1, some 1, false⟩], none, false⟩, ⟨1, some 1, false⟩, by decide +kernel⟩

theorem test_meets_RouterForwards_5 : ∃ (s : State) (l : Nat) (o : Nat) (aged : List Nat), (l < 1024) ∧ (o < 6) ∧ (s.bit Reg.PWR_DEVSTAT 29 = false) ∧ (s.recWaits l o = true) :=
  ⟨{ State.reset with routers := [(0, { RouterInt.init with bufs := [(34, [⟨pkt 0 5 0 0 [] ⟨1, 0, 0⟩, some [⟨1, some 1, false⟩], none, true⟩])], recs := (List.range 448).map (fun i => (i, ⟨true, 1, .init, []⟩)) })] }, 0, 1, [], by decide +kernel⟩

theorem test_meets_RouterForwards_6 : ∃ (s : State) (l : Nat) (p : Nat) (m : Nat) (o : Nat) (h : Held) (t : List Held), (l < 1024) ∧ (p < 4) ∧ (s.bit Reg.PWR_DEVSTAT 29 = false) ∧ (s.buf l p 5 = h :: t) ∧ (h.branches = none) ∧ (h.pkt.escTo = some l) ∧ (h.pkt.cls < 8) ∧ (s.bufFlits l p (vcOf h.pkt.cls) + h.pkt.flits ≤ 17) ∧ (s.feeds l p = some (m, o)) ∧ (h.pkt.flits ≤ s.credit m o (vcOf h.pkt.cls)) :=
  ⟨held .reset 0 1 5 ⟨{ pk 0 5 0 1 [] with escTo := some 0 }, none, none, false⟩, 0, 1, 1, 3, ⟨{ pk 0 5 0 1 [] with escTo := some 0 }, none, none, false⟩, [], by decide +kernel⟩

theorem test_meets_RouterForwards_7 : ∃ (s : State) (pcn : Nat) (v : Nat) (m : Nat) (q : Nat) (h : Held), (s.bit Reg.PWR_DEVSTAT 29 = false) ∧ (s.bufHead (1024 + pcn) 3 v = some h) ∧ (s.linkTo (1024 + pcn) 1 = .router m q) ∧ (h.pkt.flits ≤ s.credit (1024 + pcn) 1 v) :=
  ⟨held .reset 1032 3 0 ⟨pk 3 0x10000000 0 0 [], none, none, false⟩, 8, 0, 8, 3, ⟨pk 3 0x10000000 0 0 [], none, none, false⟩, by decide +kernel⟩

theorem test_meets_RouterForwards_8 : ∃ (s : State) (n : Nat) (p : Nat) (v : Nat) (m : Nat) (o : Nat), (s.noCredit n p = false) ∧ (s.feeds n p = some (m, o)) :=
  ⟨{ State.reset with owed := [(88, 2)], credits := [(8, 15)] }, 1, 3, 0, 0, 1, by decide +kernel⟩

theorem test_meets_EscapeRetirementAndMerging_1 : ∃ (s : State) (l : Nat) (p : Nat) (v : Nat) (h : Held) (bs : List Branch), (v ≤ 2) ∧ (s.bufHead l p v = some h) ∧ (h.branches = some bs) ∧ (bs.any (fun b => !b.esc) = true) :=
  ⟨held .reset 0 1 2 ⟨pk 0 5 0 1 [], some [⟨1, some 1, false⟩, ⟨2, some 32, true⟩], none, false⟩, 0, 1, 2, ⟨pk 0 5 0 1 [], some [⟨1, some 1, false⟩, ⟨2, some 32, true⟩], none, false⟩, [⟨1, some 1, false⟩, ⟨2, some 32, true⟩], by decide +kernel⟩

theorem test_meets_EscapeRetirementAndMerging_2 : ∃ (s : State) (n : Nat) (c : Nat) (i : Nat), (s.tokens[n]? = some ⟨1, c, i⟩) :=
  ⟨{ State.reset with tokens := [⟨1, 0, 5⟩], ports := [(0, { Port.init with slots := [(5, 2)] })] }, 0, 0, 5, by decide +kernel⟩

theorem test_meets_EscapeRetirementAndMerging_3 : ∃ (s : State) (l : Nat) (e : Nat) (q : Packet), (l < 1024) ∧ ((s.comb l e).pkt = some q) ∧ ((s.comb l e).st = 1) ∧ ((s.comb l e).kind = 0) :=
  ⟨State.reset.setComb 0 3 ⟨1, 0, some (pk 2 5 7 1 []), 9, [⟨1, some 1, false⟩], [], none, 0, []⟩, 0, 3, pk 2 5 7 1 [], by decide +kernel⟩

theorem test_meets_EscapeRetirementAndMerging_4 : ∃ (s : State) (l : Nat) (e : Nat) (w : Nat) (q : Packet), (l < 1024) ∧ ((s.comb l e).pkt = some q) ∧ ((s.comb l e).st = 1) ∧ ((s.comb l e).kind = 3) ∧ ((s.comb l e).wits = [w]) :=
  ⟨State.reset.setComb 0 3 ⟨1, 3, some (pk 3 0x40000000 1 1 []), 2, [⟨1, some 1, false⟩], [], none, 0, [0x8401]⟩, 0, 3, 0x8401, pk 3 0x40000000 1 1 [], by decide +kernel⟩

theorem test_meets_DrainOfASwap_1 : ∃ (s : State) (c : Nat), (c < 1024) ∧ (s.drainReady c = true) :=
  ⟨{ regs [(Reg.RTR_BANK 0, 0x70002), (Reg.NCR_STAT 0, 0)] with img := { ImgInt.init with inUse := 1 } }, 0, by decide +kernel⟩

theorem test_meets_DrainOfASwap_2 : ∃ (s : State) (p : Packet), (s.inboxHead 1060 0 = some p) ∧ ((p.cls = 3 ∨ p.cls = 7)) ∧ (p.good = true) ∧ (bits p.key 31 28 = 5) ∧ (bits p.key 15 0 = s.runc.swapGen) ∧ (s.rf Reg.SMC_DRAIN 15 0 + bits p.payload 15 0 < s.rf Reg.SMC_DRAIN 31 16) :=
  ⟨{ inbox (regs [(Reg.SMC_DRAIN, 0x50000)]) 1060 0 (pk 3 0x50000007 1 0 []) with runc := { RunCtl.init with swapGen := 7 } }, pk 3 0x50000007 1 0 [], by decide +kernel⟩

theorem test_meets_DrainOfASwap_3 : ∃ (s : State) (p : Packet), (s.inboxHead 1060 0 = some p) ∧ ((p.cls = 3 ∨ p.cls = 7)) ∧ (p.good = true) ∧ (bits p.key 31 28 = 5) ∧ (bits p.key 15 0 = s.runc.swapGen) ∧ (s.rf Reg.SMC_DRAIN 15 0 + bits p.payload 15 0 = s.rf Reg.SMC_DRAIN 31 16) ∧ (s.bit Reg.SMC_IMGSTAT 23 = true) ∧ (s.rf Reg.SMC_RECSTAT 31 16 = 0) :=
  ⟨{ inbox (regs [(Reg.SMC_DRAIN, 0x10000), (Reg.SMC_IMGSTAT, 0x800000)]) 1060 0 (pk 3 0x50000007 1 0 []) with runc := { RunCtl.init with swapGen := 7 } }, pk 3 0x50000007 1 0 [], by decide +kernel⟩

theorem test_meets_DrainOfASwap_4 : ∃ (s : State) (c : Nat) (k : Packet), (c < 1024) ∧ (s.inboxHead c 3 = some k) ∧ (k.cls = 6) ∧ (k.good = true) ∧ (configTarget k.key c = true) ∧ (bitAt k.key 1 = true) ∧ (k.payload = 0x1000) ∧ (k.data.length = 4) ∧ (bitAt (leNat k.data) 1 = false) :=
  ⟨inbox (regs [(Reg.RTR_BANK 0, 0x70002)]) 0 3 (pk 6 2 0x1000 0 (leBytes 4 0)), 0, pk 6 2 0x1000 0 (leBytes 4 0), by decide +kernel⟩

theorem test_meets_MessageRequestLands_1 : ∃ (s : State) (c : Nat) (p : Packet), (c < 1024) ∧ (s.inboxHead c 3 = some p) ∧ (p.cls = 4) ∧ (p.good = true) ∧ (s.wrapped c = false) ∧ (s.refusals c < 16) ∧ (s.queueOk c (bits p.key 16 5) = true) ∧ (s.landOk c (bits p.key 16 5) (bits p.payload 14 0) (p.step % 32) = true) ∧ (s.queueFull c (bits p.key 16 5) = false) ∧ (p.data.length = 16 * (p.step % 32)) ∧ (bits p.payload 14 0 + p.data.length ≤ 0x8000) :=
  ⟨inbox (regs [(Reg.MSG_QCFG 0 0, 0x80000000), (Reg.MSG_QRING 0 0, 0x100000), (Reg.MSG_QLAND 0 0, 0x40000)]) 0 3 (pk 4 0 0 1 (leBytes 16 5)), 0, pk 4 0 0 1 (leBytes 16 5), by decide +kernel⟩

theorem test_meets_MessageRequestLands_2 : ∃ (s : State) (c : Nat) (p : Packet), (c < 1024) ∧ (s.inboxHead c 3 = some p) ∧ (p.cls = 4) ∧ (p.good = true) ∧ (s.wrapped c = false) ∧ (s.refusals c < 16) ∧ ((s.queueOk c (bits p.key 16 5) = false ∨ s.landOk c (bits p.key 16 5) (bits p.payload 14 0) (p.step % 32) = false)) :=
  ⟨inbox .reset 0 3 (pk 4 0 0 1 (leBytes 16 5)), 0, pk 4 0 0 1 (leBytes 16 5), by decide +kernel⟩

theorem test_meets_MessageQueueCommands_1 : ∃ (s : State) (src : Src) (c : Nat) (sel : Nat) (q : Nat) (rest : List Nat), (c < 1024) ∧ (sel < 4) ∧ (s.accKind src false (Reg.MSG_SELPOP c sel) = none) ∧ (s.bit (Reg.MSG_SELCFG c sel) 31 = true) ∧ (s.bit (Reg.MSG_SELCFG c sel) 30 = false) ∧ (s.readyQueues c sel = q :: rest) :=
  ⟨inst [(Reg.MSG_SELCFG 0 3, 0x80000001), (Reg.MSG_QCFG 0 0, 0x80000000), (Reg.MSG_QPTR 0 0, 0x40000)], .pcie, 0, 3, 0, [], by decide +kernel⟩

theorem test_meets_MessageQueueCommands_2 : ∃ (s : State) (src : Src) (c : Nat) (q : Nat), (c < 1024) ∧ (q < 128) ∧ (s.accKind src true (Reg.MSG_RELEASE c) = none) ∧ (s.consumer c q < 2) ∧ (mapGet 0 (s.core c).relDone q = 0) ∧ (s.qHead c q ≠ s.qRel c q) ∧ (s.forwardOpen c q (s.qRel c q) = false) :=
  ⟨inst [(Reg.MSG_QPTR 0 127, 0x200)], .smc, 0, 127, by decide +kernel⟩

theorem test_meets_MessageQueueCommands_3 : ∃ (s : State) (c : Nat) (q : Nat) (ptr : Nat) (rest : List (Nat × Nat)), (c < 1024) ∧ ((s.core c).fwdWait = (q, ptr) :: rest) ∧ ((s.core c).fwds.length < 8) :=
  ⟨{ State.reset with cores := [(0, { CoreInt.init with fwdWait := [(0, 0)] })] }, 0, 0, 0, [], by decide +kernel⟩

theorem test_meets_MessageQueueCommands_4 : ∃ (s : State) (c : Nat) (q : Nat) (data : Nat) (ring : Bool), (c < 1024) ∧ (q < 128) ∧ (s.accKind .pcie true (if ring then Reg.MSG_QRING c q else Reg.MSG_QLAND c q) = none) ∧ (s.rf Reg.SEC_STAT 31 30 = 1) :=
  ⟨inst [(Reg.MSG_QPTR 0 127, 0x200)], 0, 127, 0x100003, true, by decide +kernel⟩

theorem test_meets_RepliesAndTimeouts_1 : ∃ (s : State) (c : Nat) (p : Packet), (c < 1024) ∧ (s.inboxHead c 4 = some p) ∧ (p.cls = 5) ∧ (p.good = true) ∧ (bits p.key 4 2 = 0) ∧ (s.sdOldest (Reg.MSG_SDKEY c (bits p.payload 23 19)) (bits p.payload 31 24) = true) :=
  ⟨inbox (regs [(Reg.MSG_SDKEY 0 31 + 12, 0x01008000)]) 0 4 (pk 5 0 0xFA0000 0 []), 0, pk 5 0 0xFA0000 0 [], by decide +kernel⟩

theorem test_meets_RepliesAndTimeouts_2 : ∃ (s : State) (c : Nat) (p : Packet), (c < 1024) ∧ (s.inboxHead c 4 = some p) ∧ (p.cls = 5) ∧ (p.good = true) ∧ (bits p.key 4 2 = 0) ∧ (s.sdOldest (Reg.MSG_SDKEY c (bits p.payload 23 19)) (bits p.payload 31 24) = false) :=
  ⟨inbox .reset 0 4 (pk 5 0 0 0 []), 0, pk 5 0 0 0 [], by decide +kernel⟩

theorem test_meets_RepliesAndTimeouts_3 : ∃ (s : State) (k : Nat) (p : Packet), (k < 4) ∧ (s.inboxHead (1056 + k) 4 = some p) ∧ (p.cls = 5) ∧ (p.good = true) ∧ (s.sdOldest (Reg.LDL_SDKEY (bits p.payload 23 19)) (bits p.payload 31 24) = true) ∧ (bits p.payload 18 15 = 0) :=
  ⟨inbox (regs [(Reg.LDL_SDKEY 0 + 12, 0x01008000)]) 1059 4 (pk 5 0 0 0 []), 3, pk 5 0 0 0 [], by decide +kernel⟩

theorem test_meets_RepliesAndTimeouts_4 : ∃ (s : State) (c : Nat) (d : Nat), (c < 1024) ∧ (d < 32) ∧ (s.rf (Reg.MSG_SDKEY c d + 8) 15 0 ≠ 0) ∧ (s.rf (Reg.MSG_SDKEY c d + 12) 19 15 ≠ 0) :=
  ⟨regs [(Reg.MSG_SDKEY 0 31 + 8, 1), (Reg.MSG_SDKEY 0 31 + 12, 0x01008000)], 0, 31, by decide +kernel⟩

theorem test_meets_CameraHeaderCode_1 : ∃ (h : Nat) (i : Nat), (h < 2 ^ 32) ∧ (hdrEcc (hdrData h) = bits h 29 24) ∧ (i < 32) :=
  ⟨0x1A000230, 31, by decide +kernel⟩

theorem test_meets_CameraHeaderCode_2 : ∃ (h : Nat) (i : Nat) (j : Nat), (h < 2 ^ 32) ∧ (hdrEcc (hdrData h) = bits h 29 24) ∧ (i < j) ∧ (j < 32) :=
  ⟨0x1A000230, 0, 31, by decide +kernel⟩

theorem test_meets_CameraPackets_1 : ∃ (s : State) (p : Nat) (h : Nat) (crc : Nat) (d : List Byte), (p < 3) ∧ (s.bit (Reg.TND_PCFG p) 31 = true) ∧ (s.domOn 163 = true) ∧ (h < 2 ^ 32) ∧ (hdrEcc (hdrData h) = bits h 29 24) ∧ (bits h 5 0 ≠ 0x12) ∧ (bits h 23 8 = d.length) ∧ (crcCsi d = crc) ∧ (csiType (bits h 5 0) = true) ∧ (((s.tndBuf p).map (fun i => i.len)).sum + d.length ≤ s.rf (Reg.TND_PBUF p) 14 0 * 1024) :=
  ⟨inst [(Reg.TND_PCFG 0, 0x80000000), (Reg.TND_PBUF 0, 1)], 0, 0x1A000230, crcCsi [1, 2], [1, 2], by decide +kernel⟩

theorem test_meets_CameraPackets_2 : ∃ (s : State) (p : Nat) (h : Nat) (crc : Nat) (d : List Byte), (p < 3) ∧ (s.bit (Reg.TND_PCFG p) 31 = true) ∧ (s.domOn 163 = true) ∧ (h < 2 ^ 32) ∧ (hdrEcc (hdrData h) = bits h 29 24) ∧ (bits h 5 0 ≠ 0x12) ∧ (bits h 23 8 = d.length) ∧ (crcCsi d = crc) ∧ (csiType (bits h 5 0) = true) ∧ (s.rf (Reg.TND_PBUF p) 14 0 * 1024 < ((s.tndBuf p).map (fun i => i.len)).sum + d.length) :=
  ⟨inst [(Reg.TND_PCFG 0, 0x80000000)], 0, 0x1A000230, crcCsi [1, 2], [1, 2], by decide +kernel⟩

theorem test_meets_CameraPackets_3 : ∃ (s : State) (p : Nat) (h : Nat) (crc : Nat) (d : List Byte), (p < 3) ∧ (s.bit (Reg.TND_PCFG p) 31 = true) ∧ (s.domOn 163 = true) ∧ (h < 2 ^ 32) ∧ (hdrEcc (hdrData h) = bits h 29 24) ∧ (bits h 5 0 ≠ 0x12) ∧ (bits h 23 8 = d.length) ∧ (crcCsi d ≠ crc) :=
  ⟨inst [(Reg.TND_PCFG 2, 0x80000000), (Reg.TND_PBUF 2, 1)], 2, 0x1A000230, 0x10000, [1, 2], by decide +kernel⟩

theorem test_meets_CameraPackets_4 : ∃ (s : State) (p : Nat) (vc : Nat) (n : Nat), (p < 4) ∧ (s.csiOn p = true) :=
  ⟨inst [(Reg.TND_PCFG 2, 0x80000000)], 2, 15, 1, by decide +kernel⟩

theorem test_meets_CameraPackets_5 : ∃ (s : State) (p : Nat) (l : Nat), (p < 4) ∧ (l < 4) ∧ (s.domOn 163 = true) ∧ (s.bit (Reg.TND_PCFG p) 31 = true) :=
  ⟨inst [(Reg.TND_PCFG 3, 0x80000000)], 3, 3, by decide +kernel⟩

theorem test_meets_CameraPackets_6 : ∃ (s : State) (h : Nat) (d : List Byte), (s.vrn.live = true) ∧ (s.csiOn 3 = true) ∧ (h < 2 ^ 32) ∧ (hdrEcc (hdrData h) = bits h 29 24) ∧ (bits h 23 8 = d.length) ∧ (csiType (bits h 5 0) = true) ∧ (((s.tndBuf 3).map (fun i => i.len)).sum + d.length ≤ s.rf (Reg.TND_PBUF 3) 14 0 * 1024) :=
  ⟨{ inst [(Reg.TND_PCFG 3, 0x80000000), (Reg.TND_PBUF 3, 1)] with vrn := { VrnInt.init with live := true } }, 0x1A000230, [1, 2], by decide +kernel⟩

theorem test_meets_StreamDecoding_1 : ∃ (s : State) (p : Nat) (it : TndItem) (rest : List TndItem), (p < 4) ∧ (s.tndBuf p = it :: rest) ∧ (it.kind = 0) ∧ (s.descFor p it.vc it.dt = none) :=
  ⟨withTnd .reset { TndInt.init with bufs := [(0, [⟨0, 0, 0x30, 0, 2, false⟩])] }, 0, ⟨0, 0, 0x30, 0, 2, false⟩, [], by decide +kernel⟩

theorem test_meets_StreamDecoding_2 : ∃ (s : State) (p : Nat) (n : Nat) (it : TndItem) (rest : List TndItem), (p < 4) ∧ (s.tndBuf p = it :: rest) ∧ (it.kind = 0) ∧ (s.descFor p it.vc it.dt = some n) ∧ (mapGet 0 s.tnd.pos p = 0) ∧ (it.len = 2) ∧ (bits (s.desc n 0) 30 29 = 0) ∧ (bits (s.desc n 0) 16 15 = 0) ∧ (bits (s.desc n 2) 31 24 = 0) ∧ (bits (s.desc n 2) 23 16 = 0) ∧ (bitAt (s.desc n 1) 5 = false) ∧ (bitAt (s.desc n 0) 14 = false) ∧ (bitAt (s.desc n 0) 13 = true) ∧ (bitAt (s.desc n 6) 2 = false) ∧ ((s.row (bits (s.desc n 0) 12 8)).length < 256) ∧ (leNat (s.itemBytes p it 0 2) / 2 ^ bits (s.desc n 1) 31 26 % 2 ^ (bits (s.desc n 1) 25 22 + 1) / 2 ^ bits (s.desc n 6) 31 28 < bits (s.desc n 6) 23 12) :=
  ⟨withTnd (regs [(Reg.TND_DESC 15 0, 0x80602000), (Reg.TND_DESC 15 6, 0x1000)]) { TndInt.init with bufs := [(0, [⟨0, 0, 0x30, 0, 2, false⟩])] }, 0, 15, ⟨0, 0, 0x30, 0, 2, false⟩, [], by decide +kernel⟩

theorem test_meets_StreamDecoding_3 : ∃ (s : State) (n : Nat) (p : Nat) (i : Nat) (it : TndItem), (i < it.len) ∧ (bits (s.desc n 0) 30 29 = 1) ∧ (bits (s.desc n 0) 16 15 = 0) ∧ (it.dt ≠ 0x1E) ∧ (bitAt (s.desc n 3) 14 = false) ∧ (mapGet false s.tnd.seen n = true) ∧ (i < bits (s.desc n 1) 31 16) ∧ (mapGet 0 s.tnd.line n < max 1 (bits (s.desc n 1) 15 0)) :=
  ⟨withTnd (regs [(Reg.TND_DESC 0 0, 0x20000000), (Reg.TND_DESC 0 1, 0x40002)]) { TndInt.init with seen := [(0, true)], line := [(0, 1)] }, 0, 0, 3, ⟨0, 0, 0x30, 0, 4, false⟩, by decide +kernel⟩

theorem test_meets_TundishInjection_1 : ∃ (s : State) (r : Nat) (e : TndEvent) (rest : List TndEvent), (r < 32) ∧ (s.row r = e :: rest) ∧ ((s.bit Reg.SMC_STEPCFG 23 = false ∨ e.old = true)) ∧ (s.tnd.isOpen = true) ∧ (s.rowRoom r = true) :=
  ⟨withTnd (regs [(Reg.TND_STEP, 5)]) { TndInt.init with rows := [(31, [⟨5, 0, false, 0, false⟩])], isOpen := true }, 31, ⟨5, 0, false, 0, false⟩, [], by decide +kernel⟩

theorem test_meets_TundishInjection_2 : ∃ (s : State) (r : Nat), (s.bit Reg.SMC_STEPCFG 23 = true) ∧ ((∀ e ∈ s.row r, e.old = false)) :=
  ⟨withTnd (regs [(Reg.TND_STEP, 5), (Reg.SMC_STEPCFG, 0x00800064)]) { TndInt.init with rows := [(31, [⟨5, 0, false, 0, false⟩])], isOpen := true }, 31, by decide +kernel⟩

theorem test_meets_TundishInjection_3 : ∃ (s : State) (ch : Nat) (r : List Byte) (rest : List (List Byte)) (j : ChJob), ((s.chan ch).evs = r :: rest) ∧ ((s.chan ch).cur = some j) ∧ (stepGt (numAt r 8 4) ((s.rd Reg.TND_STEP).toNat) = true) :=
  ⟨withChan (regs [(Reg.TND_STEP, 5)]) 0 { ChInt.init with evs := [raw 16 [(8, 6)]], cur := some ⟨0, 3, 0, 16, 0, 0, 0, 0, false⟩ }, 0, raw 16 [(8, 6)], [], ⟨0, 3, 0, 16, 0, 0, 0, 0, false⟩, by decide +kernel⟩

theorem test_meets_TundishInjection_4 : ∃ (s : State) (ch : Nat) (r : List Byte) (rest : List (List Byte)) (j : ChJob), ((s.chan ch).evs = r :: rest) ∧ ((s.chan ch).cur = some j) ∧ (stepGt (numAt r 8 4) ((s.rd Reg.TND_STEP).toNat) = false) ∧ ((numAt r 8 4 = ((s.rd Reg.TND_STEP).toNat) ∨ bitAt (numAt r 6 1) 1 = false)) ∧ (s.tnd.isOpen = true) ∧ (s.rowRoom (if bitAt (numAt r 6 1) 2 then numAt r 7 1 % 32 else homeLcn (numAt r 0 4) / 32) = true) :=
  ⟨withChan (withTnd (regs [(Reg.TND_STEP, 5)]) { TndInt.init with isOpen := true }) 0 { ChInt.init with evs := [raw 16 [(6, 2), (8, 5)]], cur := some ⟨0, 3, 0, 16, 0, 0, 0, 0, false⟩ }, 0, raw 16 [(6, 2), (8, 5)], [], ⟨0, 3, 0, 16, 0, 0, 0, 0, false⟩, by decide +kernel⟩

theorem test_meets_TundishInjection_5 : ∃ (s : State) (ch : Nat) (r : List Byte) (rest : List (List Byte)) (j : ChJob), ((s.chan ch).evs = r :: rest) ∧ ((s.chan ch).cur = some j) ∧ (stepGt (numAt r 8 4) ((s.rd Reg.TND_STEP).toNat) = false) ∧ (numAt r 8 4 ≠ ((s.rd Reg.TND_STEP).toNat)) ∧ (bitAt (numAt r 6 1) 1 = true) :=
  ⟨withChan (regs [(Reg.TND_STEP, 5)]) 0 { ChInt.init with evs := [raw 16 [(6, 2), (8, 4)]], cur := some ⟨0, 3, 0, 16, 0, 0, 0, 0, false⟩ }, 0, raw 16 [(6, 2), (8, 4)], [], ⟨0, 3, 0, 16, 0, 0, 0, 0, false⟩, by decide +kernel⟩

theorem test_meets_CountAndWindowRecords_1 : ∃ (s : State) (c : Nat) (r : Nat × Nat × List Byte) (i : Instr), (c < 1024) ∧ ((s.core c).tapOut.length < 4) ∧ ((i = Instr.countRecordSend c ∧ (s.core c).tapFull = [] ∧ (s.core c).tapNext false = some r) ∨ (i = .countRecordRetry c ∧ (s.core c).tapFull ≠ [] ∧ (s.core c).tapNext true = some r)) :=
  ⟨{ State.reset with cores := [(0, { CoreInt.init with taps := [(0, 0, zeros 64)] })] }, 0, (0, 0, zeros 64), .countRecordSend 0, by decide +kernel⟩

theorem test_meets_CountAndWindowRecords_2 : ∃ (s : State) (r : List Byte), (s.tnd.held = [r]) ∧ (s.bit (Reg.LDL_HQCFG (s.rf Reg.TND_CTRL 11 0)) 31 = true) ∧ (s.hqCount (s.rf Reg.TND_CTRL 11 0) < s.hqSize (s.rf Reg.TND_CTRL 11 0)) :=
  ⟨withTnd (regs [(Reg.LDL_HQCFG 0, 0x80000000), (Reg.LDL_HQLOCAL 0, 1)]) { TndInt.init with held := [[2, 1]] }, [2, 1], by decide +kernel⟩

theorem test_meets_CountAndWindowRecords_3 : ∃ (s : State) (r : List Byte) (rest : List (List Byte)), (s.tnd.held = r :: rest) ∧ (s.bit (Reg.LDL_HQCFG (s.rf Reg.TND_CTRL 11 0)) 31 = true) ∧ (s.hqSize (s.rf Reg.TND_CTRL 11 0) < s.hqCount (s.rf Reg.TND_CTRL 11 0) + 1) :=
  ⟨withTnd (regs [(Reg.LDL_HQCFG 0, 0x80000000)]) { TndInt.init with held := [[2, 1]] }, [2, 1], [], by decide +kernel⟩

theorem test_meets_LadleChannelCommands_1 : ∃ (s : State) (src : Src) (n : Nat) (tail : Nat), (n < 32) ∧ (s.accKind src true (Reg.LDL_CHTAIL n) = none) :=
  ⟨ladle [] [], .smc, 31, 5, by decide +kernel⟩

theorem test_meets_LadleChannelCommands_2 : ∃ (s : State) (src : Src) (n : Nat) (cfg : Nat), (n < 32) ∧ (s.accKind src true (Reg.LDL_CHCFG n) = none) ∧ (s.bit (Reg.LDL_CHCFG n) 31 = false) ∧ (s.hostGone = false) ∧ ((s.chan n).cur = none) ∧ ((s.chan n).ents = []) :=
  ⟨inst [(Reg.HIF_STAT, 0)], .pcie, 31, 0x54000000, by decide +kernel⟩

theorem test_meets_LadleChannelCommands_3 : ∃ (s : State) (src : Src) (n : Nat) (cfg : Nat) (j : ChJob), (n < 32) ∧ (s.accKind src true (Reg.LDL_CHCFG n) = none) ∧ (s.bit (Reg.LDL_CHCFG n) 31 = true) ∧ ((s.chan n).cur = some j) ∧ (j.op ≠ 3) ∧ ((s.chan n).ents = []) :=
  ⟨withChan (ladle [] []) 0 { ChInt.init with cur := some ⟨0, 1, 1, 8, 0, 0, 7, 4, false⟩ }, .pcie, 0, 0, ⟨0, 1, 1, 8, 0, 0, 7, 4, false⟩, by decide +kernel⟩

theorem test_meets_LadleChannelCommands_4 : ∃ (s : State) (src : Src) (n : Nat) (cfg : Nat), (n < 32) ∧ (s.accKind src true (Reg.LDL_CHCFG n) = none) ∧ (s.bit (Reg.LDL_CHCFG n) 31 = true) ∧ ((s.chan n).cur = none) ∧ ((s.chan n).ents = []) :=
  ⟨ladle [] [], .pcie, 0, 0, by decide +kernel⟩

theorem test_meets_LadleDescriptors_1 : ∃ (s : State) (n : Nat), (n < 32) ∧ (s.chMay n = true) ∧ (s.descOk (s.chDesc n) = true) ∧ ((s.chDesc n).op = 0) :=
  ⟨ladle (raw 32 [(24, 7)]) [], 0, by decide +kernel⟩

theorem test_meets_LadleDescriptors_2 : ∃ (s : State) (n : Nat) (e : Nat × Instr), (n < 32) ∧ (s.chMay n = true) ∧ (s.descOk (s.chDesc n) = true) ∧ (e ∈ [(1, Instr.ladleH2d n), (2, .ladleD2h n), (3, .ladleEvents n)]) ∧ ((s.chDesc n).op = e.1) :=
  ⟨ladle (raw 32 [(0, 1), (4, 8), (16, 0x200000000)]) [], 0, (1, .ladleH2d 0), by decide +kernel⟩

theorem test_meets_LadleDescriptors_3 : ∃ (s : State) (n : Nat), (n < 32) ∧ (s.chMay n = true) ∧ (s.descOk (s.chDesc n) = true) ∧ ((s.chDesc n).op = 4) ∧ (s.rf (Reg.LDL_SDSTAT (s.chDesc n).sel) 19 15 < s.sdSlots (Reg.LDL_SDLAND (s.chDesc n).sel)) ∧ (s.wireFlits (s.injWire (1056 + (s.chDesc n).sel % 4)) + 1 + (s.chDesc n).len / 16 ≤ 17) :=
  ⟨ladle (raw 32 [(0, 4), (4, 16)]) [(Reg.LDL_SDLAND 0, 0x820000)], 0, by decide +kernel⟩

theorem test_meets_LadleDescriptors_4 : ∃ (s : State) (n : Nat), (n < 32) ∧ (s.chMay n = true) ∧ (s.descOk (s.chDesc n) = true) ∧ ((s.chDesc n).op = 5) :=
  ⟨ladle (raw 32 [(0, 5), (4, 1), (8, 64)]) [(Reg.LDL_HQCFG 0, 0x80000000)], 0, by decide +kernel⟩

theorem test_meets_LadleDescriptors_5 : ∃ (s : State) (n : Nat) (e : Nat × Instr), (n < 32) ∧ (s.chMay n = true) ∧ (s.descOk (s.chDesc n) = false) ∧ (e ∈ [(0, Instr.ladleNop n), (1, .ladleH2d n), (2, .ladleD2h n), (3, .ladleEvents n), (4, .ladleMsg n), (5, .ladleReadq n)]) ∧ ((s.chDesc n).op = e.1 ∨ (e.1 = 0 ∧ 6 ≤ (s.chDesc n).op)) :=
  ⟨ladle (raw 32 [(0, 6)]) [], 0, (0, .ladleNop 0), by decide +kernel⟩

theorem test_meets_LadleSegmentsAndCompletions_1 : ∃ (s : State) (n : Nat) (j : ChJob), (n < 32) ∧ (s.chPick = some n) ∧ ((s.chan n).cur = some j) ∧ (j.done < j.len) ∧ (storageAt (j.daddr + j.done) = true) ∧ (j.daddr + j.len ≤ storageEnd (j.daddr + j.done)) ∧ (0x200000000 ≤ j.daddr) ∧ (j.daddr < 0x300000000) ∧ (s.answers (j.daddr + j.done) = true) ∧ (s.upsets = []) ∧ (s.poison = []) ∧ (j.op = 1) :=
  ⟨withChan (ladle [] [(Reg.LDL_CHSTAT 0, 0x40000000)]) 0 { ChInt.init with cur := some ⟨0, 1, 0, 8, 0x2000, 0x200000000, 7, 0, false⟩ }, 0, ⟨0, 1, 0, 8, 0x2000, 0x200000000, 7, 0, false⟩, by decide +kernel⟩

theorem test_meets_LadleSegmentsAndCompletions_2 : ∃ (s : State) (n : Nat) (j : ChJob), (n < 32) ∧ (s.chPick = some n) ∧ ((s.chan n).cur = some j) ∧ (j.done < j.len) ∧ (storageAt (j.daddr + j.done) = true) ∧ (j.daddr + j.len ≤ storageEnd (j.daddr + j.done)) ∧ (0x200000000 ≤ j.daddr) ∧ (j.daddr < 0x300000000) ∧ (s.answers (j.daddr + j.done) = true) ∧ (s.upsets = []) ∧ (s.poison = []) ∧ (j.op = 2) :=
  ⟨withChan (ladle [] [(Reg.LDL_CHSTAT 0, 0x40000000)]) 0 { ChInt.init with cur := some ⟨0, 2, 0, 8, 0x2000, 0x200000000, 7, 0, false⟩ }, 0, ⟨0, 2, 0, 8, 0x2000, 0x200000000, 7, 0, false⟩, by decide +kernel⟩

theorem test_meets_LadleSegmentsAndCompletions_3 : ∃ (s : State) (n : Nat) (e : ChEnt) (rest : List ChEnt), (n < 32) ∧ ((s.chan n).ents = e :: rest) ∧ (e.wait = none) ∧ (s.hostGone = false) ∧ (s.domOn 162 = true) :=
  ⟨withChan (ladle [] []) 0 { ChInt.init with ents := [⟨0, 7, 8, 0, 0, false, none⟩] }, 0, ⟨0, 7, 8, 0, 0, false, none⟩, [], by decide +kernel⟩

theorem test_meets_LadleSegmentsAndCompletions_4 : ∃ (s : State) (n : Nat) (j : ChJob), (n < 32) ∧ ((s.chan n).cur = some j) ∧ (j.op = 1) :=
  ⟨withChan (ladle [] []) 0 { ChInt.init with cur := some ⟨0, 1, 0, 8, 0x2000, 0x200000000, 7, 0, false⟩ }, 0, ⟨0, 1, 0, 8, 0x2000, 0x200000000, 7, 0, false⟩, by decide +kernel⟩

theorem test_meets_HostQueueRequests_1 : ∃ (s : State) (k : Nat) (p : Packet), (k < 4) ∧ (s.domOn 162 = true) ∧ (s.inboxHead (1056 + k) 3 = some p) ∧ (p.cls = 4) ∧ (p.good = true) ∧ (bits p.key 4 2 ≠ 5) ∧ (s.bit (Reg.LDL_HQCFG (bits p.key 16 5)) 31 = true) ∧ (s.hqCount (bits p.key 16 5) + (s.hqRecords p).length ≤ s.hqSize (bits p.key 16 5)) ∧ (s.hqSize (bits p.key 16 5) ≤ 12288) :=
  ⟨inbox (inst [(Reg.LDL_HQCFG 0, 0x80000000), (Reg.LDL_HQLOCAL 0, 1)]) 1056 3 (pk 4 0 0 0x2004 (zeros 64)), 0, pk 4 0 0 0x2004 (zeros 64), by decide +kernel⟩

theorem test_meets_HostQueueRequests_2 : ∃ (s : State) (k : Nat) (p : Packet), (k < 4) ∧ (s.domOn 162 = true) ∧ (s.inboxHead (1056 + k) 3 = some p) ∧ (p.cls = 4) ∧ (p.good = true) ∧ (bits p.key 4 2 ≠ 5) ∧ (s.bit (Reg.LDL_HQCFG (bits p.key 16 5)) 31 = true) ∧ (s.hqSize (bits p.key 16 5) < s.hqCount (bits p.key 16 5) + (s.hqRecords p).length) :=
  ⟨inbox (inst [(Reg.LDL_HQCFG 0, 0x80000000)]) 1059 3 (pk 4 0 0 0x2004 (zeros 64)), 3, pk 4 0 0 0x2004 (zeros 64), by decide +kernel⟩

theorem test_meets_HostQueueRequests_3 : ∃ (s : State) (p : Packet), (bits p.step 15 12 = 2) ∧ (p.step % 32 = 4) ∧ (bitAt p.payload 14 = false) ∧ (p.data.length = 64) :=
  ⟨.reset, pk 4 0 0 0x2004 (zeros 64), by decide +kernel⟩

theorem test_meets_HostQueueRequests_4 : ∃ (s : State) (k : Nat) (p : Packet), (k < 4) ∧ (s.domOn 162 = true) ∧ (s.inboxHead (1056 + k) 3 = some p) ∧ (p.cls = 4) ∧ (p.good = true) ∧ (bits p.key 4 2 = 5) ∧ (s.bit Reg.HIF_LINK 31 = true) ∧ (s.hostGone = false) ∧ (getF (mapGet 0 s.cfg 0xB0) 31 30 = 2) ∧ (s.bit (Reg.MSIX_CTRL (1024 + p.srcLcn)) 0 = false) :=
  ⟨{ inbox (inst [(Reg.HIF_STAT, 0), (Reg.HIF_LINK, 0x80000000), (Reg.MSIX_CTRL 1024, 0)]) 1056 3 (pk 4 20 0 0xF000 []) with cfg := [(0xB0, 0x80000000)] }, 0, pk 4 20 0 0xF000 [], by decide +kernel⟩

theorem test_meets_HostQueueReads_1 : ∃ (s : State) (q : Nat) (m : Nat), (q < 4096) ∧ (m ≤ 8) ∧ (s.accKind .pcie false (0x1400000 + 512 * q) = none) ∧ (s.bit (Reg.LDL_HQCFG q) 30 = false) :=
  ⟨inst [(Reg.LDL_HQLOCAL 4095, 8), (Reg.LDL_HQLSTAT 4095, 2)], 4095, 8, by decide +kernel⟩

theorem test_meets_HostQueueReads_2 : ∃ (s : State) (q : Nat), (q < 4096) ∧ (s.domOn 162 = true) ∧ (s.hostGone = false) ∧ (s.bit (Reg.LDL_HQCFG q) 30 = true) ∧ (s.hqCount q = 1) ∧ (0 < s.ringRoom q) ∧ (s.rd64 (Reg.LDL_HQWB_LO q) = 0) :=
  ⟨inst [(Reg.HIF_STAT, 0), (Reg.LDL_HQCFG 0, 0x40000000), (Reg.LDL_HQLOCAL 0, 1), (Reg.LDL_HQLSTAT 0, 1)], 0, by decide +kernel⟩

theorem test_meets_HostQueueReads_3 : ∃ (s : State) (q : Nat), (q < 4096) ∧ (s.bit (Reg.LDL_HQCFG q) 29 = true) ∧ ((s.hq q).since ≠ 0) ∧ (64 ≤ s.rf (Reg.LDL_HQCFG q) 10 0) ∧ (s.rf (Reg.LDL_HQCFG q) 10 0 ≤ 1023) ∧ (s.bit Reg.HIF_LINK 31 = true) ∧ (s.hostGone = false) ∧ (getF (mapGet 0 s.cfg 0xB0) 31 30 = 2) ∧ (s.bit (Reg.MSIX_CTRL (s.rf (Reg.LDL_HQCFG q) 10 0)) 0 = false) :=
  ⟨{ inst [(Reg.HIF_STAT, 0), (Reg.HIF_LINK, 0x80000000), (Reg.LDL_HQCFG 0, 0x20000040), (Reg.MSIX_CTRL 64, 0)] with hqs := [(0, ⟨0, 1⟩)], cfg := [(0xB0, 0x80000000)] }, 0, by decide +kernel⟩

theorem test_meets_HostQueueReads_4 : ∃ (s : State) (src : Src) (q : Nat) (data : Nat), (q < 4096) ∧ (s.accKind src true (Reg.LDL_HQLOCAL q) = none) :=
  ⟨inst [], .pcie, 4095, 0x10008, by decide +kernel⟩

theorem test_meets_HostLostState_1 : ∃ (s : State) (c : LostCause), (s.domOn 162 = true) ∧ (s.hostGone = false) ∧ (s.img.job = none) :=
  ⟨inst [(Reg.HIF_STAT, 0)], .linkDown, by decide +kernel⟩

theorem test_meets_HostLostState_2 : ∃ (s : State) (speed : Nat) (width : Nat), (speed < 8) ∧ (width < 16) ∧ (s.domOn 162 = true) ∧ (s.hostGone = true) ∧ (s.busMaster = true) :=
  ⟨{ inst [] with cfg := [(4, 4)] }, 7, 15, by decide +kernel⟩

theorem test_meets_PreRecordsAndRewards_1 : ∃ (s : State) (p : Nat) (x : Nat) (n : Nat) (u : Nat) (m : Nat) (rest : List (Nat × Nat × Nat × Nat)), (p < 16) ∧ ((s.temper p).pre = (x, n, u, m) :: rest) ∧ (s.rf (Reg.TMP_PRELO p) 21 0 ≤ n) ∧ (u < 2 ^ 32) ∧ (SoundStorage s) ∧ (bitAt (s.num (0x200000000 + p * 0x2000000 + 16 * s.rf (Reg.TMP_PREBASE p) 20 0 + 16 * (n - s.rf (Reg.TMP_PRELO p) 21 0)) 4) 31 = true) ∧ (s.num ((0x200000000 + p * 0x2000000 + 16 * s.rf (Reg.TMP_PREBASE p) 20 0 + 16 * (n - s.rf (Reg.TMP_PRELO p) 21 0)) + 8) 2 = s.rf (Reg.TMP_STAT p) 15 0) ∧ (stepGe (s.num ((0x200000000 + p * 0x2000000 + 16 * s.rf (Reg.TMP_PREBASE p) 20 0 + 16 * (n - s.rf (Reg.TMP_PRELO p) 21 0)) + 4) 4) u = false) :=
  ⟨(withTemper .reset { TemperInt.init with pre := [(0, 0, 5, 256)] }).store 0x200000000 (leBytes 4 0x80000007), 0, 0, 0, 5, 256, [], by decide +kernel⟩

theorem test_meets_PreRecordsAndRewards_2 : ∃ (s : State) (p : Nat) (x : Nat) (n : Nat) (u : Nat) (m : Nat) (rest : List (Nat × Nat × Nat × Nat)), (p < 16) ∧ ((s.temper p).pre = (x, n, u, m) :: rest) ∧ (s.rf (Reg.TMP_PRELO p) 21 0 ≤ n) ∧ (u < 2 ^ 32) ∧ (SoundStorage s) ∧ (bitAt (s.num (0x200000000 + p * 0x2000000 + 16 * s.rf (Reg.TMP_PREBASE p) 20 0 + 16 * (n - s.rf (Reg.TMP_PRELO p) 21 0)) 4) 31 = true) ∧ (s.num ((0x200000000 + p * 0x2000000 + 16 * s.rf (Reg.TMP_PREBASE p) 20 0 + 16 * (n - s.rf (Reg.TMP_PRELO p) 21 0)) + 8) 2 ≠ s.rf (Reg.TMP_STAT p) 15 0) :=
  ⟨(withTemper .reset { TemperInt.init with pre := [(0, 0, 5, 256)] }).store 0x200000000 (leBytes 4 0x80000007 ++ leBytes 4 9 ++ leBytes 2 1), 0, 0, 0, 5, 256, [], by decide +kernel⟩

theorem test_meets_PreRecordsAndRewards_3 : ∃ (s : State) (p : Nat) (x : Nat) (n : Nat) (u : Nat) (m : Nat) (rest : List (Nat × Nat × Nat × Nat)), (p < 16) ∧ ((s.temper p).pre = (x, n, u, m) :: rest) ∧ (s.rf (Reg.TMP_PRELO p) 21 0 ≤ n) ∧ (u < 2 ^ 32) ∧ (SoundStorage s) ∧ (bitAt (s.num (0x200000000 + p * 0x2000000 + 16 * s.rf (Reg.TMP_PREBASE p) 20 0 + 16 * (n - s.rf (Reg.TMP_PRELO p) 21 0)) 4) 31 = false ∨ (s.num ((0x200000000 + p * 0x2000000 + 16 * s.rf (Reg.TMP_PREBASE p) 20 0 + 16 * (n - s.rf (Reg.TMP_PRELO p) 21 0)) + 8) 2 = s.rf (Reg.TMP_STAT p) 15 0 ∧ stepGe (s.num ((0x200000000 + p * 0x2000000 + 16 * s.rf (Reg.TMP_PREBASE p) 20 0 + 16 * (n - s.rf (Reg.TMP_PRELO p) 21 0)) + 4) 4) u = true)) :=
  ⟨(withTemper .reset { TemperInt.init with pre := [(0, 0, 5, 256)] }).store 0x200000000 (leBytes 4 0x80000007 ++ leBytes 4 5), 0, 0, 0, 5, 256, [], by decide +kernel⟩

theorem test_meets_PreRecordsAndRewards_4 : ∃ (s : State) (p : Nat) (c : Nat) (q : Nat), (p < 16) ∧ (s.bit (Reg.TMP_REWQ p) 31 = true) ∧ (c = lcnOf p (s.rf (Reg.TMP_REWQ p) 13 8)) ∧ (q = s.rf (Reg.TMP_REWQ p) 6 0) ∧ (s.consumer c q = 1) ∧ (s.qHead c q ≠ s.qTail c q) ∧ (bits (s.num (padAddr c + s.entryOff c q (s.qHead c q)) 4) 27 23 ≠ 0) :=
  ⟨(regs [(Reg.TMP_REWQ 0, 0x80000000), (Reg.MSG_QCFG 0 0, 0x20000000), (Reg.MSG_QPTR 0 0, 0x40000)]).store 0x100028000 (leBytes 4 0x00800040), 0, 0, 0, by decide +kernel⟩

theorem test_meets_EpochPassPhases_1 : ∃ (s : State) (p : Nat), (p < 16) ∧ (s.tmpPhase p = 0) ∧ (s.partSealed p ((((s.temper p).epoch + 1) * s.epochLen + 2 ^ 32 - 1) % 2 ^ 32) = true) ∧ ((s.temper p).pre = []) ∧ ((s.temper p).ckBusy = false) ∧ (s.pwr.pwrfail = false) ∧ (s.recovering p = false) ∧ (s.heldPart p = false) ∧ (s.saveHolds p = false) ∧ (s.upsets = []) :=
  ⟨{ regs [(Reg.SMC_EPOCH, 4), (Reg.NCR_SEALED 0, 3)] with img := { ImgInt.init with inUse := 1 } }, 0, by decide +kernel⟩

theorem test_meets_EpochPassPhases_2 : ∃ (s : State) (p : Nat), (p < 16) ∧ ((s.temper p).ckBusy = true) ∧ (s.upsets = []) ∧ (mapWf 0 s.mem) :=
  ⟨withTemper .reset { TemperInt.init with ckBusy := true }, 0, by decide +kernel⟩

theorem test_meets_EpochPassPhases_3 : ∃ (s : State) (p : Nat), (p < 16) ∧ (s.tmpPhase p = 1) ∧ (s.passOver p = true) ∧ (s.rd (Reg.TMP_NORMMASK_LO p) = 0) ∧ (s.rd (Reg.TMP_NORMMASK_HI p) = 0) ∧ (s.histRecords p = []) ∧ (s.upsets = []) :=
  ⟨regs [(Reg.TMP_STAT 0, 0x20000000)], 0, by decide +kernel⟩

theorem test_meets_EpochPassPhases_4 : ∃ (s : State) (p : Nat), (p < 16) ∧ (s.tmpPhase p = 4) ∧ ((s.temper p).ckBusy = false) ∧ ((s.temper p).learns = false) :=
  ⟨regs [(Reg.TMP_STAT 0, 0x80000000)], 0, by decide +kernel⟩

theorem test_meets_SynapsePasses_1 : ∃ (s : State) (p : Nat) (off : Nat) (t : Nat) (off' : Nat) (t' : Nat) (rest : List (Nat × Nat)), (p < 16) ∧ (s.passOver p = false) ∧ ((s.passWords p (s.temper p).n).drop (s.temper p).j = (off, t) :: (off', t') :: rest) ∧ (SoundStorage s) ∧ ((s.temper p).ahead.map (·.2.2) ≠ some true) ∧ (bitAt (s.channel (s.preCore p ((s.temper p).n)) (s.readVia (s.preCore p ((s.temper p).n)) t).2) 31 = false) ∧ (bitAt (s.num (0x200000000 + p * 0x2000000 + off) 4) 15 = false) ∧ (bits (s.num (0x200000000 + p * 0x2000000 + off) 4) 11 8 ≠ 15) ∧ (s.tmpPhase p = 1) ∧ (s.normAddr p (cipOf (s.preCore p ((s.temper p).n))) t = none) ∧ (s.rule p (bits (s.preWord p ((s.temper p).n) 0) 30 28) 0x10 1 % 16 = 0) :=
  ⟨plastic [(Reg.TMP_STAT 0, 0x20000000)], 0, 0x1000, 0, 0x1004, 0, [], by decide +kernel⟩

theorem test_meets_SynapsePasses_2 : ∃ (s : State) (p : Nat) (off : Nat) (t : Nat) (off' : Nat) (t' : Nat) (rest : List (Nat × Nat)) (a : Nat), (p < 16) ∧ (s.passOver p = false) ∧ ((s.passWords p (s.temper p).n).drop (s.temper p).j = (off, t) :: (off', t') :: rest) ∧ (SoundStorage s) ∧ ((s.temper p).ahead.map (·.2.2) ≠ some true) ∧ (bitAt (s.channel (s.preCore p ((s.temper p).n)) (s.readVia (s.preCore p ((s.temper p).n)) t).2) 31 = false) ∧ (bitAt (s.num (0x200000000 + p * 0x2000000 + off) 4) 15 = false) ∧ (bits (s.num (0x200000000 + p * 0x2000000 + off) 4) 11 8 ≠ 15) ∧ (s.tmpPhase p = 3) ∧ (s.normAddr p (cipOf (s.preCore p ((s.temper p).n))) t = some a) ∧ (s.num (a + 2) 2 ≠ 0x4000) :=
  ⟨plastic [(Reg.TMP_STAT 0, 0x60000000), (Reg.TMP_NORMMASK_LO 0, 1), (Reg.TMP_NORMBASE 0, 0x2000)], 0, 0x1000, 0, 0x1004, 0, [], 0x200020000, by decide +kernel⟩

theorem test_meets_SynapsePasses_3 : ∃ (s : State) (p : Nat) (off : Nat) (t : Nat) (off' : Nat) (t' : Nat) (rest : List (Nat × Nat)), (p < 16) ∧ (s.passOver p = false) ∧ ((s.passWords p (s.temper p).n).drop (s.temper p).j = (off, t) :: (off', t') :: rest) ∧ (SoundStorage s) ∧ ((s.temper p).ahead.map (·.2.2) ≠ some true) ∧ (bitAt (s.channel (s.preCore p ((s.temper p).n)) (s.readVia (s.preCore p ((s.temper p).n)) t).2) 31 = false) ∧ (bitAt (s.num (0x200000000 + p * 0x2000000 + off) 4) 15 = false) ∧ (bits (s.num (0x200000000 + p * 0x2000000 + off) 4) 11 8 ≠ 15) ∧ (s.tmpPhase p = 3) ∧ (s.normAddr p (cipOf (s.preCore p ((s.temper p).n))) t = none) :=
  ⟨plastic [(Reg.TMP_STAT 0, 0x60000000)], 0, 0x1000, 0, 0x1004, 0, [], by decide +kernel⟩

theorem test_meets_WeightEncodingIsExact_1 : ∃ (s : State) (p : Nat) (ls : List Int) (x : Int), (ls.length = 15) ∧ ((∀ l ∈ ls, -128 ≤ l ∧ l ≤ 127)) :=
  ⟨.reset, 0, List.replicate 15 (-128), 5, by decide +kernel⟩

theorem test_meets_WeightSaves_1 : ∃ (s : State), (s.keep.due = true) ∧ (s.keep.busy = false) ∧ (s.smcHalted = false) ∧ (s.domState 175 ≠ 4) :=
  ⟨{ State.reset with keep := { KeepInt.init with due := true } }, by decide +kernel⟩

theorem test_meets_WeightSaves_2 : ∃ (s : State) (p : Nat), (p < 16) ∧ (s.keep.busy = true) ∧ (s.smcHalted = false) ∧ (p ∈ s.keep.left) ∧ (p ∉ s.keep.wait) ∧ (s.tmpPhase p = 0) ∧ ((s.pwr.pwrfail = false ∨ s.keep.left.head? = some p)) ∧ (s.keep.half < 2) ∧ (4096 ≤ s.keep.next) ∧ (s.keep.next + (s.keepChunk p).length ≤ 0x1800000) ∧ ((∃ q ∈ s.keep.left, q ≠ p)) :=
  ⟨{ State.reset with keep := { KeepInt.init with busy := true, left := [0, 15] } }, 0, by decide +kernel⟩

theorem test_meets_WeightSaves_3 : ∃ (s : State) (p : Nat), (p < 16) ∧ (s.keep.busy = true) ∧ (s.smcHalted = false) ∧ (p ∈ s.keep.left) ∧ (p ∉ s.keep.wait) ∧ (s.tmpPhase p = 0) ∧ ((s.pwr.pwrfail = false ∨ s.keep.left.head? = some p)) ∧ (s.keep.half < 2) ∧ (4096 ≤ s.keep.next) ∧ (s.keep.next + (s.keepChunk p).length ≤ 0x1800000) ∧ ((∀ q ∈ s.keep.left, q = p)) :=
  ⟨{ State.reset with keep := { KeepInt.init with busy := true, left := [15] } }, 15, by decide +kernel⟩

theorem test_meets_FramesReadBack_1 : ∃ (h : FrameHdr) (slots : List Byte), (h.ftype < 16) ∧ (h.seq < 4096) ∧ (h.ack < 4096) ∧ (h.vc < 8) ∧ (h.nflit < 8) ∧ ((∀ t, h.ret = some t → t < 4096)) ∧ (h.credits.length = 6) ∧ ((∀ c ∈ h.credits, c < 16)) ∧ (h.ftype = 1) ∧ (1 ≤ h.nflit) ∧ (h.nflit ≤ 4) ∧ (h.vc < 6) ∧ (slots.length = 16 * h.nflit) :=
  ⟨⟨1, 4095, 5, 5, 1, some 9, [1, 2, 3, 4, 5, 15]⟩, zeros 16, by decide +kernel⟩

theorem test_meets_FramesReadBack_2 : ∃ (f : List Byte) (i : Nat) (j : Nat), (frameOk f = true) ∧ (i < f.length) ∧ (j < 8) :=
  ⟨dataFrame, 31, 7, by decide +kernel⟩

theorem test_meets_LinkReceives_1 : ∃ (s : State) (k : Nat) (i : Nat) (f : List Byte), (k < 8) ∧ (s.linkUp k = true) ∧ ((s.link k).retrain = false) ∧ (frameOk f = true) ∧ ((frameHdr f).ftype = 1) ∧ ((frameHdr f).seq = (s.link k).expect) ∧ ((frameHdr f).nflit = 1) ∧ ((s.link k).coming = []) ∧ ((packetOf (f.drop 16)).cls < 4) ∧ (s.freeRecd (linkLcn k) = some i) :=
  ⟨linked [] .init, 0, 0, dataFrame, by decide +kernel⟩

theorem test_meets_LinkReceives_2 : ∃ (s : State) (k : Nat) (f : List Byte) (e : Nat × Instr), (k < 8) ∧ (s.linkUp k = true) ∧ ((s.link k).retrain = false) ∧ (frameOk f = true) ∧ ((s.link k).expect < 4096) ∧ (e ∈ [(1, Instr.dataFrameReceive k f), (2, .returnFrameReceive k f), (5, .mgmtFrameReceive k f)]) ∧ ((frameHdr f).ftype = e.1) ∧ ((((frameHdr f).seq + 4096 - (s.link k).expect) % 4096) ≠ 0) ∧ (2048 ≤ (((frameHdr f).seq + 4096 - (s.link k).expect) % 4096)) :=
  ⟨linked [] { LinkInt.init with expect := 1 }, 0, dataFrame, (1, .dataFrameReceive 0 dataFrame), by decide +kernel⟩

theorem test_meets_LinkReceives_3 : ∃ (s : State) (k : Nat) (f : List Byte) (e : Nat × Instr), (k < 8) ∧ (s.linkUp k = true) ∧ ((s.link k).retrain = false) ∧ (frameOk f = true) ∧ ((s.link k).expect < 4096) ∧ (e ∈ [(1, Instr.dataFrameReceive k f), (2, .returnFrameReceive k f), (5, .mgmtFrameReceive k f)]) ∧ ((frameHdr f).ftype = e.1) ∧ ((((frameHdr f).seq + 4096 - (s.link k).expect) % 4096) ≠ 0) ∧ ((((frameHdr f).seq + 4096 - (s.link k).expect) % 4096) < 2048) ∧ ((s.link k).nakAt = none) :=
  ⟨linked [] { LinkInt.init with expect := 4095 }, 0, dataFrame, (1, .dataFrameReceive 0 dataFrame), by decide +kernel⟩

theorem test_meets_LinkReceives_4 : ∃ (s : State) (k : Nat) (f : List Byte) (i : Instr), (k < 8) ∧ (s.linkUp k = true) ∧ ((s.link k).retrain = false) ∧ (frameOk f = false) ∧ (i ∈ [Instr.dataFrameReceive k f, .returnFrameReceive k f, .idleFrameReceive k f, .nakFrameReceive k f, .mgmtFrameReceive k f]) :=
  ⟨linked [] .init, 0, [0], .nakFrameReceive 0 [0], by decide +kernel⟩

theorem test_meets_LinkReceives_5 : ∃ (s : State) (k : Nat) (tag : Nat) (r : RetPt) (f : List Byte), (k < 8) ∧ (s.linkUp k = true) ∧ ((s.link k).retrain = false) ∧ (frameOk f = true) ∧ ((frameHdr f).ftype = 2) ∧ ((frameHdr f).seq = (s.link k).expect) ∧ ((frameHdr f).ret = none) ∧ (slotTags (leNat (f.drop 16)) = [tag]) ∧ ((s.link k).table.find? (fun e => e.1 == tag) = some (tag, r)) ∧ (r.kind ≠ 3) ∧ ((s.link k).coming = []) :=
  ⟨linked [] { LinkInt.init with table := [(3, ⟨0, 7, 0⟩)] }, 0, 3, ⟨0, 7, 0⟩, frame 2 0 0 1 (leBytes 16 0x1003), by decide +kernel⟩

theorem test_meets_LinkReceives_6 : ∃ (s : State) (k : Nat) (m : Nat) (f : List Byte), (k < 8) ∧ (s.linkUp k = true) ∧ ((s.link k).retrain = false) ∧ (frameOk f = true) ∧ ((s.link k).seq < 4096) ∧ ((s.link k).unacked.length < 2048) ∧ (0 < m) ∧ (m < (s.link k).unacked.length) ∧ ((s.link k).coming = []) ∧ (((frameHdr f).ack + 1 + ((s.link k).unacked.length - m)) % 4096 = (s.link k).seq) ∧ ((frameHdr f).ftype = 3) :=
  ⟨linked [] { LinkInt.init with seq := 0, unacked := [dataFrame, dataFrame] }, 0, 1, frame 3 0 4094 0 [], by decide +kernel⟩

theorem test_meets_LinkReceives_7 : ∃ (s : State) (k : Nat) (m : Nat) (f : List Byte), (k < 8) ∧ (s.linkUp k = true) ∧ ((s.link k).retrain = false) ∧ (frameOk f = true) ∧ ((s.link k).seq < 4096) ∧ ((s.link k).unacked.length < 2048) ∧ (0 < m) ∧ (m < (s.link k).unacked.length) ∧ ((s.link k).coming = []) ∧ (((frameHdr f).ack + 1 + ((s.link k).unacked.length - m)) % 4096 = (s.link k).seq) ∧ ((frameHdr f).ftype = 4) :=
  ⟨linked [] { LinkInt.init with seq := 0, unacked := [dataFrame, dataFrame] }, 0, 1, frame 4 0 4094 0 [], by decide +kernel⟩

theorem test_meets_LinkReceives_8 : ∃ (s : State) (k : Nat) (f : List Byte), (k < 8) ∧ (s.linkUp k = true) ∧ ((s.link k).retrain = false) ∧ (frameOk f = true) ∧ ((frameHdr f).ftype = 5) ∧ ((frameHdr f).seq = (s.link k).expect) :=
  ⟨linked [] .init, 0, frame 5 0 0 1 (zeros 16), by decide +kernel⟩

theorem test_meets_LinkReceives_9 : ∃ (s : State) (k : Nat) (serial : Nat) (a : Nat) (b : Nat) (pl : Nat), (k < 8) ∧ (pl < 8) :=
  ⟨linked [] .init, 0, 5, 0, 0, 7, by decide +kernel⟩

theorem test_meets_LinkSends_1 : ∃ (s : State) (k : Nat), (k < 8) ∧ (s.linkUp k = true) ∧ ((s.link k).retrain = false) ∧ (0 < (s.link k).resend) ∧ ((s.link k).resend ≤ (s.link k).unacked.length) :=
  ⟨linked [] { LinkInt.init with resend := 1, unacked := [dataFrame, dataFrame] }, 0, by decide +kernel⟩

theorem test_meets_LinkSends_2 : ∃ (s : State) (k : Nat), (k < 8) ∧ (s.linkUp k = true) ∧ ((s.link k).retrain = false) ∧ ((s.link k).resend = 0) ∧ (2047 ≤ (s.link k).unacked.length) :=
  ⟨linked [] { LinkInt.init with unacked := List.replicate 2047 [] }, 0, by decide +kernel⟩

theorem test_meets_LinkSends_3 : ∃ (s : State) (k : Nat) (m : List Byte) (rest : List (List Byte)), (k < 8) ∧ (s.linkUp k = true) ∧ ((s.link k).retrain = false) ∧ ((s.link k).resend = 0) ∧ ((s.link k).unacked.length < 2047) ∧ ((s.link k).mgmt = m :: rest) ∧ ((s.link k).seq < 4096) :=
  ⟨linked [] { LinkInt.init with seq := 4095, mgmt := [zeros 16] }, 0, zeros 16, [], by decide +kernel⟩

theorem test_meets_LinkSends_4 : ∃ (s : State) (k : Nat) (v : Nat) (p : Packet), (k < 8) ∧ (s.linkUp k = true) ∧ ((s.link k).retrain = false) ∧ (v < 6) ∧ ((s.link k).resend = 0) ∧ ((s.link k).unacked.length < 2047) ∧ ((s.link k).mgmt = []) ∧ ((s.link k).going = []) ∧ ((s.link k).seq < 4096) ∧ ((∀ u, u < v → s.inboxHead (1064 + k) u = none)) ∧ (mapGet [] (s.port (1064 + k)).inbox v = [p]) ∧ (p.good = true) ∧ (p.cls < 4) ∧ (p.data = []) ∧ ((s.link k).table.length < 2048) ∧ (mapGet 0 (s.link k).used v < 256) :=
  ⟨inbox (linked [] .init) 1064 3 (pk 0 5 0 1 []), 0, 3, pk 0 5 0 1 [], by decide +kernel⟩

theorem test_meets_LinkSends_5 : ∃ (s : State) (k : Nat), (k < 8) ∧ (s.linkUp k = true) ∧ ((s.link k).retrain = false) ∧ (s.linkIdle k = true) :=
  ⟨linked [] .init, 0, by decide +kernel⟩

theorem test_meets_LinkSends_6 : ∃ (s : State) (k : Nat), (k < 8) ∧ (s.linkUp k = true) ∧ ((s.link k).retrain = false) ∧ ((s.link k).unacked ≠ []) ∧ ((s.link k).spins < 16) :=
  ⟨linked [] { LinkInt.init with unacked := [dataFrame], spins := 15 }, 0, by decide +kernel⟩

theorem test_meets_LinkSends_7 : ∃ (s : State) (k : Nat), (k < 8) ∧ (s.linkUp k = true) ∧ ((s.link k).retrain = false) ∧ ((s.link k).unacked ≠ []) ∧ (16 ≤ (s.link k).spins) ∧ ((s.link k).turns < 3) :=
  ⟨linked [] { LinkInt.init with unacked := [dataFrame], spins := 16 }, 0, by decide +kernel⟩

theorem test_meets_LinkTraining_1 : ∃ (s : State) (k : Nat) (m : Nat), (k < 8) ∧ (m < 16) ∧ (s.linkState k = 1) ∧ (s.domOn (167 + k) = true) :=
  ⟨linked [(Reg.SPL_LSTAT 0, 0x20000000)] .init, 0, 7, by decide +kernel⟩

theorem test_meets_LinkTraining_2 : ∃ (s : State) (k : Nat), (k < 8) ∧ (s.linkState k = 4) ∧ (s.bit Reg.SPL_SYSCFG 31 = true) ∧ (s.bit (Reg.SPL_LCTRL k) 31 = true) ∧ (s.domOn (167 + k) = true) ∧ (s.rf Reg.SPL_SYSSTAT 31 29 ≠ 4) :=
  ⟨linked [(Reg.SPL_LSTAT 0, 0x80000000), (Reg.SPL_LCTRL 0, 0x80000000)] .init, 0, by decide +kernel⟩

theorem test_meets_LinkTraining_3 : ∃ (s : State) (k : Nat), (k < 8) ∧ (s.accKind .pcie true (Reg.SPL_LCTRL k) = none) ∧ (s.rf Reg.SEC_STAT 31 30 = 1) ∧ (s.bit (Reg.SPL_LCTRL k) 31 = false) ∧ (s.linkState k = 5) ∧ (s.bit Reg.SPL_SYSCFG 31 = true) ∧ (s.domOn (167 + k) = true) ∧ (s.rf Reg.SPL_SYSSTAT 31 29 ≠ 4) :=
  ⟨linked [(Reg.SPL_LSTAT 0, 0xA0000000), (Reg.SPL_LCTRL 0, 0)] .init, 0, by decide +kernel⟩

theorem test_meets_LinkTraining_4 : ∃ (s : State) (src : Src) (k : Nat) (l : Nat), (k < 8) ∧ (l < 4) ∧ (s.linkUp k = true) ∧ ((s.link k).retrain = false) ∧ (s.rf (Reg.SPL_LSTAT k) 28 25 = 15) :=
  ⟨linked [] .init, .pcie, 0, 3, by decide +kernel⟩

theorem test_meets_LinkTraining_5 : ∃ (s : State) (src : Src) (k : Nat) (l : Nat), (k < 8) ∧ (l < 4) ∧ (s.linkUp k = true) ∧ ((s.link k).retrain = false) ∧ (s.accKind src true (Reg.SPL_LCTRL k) = none) :=
  ⟨linked [] .init, .pcie, 0, 3, by decide +kernel⟩

theorem test_meets_LinkTraining_6 : ∃ (s : State) (k : Nat) (m : Nat), (k < 8) ∧ (m < 16) ∧ (s.linkUp k = true) ∧ ((s.link k).retrain = true) ∧ (s.bit (Reg.SPL_LCTRL k) 30 = true) ∧ (laneCount m = 4) ∧ ((s.link k).unacked ≠ []) ∧ ((s.link k).spins < 16) :=
  ⟨linked [(Reg.SPL_LCTRL 0, 0xC0000000)] { LinkInt.init with retrain := true, unacked := [dataFrame] }, 0, 15, by decide +kernel⟩

theorem test_meets_LinkTraining_7 : ∃ (s : State) (k : Nat), (k < 8) ∧ (s.linkUp k = true) :=
  ⟨linked [] { LinkInt.init with unacked := [dataFrame], table := [(0, ⟨0, 7, 0⟩)] }, 0, by decide +kernel⟩

theorem test_meets_DeviceNumbers_1 : ∃ (ms : List Member) (e : Nat × Nat), (ms.length ≤ 16) ∧ ((ms.map Member.serial).Pairwise (· < ·)) ∧ ((∀ m ∈ ms, m.prefid < 16)) ∧ (e ∈ (assignNumbers ms)) :=
  ⟨[⟨5, 1, 3, []⟩, ⟨7, 1, 3, []⟩, ⟨9, 0, 0, []⟩], (5, 3), by decide +kernel⟩

theorem test_meets_DeviceNumbers_2 : ∃ (ms : List Member) (m : Member), (ms.length ≤ 16) ∧ ((ms.map Member.serial).Pairwise (· < ·)) ∧ ((∀ m ∈ ms, m.prefid < 16)) ∧ (m ∈ ms) ∧ ((fun m => m.prefv = 1 ∧ ∀ x ∈ ms, x.prefv = 1 → x.prefid = m.prefid → m.serial ≤ x.serial : Member → Prop) m) :=
  ⟨[⟨5, 1, 3, []⟩, ⟨7, 1, 3, []⟩, ⟨9, 0, 0, []⟩], ⟨5, 1, 3, []⟩, by decide +kernel⟩

theorem test_meets_DeviceNumbers_3 : ∃ (ms : List Member) (m : Member) (n : Nat) (k : Nat), (ms.length ≤ 16) ∧ ((ms.map Member.serial).Pairwise (· < ·)) ∧ ((∀ m ∈ ms, m.prefid < 16)) ∧ (m ∈ ms) ∧ (¬ (fun m => m.prefv = 1 ∧ ∀ x ∈ ms, x.prefv = 1 → x.prefid = m.prefid → m.serial ≤ x.serial : Member → Prop) m) ∧ ((m.serial, n) ∈ (assignNumbers ms)) ∧ (k < n) :=
  ⟨[⟨5, 1, 3, []⟩, ⟨7, 1, 3, []⟩, ⟨9, 0, 0, []⟩], ⟨9, 0, 0, []⟩, 1, 0, by decide +kernel⟩

theorem test_meets_DeviceNumbers_4 : ∃ (l : List Member) (k : List Member), (l.Perm k) ∧ ((l.map Member.serial).Nodup) :=
  ⟨[⟨5, 1, 3, []⟩, ⟨7, 1, 3, []⟩], [⟨7, 1, 3, []⟩, ⟨5, 1, 3, []⟩], by decide +kernel⟩

theorem test_meets_SystemOfDevices_1 : ∃ (s : State), (s.rf Reg.SPL_SYSSTAT 31 29 = 2) ∧ (s.spr.members = []) ∧ (s.spr.owner = none) ∧ (s.bit Reg.SPL_SYSCFG 30 = false) ∧ (s.ndev = 1) :=
  ⟨inst [(Reg.SPL_SYSSTAT, 0x40000000), (Reg.SPL_SYSCFG, 0x80001000)], by decide +kernel⟩

theorem test_meets_SystemOfDevices_2 : ∃ (s : State) (x : Int), (s.rf Reg.SPL_SYSSTAT 31 29 = 3) ∧ (s.dev ≠ 0) ∧ ((s.devLink 0).isSome = true) ∧ (s.smcHalted = false) :=
  ⟨linked [(Reg.SPL_SYSSTAT, 0x62100003), (Reg.SPL_DEVRT 0, 8)] .init, -7, by decide +kernel⟩

theorem test_meets_SystemOfDevices_3 : ∃ (s : State) (p : Packet) (ns : List Nat), (s.smcHead = some (p, ns)) ∧ (s.notFirst = true) ∧ (p.srcDev = 0) ∧ (s.smcHalted = false) :=
  ⟨inbox (regs [(Reg.SPL_SYSSTAT, 0x62100003)]) 1060 3 { pk 4 0 0 0 [] with sysSrc := true, srcLcn := 1 }, { pk 4 0 0 0 [] with sysSrc := true, srcLcn := 1 }, [], by decide +kernel⟩

theorem test_meets_SystemOfDevices_4 : ∃ (s : State) (p : Packet) (ch : Change), (s.headOf 1060 3 4 = some p) ∧ (s.notFirst = true) ∧ (p.srcDev = 0) ∧ (s.smcHalted = false) ∧ (ch.c < 2 ^ 32) :=
  ⟨inbox (regs [(Reg.SPL_SYSSTAT, 0x62100003)]) 1060 3 (pk 4 0 0 0 []), pk 4 0 0 0 [], ⟨[.start], 9, 1⟩, by decide +kernel⟩

theorem test_meets_SystemOfDevices_5 : ∃ (s : State) (n : Nat), (s.accKind .pcie true Reg.SPL_LRNCLR = none) ∧ (s.rf Reg.SEC_STAT 31 30 = 1) ∧ (n < 256) :=
  ⟨inst [], 255, by decide +kernel⟩

theorem test_meets_VernierStartAndFaults_1 : ∃ (s : State), (s.vrn.live = false) :=
  ⟨.reset, by decide +kernel⟩

theorem test_meets_VernierStartAndFaults_2 : ∃ (s : State) (k : Nat) (c : Commit), (s.vstate = 1) ∧ (s.inForce = some (k, c)) ∧ (s.vfwOk c.fwSlot = false) :=
  ⟨vern [(Reg.VRN_STAT, 0x20000000)] ⟨0, 0, 1, 0, 0, 0⟩, 0, ⟨0, 0, 1, 0, 0, 0⟩, by decide +kernel⟩

theorem test_meets_VernierStartAndFaults_3 : ∃ (s : State) (k : Nat) (c : Commit), (s.vstate = 1) ∧ (s.inForce = some (k, c)) ∧ (s.vfwOk c.fwSlot = true) ∧ (s.vparOk c.parSlot = false) :=
  ⟨vern [(Reg.VRN_STAT, 0x20000000)] ⟨0, 0, 0, 1, 0, 0⟩, 0, ⟨0, 0, 0, 1, 0, 0⟩, by decide +kernel⟩

theorem test_meets_VernierStartAndFaults_4 : ∃ (s : State) (k : Nat) (c : Commit), (s.vstate = 1) ∧ (s.inForce = some (k, c)) ∧ (s.vfwOk c.fwSlot = true) ∧ (s.vparOk c.parSlot = true) :=
  ⟨vern [(Reg.VRN_STAT, 0x20000000)] commit0, 0, commit0, by decide +kernel, by decide +kernel, by decide +kernel, parGood _ (by decide +kernel) (by decide +kernel) (by decide +kernel) (by decide +kernel)⟩

theorem test_meets_VernierStartAndFaults_5 : ∃ (s : State), (s.vstate = 1) ∧ (s.inForce = none) :=
  ⟨regs [(Reg.VRN_STAT, 0x20000000)], by decide +kernel⟩

theorem test_meets_VernierStartAndFaults_6 : ∃ (s : State), ((s.vstate = 1 ∨ s.vstate = 2 ∨ s.vstate = 3)) ∧ (2 ≤ (s.vrn.slips.filter (fun t => decide (s.vrn.ns < t + 1000000000))).length) :=
  ⟨{ regs [(Reg.VRN_STAT, 0x40000000)] with vrn := { VrnInt.init with ns := 1000000005, slips := [6, 7] } }, by decide +kernel⟩

theorem test_meets_VernierStartAndFaults_7 : ∃ (s : State) (k : Nat) (c : Commit), ((s.vstate = 1 ∨ s.vstate = 2 ∨ s.vstate = 3)) ∧ ((s.vrn.slips.filter (fun t => decide (s.vrn.ns < t + 1000000000))).length < 2) ∧ (s.inForce = some (k, c)) ∧ (k < 2) ∧ (c.lockCnt + 1 < 2 ^ 32) :=
  ⟨{ vern [(Reg.VRN_STAT, 0x40000000)] commit0 with vrn := { VrnInt.init with ns := 1000000007, slips := [6, 7] } }, 0, commit0, by decide +kernel⟩

theorem test_meets_VernierStartAndFaults_8 : ∃ (s : State) (closed : Bool), (s.vrn.live = true) ∧ (s.sealLow = closed) :=
  ⟨vern [(Reg.VRN_STAT, 0x50000000)] commit0, true, by decide +kernel⟩

theorem test_meets_VernierMeasures_1 : ∃ (s : State) (n : Nat), (s.vrn.live = true) ∧ (n < 8) :=
  ⟨vern [] commit0, 7, by decide +kernel⟩

theorem test_meets_VernierMeasures_2 : ∃ (s : State), (s.vstate = 2) ∧ (s.vrn.start = none) :=
  ⟨vern [(Reg.VRN_STAT, 0x40000000)] commit0, by decide +kernel⟩

theorem test_meets_VernierMeasures_3 : ∃ (s : State) (x : Nat × Nat × Nat), (s.vstate = 2) ∧ (s.vrn.start = some x) ∧ (s.vrn.sum = none) ∧ (s.vrn.lost = false) ∧ (s.par s.parSlot 74 2 ≤ s.vrn.lines.length) :=
  ⟨{ vern [(Reg.VRN_STAT, 0x40000000)] commit0 with vrn := { VrnInt.init with start := some (1, 2, 3), lines := List.replicate 5 [9, 7] } }, (1, 2, 3), by decide +kernel⟩

theorem test_meets_VernierMeasures_4 : ∃ (s : State) (x : Nat × Nat × Nat), (s.vstate = 2) ∧ (s.vrn.start = some x) ∧ (s.vrn.sum.isSome = true ∨ s.vrn.lost = true ∨ s.vrn.lines.length < s.par s.parSlot 74 2) :=
  ⟨{ vern [(Reg.VRN_STAT, 0x40000000)] commit0 with vrn := { VrnInt.init with start := some (1, 2, 3) } }, (1, 2, 3), by decide +kernel⟩

theorem test_meets_VernierMeasures_5 : ∃ (s : State) (v : VSum), (s.vrn.sum = some v) ∧ (s.vstate = 2) ∧ (s.vrn.obj = none) :=
  ⟨{ vern [(Reg.VRN_STAT, 0x40000000)] commit0 with vrn := { VrnInt.init with sum := some ⟨1, 0, none, none, some 5, 0, 9, 0, 1⟩ } }, ⟨1, 0, none, none, some 5, 0, 9, 0, 1⟩, by decide +kernel⟩

theorem test_meets_VernierMeasures_6 : ∃ (s : State) (v : VSum) (o : VObj), (s.vrn.sum = some v) ∧ (s.vstate = 2) ∧ (s.vrn.obj = some o) ∧ (0 ≤ s.parS s.parSlot 84) ∧ ((s.par s.parSlot 98 2 : Int) * 100000 ≤ travel o.last v.sel * s.parS s.parSlot 84) :=
  ⟨{ vern [(Reg.VRN_STAT, 0x40000000)] commit0 with vrn := { VrnInt.init with sum := some ⟨1, 0, none, none, some 5, 0, 9, 0, 1⟩, obj := some ⟨1, 8, 8, 0, 0, none, none, some 5, false, false, false, false, true⟩ } }, ⟨1, 0, none, none, some 5, 0, 9, 0, 1⟩, ⟨1, 8, 8, 0, 0, none, none, some 5, false, false, false, false, true⟩, by decide +kernel⟩

theorem test_meets_VernierMeasures_7 : ∃ (s : State) (v : VSum) (o : VObj), (s.vrn.sum = some v) ∧ (s.vstate = 2) ∧ (s.vrn.obj = some o) ∧ (0 ≤ s.parS s.parSlot 84) ∧ (travel o.last v.sel * s.parS s.parSlot 84 < (s.par s.parSlot 98 2 : Int) * 100000) ∧ (0 < v.pts) :=
  ⟨{ vern [(Reg.VRN_STAT, 0x40000000)] commit0 with vrn := { VrnInt.init with sum := some ⟨1, 0, none, none, some 5, 0, 9, 0, 1⟩, obj := some ⟨1, 9, 8, 0, 0, none, none, some 5, false, false, false, false, true⟩ } }, ⟨1, 0, none, none, some 5, 0, 9, 0, 1⟩, ⟨1, 9, 8, 0, 0, none, none, some 5, false, false, false, false, true⟩, by decide +kernel⟩

theorem test_meets_VernierMeasures_8 : ∃ (s : State) (r : List Byte) (rest : List (List Byte)), (s.vstate = 2) ∧ (s.vrn.out = r :: rest) ∧ (r.length = 60) ∧ (s.vrn.seq + 1 < 2 ^ 32) :=
  ⟨{ vern [(Reg.VRN_STAT, 0x40000000)] commit0 with vrn := { VrnInt.init with out := [zeros 60] } }, zeros 60, [], by decide +kernel⟩

theorem test_meets_ObjectRecordsAreLegal_1 : ∃ (s : State) (o : VObj), (o.input = true) :=
  ⟨.reset, ⟨1, 9, 8, 0, 0, none, none, some 5, true, true, false, false, true⟩, by decide +kernel⟩

theorem test_meets_ObjectRecordsAreLegal_2 : ∃ (s : State) (o : VObj), (o.input = false) ∧ (o.speed = true) :=
  ⟨.reset, ⟨1, 9, 8, 0, 0, none, none, some 5, false, true, false, false, true⟩, by decide +kernel⟩

theorem test_meets_ObjectRecordsAreLegal_3 : ∃ (s : State) (o : VObj) (i : Nat), (leNat ((s.objectRecord o).take 1) = 1) ∧ (1 ≤ s.par s.parSlot 96 2) ∧ (i < 3) :=
  ⟨vern [] commit0, ⟨8, 8, 8, 0, 0, none, none, none, false, false, false, false, true⟩, 2, by decide +kernel⟩

theorem test_meets_IndicatorPort_1 : ∃ (s : State) (addr : Nat) (len : Nat) (hits : List Nat), (s.vrn.live = true) ∧ ((∃ w ∈ hits, 4 * w < len)) :=
  ⟨vern [] commit0, 0x1FF4, 9, [2, 3], by decide +kernel⟩

theorem test_meets_IndicatorPort_2 : ∃ (s : State) (cmd : Nat) (len : Nat), (s.vrn.live = true) ∧ (cmd ≠ 3) ∧ (cmd ≠ 5) :=
  ⟨vern [] commit0, 255, 2, by decide +kernel⟩

theorem test_meets_MakerCommands_1 : ∃ (s : State) (k : Nat) (n : Nat) (c : Commit), (s.makerOk .pcie = true) ∧ (s.bit Reg.VRN_UPDSTAT 31 = false) ∧ (s.bit Reg.VRN_STAT 27 = true) ∧ (s.sealLow = true) ∧ (s.vstate = 2) ∧ (s.inForce = some (k, c)) ∧ (k < 2) ∧ (c.fwSlot < 2) ∧ (c.parSlot < 2) ∧ (c.audUsed < 1024) ∧ (c.events + 1 < 2 ^ 32) ∧ (c.gen + 1 < 2 ^ 32) ∧ (s.vrn.obj = none) ∧ (s.vrn.out = []) ∧ (n < 96) :=
  ⟨maker [], 0, 95, ⟨0, 0, 1, 1, 0, 0⟩, by decide +kernel⟩

theorem test_meets_MakerCommands_2 : ∃ (s : State) (k : Nat) (n : Nat) (c : Commit), (s.makerOk .pcie = true) ∧ (s.bit Reg.VRN_UPDSTAT 31 = false) ∧ (s.bit Reg.VRN_STAT 27 = true) ∧ (s.sealLow = true) ∧ (s.vstate = 2) ∧ (s.inForce = some (k, c)) ∧ (k < 2) ∧ (c.fwSlot < 2) ∧ (c.parSlot < 2) ∧ (c.audUsed < 1024) ∧ (c.events + 1 < 2 ^ 32) ∧ (c.gen + 1 < 2 ^ 32) ∧ (s.vrn.obj = none) ∧ (s.vrn.out = []) ∧ (n < 32) :=
  ⟨maker [], 0, 31, ⟨0, 0, 1, 1, 0, 0⟩, by decide +kernel⟩

theorem test_meets_MakerCommands_3 : ∃ (s : State) (k : Nat) (n : Nat) (c : Commit), (s.makerOk .pcie = true) ∧ (s.bit Reg.VRN_UPDSTAT 31 = false) ∧ (s.bit Reg.VRN_STAT 27 = true) ∧ (s.sealLow = true) ∧ (s.vstate = 2) ∧ (s.inForce = some (k, c)) ∧ (k < 2) ∧ (c.fwSlot < 2) ∧ (c.parSlot < 2) ∧ (c.audUsed < 1024) ∧ (c.events + 1 < 2 ^ 32) ∧ (c.gen + 1 < 2 ^ 32) ∧ (s.vrn.obj = none) ∧ (s.vrn.out = []) ∧ (s.vfwOk (1 - c.fwSlot) = true) :=
  ⟨maker [], 0, 0, ⟨0, 0, 1, 1, 0, 0⟩, by decide +kernel⟩

theorem test_meets_MakerCommands_4 : ∃ (s : State) (k : Nat) (n : Nat) (c : Commit), (s.makerOk .pcie = true) ∧ (s.bit Reg.VRN_UPDSTAT 31 = false) ∧ (s.bit Reg.VRN_STAT 27 = true) ∧ (s.sealLow = true) ∧ (s.vstate = 2) ∧ (s.inForce = some (k, c)) ∧ (k < 2) ∧ (c.fwSlot < 2) ∧ (c.parSlot < 2) ∧ (c.audUsed < 1024) ∧ (c.events + 1 < 2 ^ 32) ∧ (c.gen + 1 < 2 ^ 32) ∧ (s.vrn.obj = none) ∧ (s.vrn.out = []) ∧ (s.vparOk (1 - c.parSlot) = true) :=
  ⟨maker [], 0, 0, ⟨0, 0, 1, 1, 0, 0⟩, by decide +kernel, by decide +kernel, by decide +kernel, by decide +kernel, by decide +kernel, by decide +kernel, by decide +kernel, by decide +kernel, by decide +kernel, by decide +kernel, by decide +kernel, by decide +kernel, by decide +kernel, by decide +kernel, parGood _ (by decide +kernel) (by decide +kernel) (by decide +kernel) (by decide +kernel)⟩

theorem test_meets_MakerCommands_5 : ∃ (s : State) (k : Nat) (n : Nat) (c : Commit), (s.makerOk .pcie = true) ∧ (s.bit Reg.VRN_UPDSTAT 31 = false) ∧ (s.bit Reg.VRN_STAT 27 = true) ∧ (s.sealLow = true) ∧ (s.vstate = 2) ∧ (s.inForce = some (k, c)) ∧ (k < 2) ∧ (c.fwSlot < 2) ∧ (c.parSlot < 2) ∧ (c.audUsed < 1024) ∧ (c.events + 1 < 2 ^ 32) ∧ (c.gen + 1 < 2 ^ 32) ∧ (s.vrn.obj = none) ∧ (s.vrn.out = []) ∧ (s.bytes updBuffer 32 = sha256 (s.bytes (sealed + 0x140000) (64 * c.audUsed))) :=
  ⟨(maker []).store updBuffer (sha256 []), 0, 0, ⟨0, 0, 1, 1, 0, 0⟩, by decide +kernel⟩

theorem test_meets_MakerCommands_6 : ∃ (s : State) (n : Nat) (i : Instr), (s.makerOk .pcie = true) ∧ (s.bit Reg.VRN_UPDSTAT 31 = false) ∧ ((s.bit Reg.VRN_STAT 27 = false ∨ s.sealLow = false)) ∧ (i ∈ [Instr.fwChunk .pcie n, .vrnFwActivate .pcie, .parChunk .pcie n, .parCommit .pcie, .archive .pcie, .abortStaged .pcie]) :=
  ⟨maker [(Reg.VRN_STAT, 0x40000000)], 0, .parChunk .pcie 0, by decide +kernel⟩

theorem test_meets_SessionCommands_1 : ∃ (s : State) (role : Nat) (slot : Nat), (SecReady s) ∧ (s.bit Reg.SEC_STAT 25 = false) ∧ (((role = 1 ∧ slot ≤ 3) ∨ (role = 2 ∧ slot ≤ 1))) :=
  ⟨inst [], 1, 3, by delta SecReady; decide +kernel⟩

theorem test_meets_SessionCommands_2 : ∃ (s : State) (role : Nat) (slot : Nat), (SecReady s) ∧ (s.bit Reg.SEC_STAT 25 = true) :=
  ⟨inst [(Reg.SEC_STAT, 0x02000000)], 1, 3, by delta SecReady; decide +kernel⟩

theorem test_meets_SessionCommands_3 : ∃ (s : State) (role : Nat) (slot : Nat) (t0 : Nat), (SecReady s) ∧ (s.sec.nonce = some (role, slot, t0)) ∧ (s.time - t0 ≤ 10000000000) ∧ (s.slotState (keySlot role slot) = 1) ∧ (beNat (sha256 (s.respBytes 0 64)) = mapGet 0 s.sec.hashes (keySlot role slot)) ∧ ((role = 1 ∧ slot ≤ 3 ∨ role = 2 ∧ slot ≤ 1 ∧ s.bit Reg.SEC_STAT 26 = true)) ∧ ((ecdsaOk (s.respBytes 0 64) (sha256 (s.challengeBlock role slot)) (s.respBytes 64 64)) = true) :=
  ⟨challenged [], 1, 0, 0, by delta SecReady; decide +kernel⟩

theorem test_meets_SessionCommands_4 : ∃ (s : State) (role : Nat) (slot : Nat) (t0 : Nat), (SecReady s) ∧ (s.sec.nonce = some (role, slot, t0)) ∧ (s.time - t0 ≤ 10000000000) ∧ (s.slotState (keySlot role slot) = 1) ∧ (beNat (sha256 (s.respBytes 0 64)) = mapGet 0 s.sec.hashes (keySlot role slot)) ∧ ((role = 1 ∧ slot ≤ 3 ∨ role = 2 ∧ slot ≤ 1 ∧ s.bit Reg.SEC_STAT 26 = true)) ∧ ((ecdsaOk (s.respBytes 0 64) (sha256 (s.challengeBlock role slot)) (s.respBytes 64 64)) = false) ∧ (s.sec.fails < 4) :=
  ⟨challenged [(Reg.SEC_RESP 31, 5)], 1, 0, 0, by delta SecReady; decide +kernel⟩

theorem test_meets_SessionCommands_5 : ∃ (s : State), (SecReady s) ∧ (s.sec.nonce = none) ∧ (s.sec.fails = 4) :=
  ⟨{ inst [] with sec := { SecInt.init with fails := 4 } }, by delta SecReady; decide +kernel⟩

theorem test_meets_SessionCommands_6 : ∃ (s : State), (s.rf Reg.SEC_STAT 31 30 ≠ 0) ∧ (SecReady s) :=
  ⟨inst [], by delta SecReady; decide +kernel⟩

theorem test_meets_SessionCommands_7 : ∃ (s : State) (closed : Bool), (s.bit Reg.SEC_STAT 26 = closed) :=
  ⟨inst [(Reg.SEC_STAT, 0x84000000)], true, by decide +kernel⟩

theorem test_meets_KeySlotCommands_1 : ∃ (s : State) (role : Nat) (slot : Nat), (SecReady s) ∧ (s.rf Reg.SEC_STAT 31 30 = 2) ∧ (((role = 1 ∧ slot ≤ 3) ∨ (role = 2 ∧ slot = 1))) ∧ (s.slotState (keySlot role slot) = 0) :=
  ⟨inst [(Reg.SEC_STAT, 0x84000000), (Reg.SEC_OTP, 0x100)], 2, 1, by delta SecReady; decide +kernel⟩

theorem test_meets_KeySlotCommands_2 : ∃ (s : State) (role : Nat) (slot : Nat), (SecReady s) ∧ (s.rf Reg.SEC_STAT 31 30 = 2) ∧ (((role = 1 ∧ slot ≤ 3) ∨ (role = 2 ∧ slot ≤ 1))) ∧ (¬ (role = 2 ∧ slot = s.rf Reg.SEC_STAT 29 27)) :=
  ⟨inst [(Reg.SEC_STAT, 0x84000000), (Reg.SEC_OTP, 0x100)], 1, 3, by delta SecReady; decide +kernel⟩

theorem test_meets_KeySlotCommands_3 : ∃ (s : State), (SecReady s) ∧ (s.bit Reg.SEC_STAT 24 = true) ∧ (s.bit Reg.SEC_STAT 26 = true) :=
  ⟨inst [(Reg.SEC_STAT, 0x05000000)], by delta SecReady; decide +kernel⟩

theorem test_meets_KeySlotCommands_4 : ∃ (s : State) (role : Nat) (slot : Nat) (i : Instr), (SecReady s) ∧ (s.rf Reg.SEC_STAT 31 30 ≠ 2) ∧ (i ∈ [Instr.progKey .pcie role slot, .revokeKey .pcie role slot]) :=
  ⟨inst [(Reg.SEC_STAT, 0x44000000)], 1, 3, .revokeKey .pcie 1 3, by delta SecReady; decide +kernel⟩

theorem test_meets_KeySlotCommands_5 : ∃ (s : State) (k : Nat) (h : Nat) (good : Bool), (k < 6) ∧ (s.sec.prog = some (k, h)) :=
  ⟨{ inst [] with sec := { SecInt.init with prog := some (4, 77) } }, 4, 77, true, by decide +kernel⟩

theorem test_meets_KeySlotCommands_6 : ∃ (s : State) (k : Nat), (k < 6) ∧ (s.sec.revoke = some k) :=
  ⟨{ inst [(Reg.SEC_OTP, 1), (Reg.SEC_STAT, 0x40000000)] with sec := { SecInt.init with revoke := some 0 } }, 0, by decide +kernel⟩

theorem test_meets_DevicePowerCommands_1 : ∃ (s : State), (s.accKind .pcie true Reg.PWR_DEVCMD = none) ∧ (s.rf Reg.SEC_STAT 31 30 = 1) ∧ (s.bit Reg.PWR_DEVSTAT 24 = false) ∧ (s.sleepBarred [0, 4, 5] = false) :=
  ⟨inst [], by decide +kernel⟩

theorem test_meets_DevicePowerCommands_2 : ∃ (s : State), (s.accKind .pcie true Reg.PWR_DEVCMD = none) ∧ (s.rf Reg.SEC_STAT 31 30 = 1) ∧ (s.bit Reg.PWR_DEVSTAT 24 = false) ∧ (s.sleepBarred [0, 5] = false) :=
  ⟨inst [], by decide +kernel⟩

theorem test_meets_DevicePowerCommands_3 : ∃ (s : State), (s.accKind .pcie true Reg.PWR_DEVCMD = none) ∧ (s.rf Reg.SEC_STAT 31 30 = 1) ∧ (s.bit Reg.PWR_DEVSTAT 24 = false) ∧ (s.rf Reg.PWR_DEVSTAT 31 30 = 1) :=
  ⟨inst [(Reg.PWR_DEVSTAT, 0x40000000)], by decide +kernel⟩

theorem test_meets_DevicePowerCommands_4 : ∃ (s : State) (i : Instr), (s.accKind .pcie true Reg.PWR_DEVCMD = none) ∧ (s.rf Reg.SEC_STAT 31 30 = 1) ∧ (s.bit Reg.PWR_DEVSTAT 24 = false) ∧ (s.rf Reg.SMC_RUNSTAT 31 29 = 2) ∧ (i ∈ [Instr.sleep .pcie, .deepState .pcie]) :=
  ⟨inst [(Reg.SMC_RUNSTAT, 0x40000000)], .sleep .pcie, by decide +kernel⟩

theorem test_meets_DevicePowerCommands_5 : ∃ (s : State) (prof : Nat) (arg : Nat), (s.accKind .pcie true Reg.PWR_DEVCMD = none) ∧ (s.rf Reg.SEC_STAT 31 30 = 1) ∧ (s.bit Reg.PWR_DEVSTAT 24 = false) ∧ (prof < s.nprof) ∧ (prof < 4) ∧ (arg < 65536) ∧ (s.rf Reg.PWR_DEVSTAT 31 30 = 0) ∧ (s.notFirst = false) ∧ (s.commitOpen = false) :=
  ⟨{ inst [] with runc := RunCtl.init }, 0, 65535, by decide +kernel⟩

theorem test_meets_DevicePowerCommands_6 : ∃ (s : State) (i : Instr), (s.accKind .pcie true Reg.PWR_DEVCMD = none) ∧ (s.rf Reg.SEC_STAT 31 30 = 0) ∧ (i ∈ [Instr.sleep .pcie, .deepState .pcie, .wake .pcie, .profile .pcie 0 0]) :=
  ⟨inst [(Reg.SEC_STAT, 0)], .profile .pcie 0 0, by decide +kernel⟩

theorem test_meets_DevicePowerCommands_7 : ∃ (s : State) (g : Nat), (g < 3) ∧ (s.pwr.goal = some g) ∧ (s.allReached = true) ∧ (s.pwr.wakeNext = false) :=
  ⟨{ State.reset with pwr := { PwrInt.init with goal := some 2 } }, 2, by decide +kernel⟩

theorem test_meets_DevicePowerCommands_8 : ∃ (s : State) (n : Nat), (n < 16) ∧ (s.pwr.goal = none) ∧ (s.rf Reg.PWR_DEVSTAT 31 30 = 1) ∧ (s.bit Reg.PWR_WAKECFG n = true) :=
  ⟨regs [(Reg.PWR_DEVSTAT, 0x40000000), (Reg.PWR_WAKECFG, 0x8000)], 15, by decide +kernel⟩

theorem test_meets_DevicePowerCommands_9 : ∃ (s : State) (n : Nat), (n < 16) ∧ (s.pwr.goal = none) ∧ (s.rf Reg.PWR_DEVSTAT 31 30 = 1) ∧ (s.bit Reg.PWR_WAKECFG n = false) :=
  ⟨regs [(Reg.PWR_DEVSTAT, 0x40000000), (Reg.PWR_WAKECFG, 0x7FFF)], 15, by decide +kernel⟩

theorem test_meets_DomainWakes_1 : ∃ (s : State) (d : Nat), (d < 176) ∧ (d ≠ 160) ∧ ((s.dom d).act = 1) ∧ ((s.dom d).emerg = false) ∧ (s.rf (Reg.PWR_DSTAT d) 27 26 < 3) :=
  ⟨withDom (regs [(Reg.PWR_DSTAT 175, 0x78000000)]) 175 ⟨1, 3, 0, false⟩, 175, by decide +kernel⟩

theorem test_meets_DomainWakes_2 : ∃ (s : State) (d : Nat), (d < 176) ∧ (d ≠ 160) ∧ ((s.dom d).act = 1) ∧ ((s.dom d).emerg = false) ∧ (s.rf (Reg.PWR_DSTAT d) 27 26 = 3) ∧ (s.bit (Reg.PWR_DSTAT d) 25 = false) ∧ (s.rf (Reg.PWR_DTARGET d) 31 30 = 0) :=
  ⟨withDom (regs [(Reg.PWR_DSTAT 175, 0x7C000000), (Reg.PWR_DTARGET 175, 0x10000000)]) 175 ⟨1, 3, 0, false⟩, 175, by decide +kernel⟩

theorem test_meets_DomainWakes_3 : ∃ (s : State) (d : Nat) (pos : Nat), (d < 176) ∧ (d ≠ 160) ∧ ((s.dom d).act = 1) ∧ ((s.dom d).emerg = false) ∧ ((s.dom d).tries = 0) :=
  ⟨withDom (regs [(Reg.PWR_DSTAT 0, 0x74000000)]) 0 ⟨1, 3, 0, false⟩, 0, 9, by decide +kernel⟩

theorem test_meets_DomainWakes_4 : ∃ (s : State) (d : Nat) (pos : Nat), (d < 176) ∧ (d ≠ 160) ∧ ((s.dom d).act = 1) ∧ ((s.dom d).emerg = false) ∧ ((s.dom d).tries ≠ 0) ∧ (128 ≤ d) ∧ (d < 144) :=
  ⟨withDom (regs [(Reg.PWR_DSTAT 143, 0x7C000000)]) 143 ⟨1, 3, 1, false⟩, 143, 9, by decide +kernel⟩

theorem test_meets_DomainWakes_5 : ∃ (s : State) (d : Nat), ((s.dom d).act = 8) ∧ ((s.dom d).emerg = false) :=
  ⟨withDom (regs [(Reg.PWR_DSTAT 143, 0x70000000)]) 143 ⟨8, 3, 1, false⟩, 143, by decide +kernel⟩

theorem test_meets_DomainTransitions_1 : ∃ (s : State) (d : Nat), (d < 176) ∧ (d ≠ 160) ∧ (s.domState d = 0) ∧ (s.domBusy d = false) ∧ (s.rf (Reg.PWR_DTARGET d) 31 30 = 0) ∧ (s.domIdle d = true) :=
  ⟨regs [(Reg.PWR_DSTAT 0, 0), (Reg.PWR_DTARGET 0, 0x10000000)], 0, by decide +kernel⟩

theorem test_meets_DomainTransitions_2 : ∃ (s : State) (d : Nat), (d < 176) ∧ (d ≠ 160) ∧ (s.domState d = 1) :=
  ⟨regs [(Reg.PWR_DSTAT 175, 0x20000000)], 175, by decide +kernel⟩

theorem test_meets_DomainTransitions_3 : ∃ (s : State) (d : Nat), (d < 176) ∧ (d ≠ 160) ∧ ((s.dom d).emerg = false) ∧ ((s.dom d).act = 4) :=
  ⟨withDom (regs [(Reg.PWR_DSTAT 175, 0x10000000)]) 175 ⟨4, 3, 0, false⟩, 175, by decide +kernel⟩

theorem test_meets_DomainTransitions_4 : ∃ (s : State) (d : Nat), (d < 176) ∧ (d ≠ 160) ∧ ((s.dom d).emerg = false) ∧ ((s.dom d).act = 6) :=
  ⟨withDom (regs [(Reg.PWR_DSTAT 175, 0x10000000), (Reg.PWR_DTARGET 175, 0x20000000)]) 175 ⟨6, 3, 0, false⟩, 175, by decide +kernel⟩

theorem test_meets_DomainTransitions_5 : ∃ (s : State) (d : Nat), (d < 176) ∧ (d ≠ 160) ∧ ((s.dom d).emerg = false) ∧ (s.bit (Reg.PWR_DSTAT d) 25 = false) ∧ (s.rf (Reg.PWR_DTARGET d) 31 30 = 0) ∧ ((s.dom d).act = 5) :=
  ⟨withDom (regs [(Reg.PWR_DSTAT 0, 0x10000000), (Reg.PWR_DTARGET 0, 0x10000000)]) 0 ⟨5, 3, 0, false⟩, 0, by decide +kernel⟩

theorem test_meets_DomainTransitions_6 : ∃ (s : State) (d : Nat), (d < 176) ∧ (d ≠ 160) ∧ ((s.dom d).emerg = false) ∧ (s.bit (Reg.PWR_DSTAT d) 25 = false) ∧ (s.rf (Reg.PWR_DTARGET d) 31 30 = 0) ∧ ((s.dom d).act = 7) :=
  ⟨withDom (regs [(Reg.PWR_DSTAT 0, 0x10000000), (Reg.PWR_DTARGET 0, 0x10000000)]) 0 ⟨7, 3, 0, false⟩, 0, by decide +kernel⟩

theorem test_meets_DomainTransitions_7 : ∃ (s : State) (d : Nat), (d < 128) ∧ ((s.dom d).emerg = false) ∧ (s.bit (Reg.PWR_DSTAT d) 25 = false) ∧ ((s.dom d).act = 2) :=
  ⟨withDom (regs [(Reg.PWR_DSTAT 127, 0x10000000)]) 127 ⟨2, 0, 0, false⟩, 127, by decide +kernel⟩

theorem test_meets_DomainTransitions_8 : ∃ (s : State) (d : Nat), (d < 128) ∧ ((s.dom d).emerg = false) ∧ (s.bit (Reg.PWR_DSTAT d) 25 = false) ∧ ((s.dom d).act = 3) :=
  ⟨withDom (regs [(Reg.PWR_DSTAT 127, 0x10000000)]) 127 ⟨3, 0, 0, false⟩, 127, by decide +kernel⟩

theorem test_meets_DomainTransitions_9 : ∃ (s : State) (d : Nat), (128 ≤ d) ∧ (d < 144) ∧ (s.domOn d = true) ∧ (s.bit Reg.PWR_DEVSTAT 29 = false) :=
  ⟨regs [(Reg.PWR_DSTAT 143, 0)], 143, by decide +kernel⟩

theorem test_meets_PowerManagement_1 : ∃ (s : State) (draw : Nat), (s.rf Reg.PWR_CEIL 31 24 = 0) :=
  ⟨{ regs [(Reg.PWR_CEIL, 0)] with pwr := { PwrInt.init with draws := List.replicate 20 90000 } }, 95000, by decide +kernel⟩

theorem test_meets_PowerManagement_2 : ∃ (s : State) (temps : List Int) (i : Nat) (tj : Int), (temps[i]? = some tj) ∧ (i < 32) ∧ ((∀ j x, temps[j]? = some x → x ≤ tj ∧ (j < i → x < tj))) :=
  ⟨.reset, [30, 115, 115], 1, 115, by decide, by decide, tempsMax⟩

theorem test_meets_PowerManagement_3 : ∃ (s : State) (status : Nat) (vout : Nat), (vout < 65536) ∧ (s.bit Reg.PWR_PMBCFG 31 = true) ∧ (s.domOn 161 = true) ∧ (s.smcHalted = false) :=
  ⟨inst [(Reg.PWR_PMBCFG, 0x80000000)], 4, 65535, by decide +kernel⟩

theorem test_meets_PowerManagement_4 : ∃ (s : State) (data : Nat), (s.accKind .pcie true Reg.PWR_CEIL = none) ∧ (s.rf Reg.SEC_STAT 31 30 = 1) ∧ (s.rf Reg.SMC_IMGSTAT 28 27 = 0) :=
  ⟨inst [], 0xFF03FFFF, by decide +kernel⟩

theorem test_meets_PowerManagement_5 : ∃ (s : State), (s.inReset = false) ∧ (s.bit Reg.RST_STAT 27 = true) ∧ (s.bit Reg.PWR_DEVSTAT 28 = false) ∧ (s.smcHalted = false) ∧ (s.runc.change = none) ∧ (s.img.job = none) :=
  ⟨inst [(Reg.RST_STAT, 0x08000000)], by decide +kernel⟩

theorem test_meets_PowerManagement_6 : ∃ (s : State), (s.pwr.pwrfail = true) :=
  ⟨{ State.reset with pwr := { PwrInt.init with pwrfail := true } }, by decide +kernel⟩

theorem test_meets_ResetsClearAndKeep_1 : ∃ (s : State), (s.rst.porst = false) ∧ (s.rst.aon = false) :=
  ⟨.reset, by decide +kernel⟩

theorem test_meets_ResetsClearAndKeep_2 : ∃ (s : State), (s.rst.fwRuns = true) ∧ (s.smcHalted = false) ∧ (s.inReset = false) :=
  ⟨withRst .reset { RstInt.init with fwRuns := true }, by decide +kernel⟩

theorem test_meets_ResetsClearAndKeep_3 : ∃ (s : State), (s.accKind .pcie true Reg.RST_CMD = none) ∧ (s.rf Reg.SEC_STAT 31 30 = 1) :=
  ⟨inst [], by decide +kernel⟩

theorem test_meets_ResetsClearAndKeep_4 : ∃ (s : State) (i : Instr), (s.accKind .pcie true Reg.RST_CMD = none) ∧ (s.rf Reg.SEC_STAT 31 30 = 0) ∧ (i ∈ [Instr.warmReset .pcie, .warmFull .pcie]) :=
  ⟨inst [(Reg.SEC_STAT, 0)], .warmFull .pcie, by decide +kernel⟩

theorem test_meets_ResetsClearAndKeep_5 : ∃ (s : State), (s.rf Reg.RST_STAT 31 28 = 2) ∧ (s.rst.rel = 4) :=
  ⟨atStage 2 [], by decide +kernel⟩

theorem test_meets_OrderOfRelease_1 : ∃ (s : State), (s.rst.porst = true) :=
  ⟨withRst .reset { RstInt.init with porst := true }, by decide +kernel⟩

theorem test_meets_OrderOfRelease_2 : ∃ (s : State), (s.rst.aon = true) :=
  ⟨withRst .reset { RstInt.init with aon := true }, by decide +kernel⟩

theorem test_meets_OrderOfRelease_3 : ∃ (s : State), (s.rst.sysrst = true) :=
  ⟨withRst .reset { RstInt.init with sysrst := true }, by decide +kernel⟩

theorem test_meets_OrderOfRelease_4 : ∃ (s : State), (s.inReset = false) ∧ (s.rst.rel = 0) :=
  ⟨.reset, by decide +kernel⟩

theorem test_meets_OrderOfRelease_5 : ∃ (s : State), (s.inReset = false) ∧ (s.rst.rel = 1) :=
  ⟨withRst .reset { RstInt.init with rel := 1 }, by decide +kernel⟩

theorem test_meets_OrderOfRelease_6 : ∃ (s : State), (s.inReset = false) ∧ (s.rst.rel = 2) :=
  ⟨withRst .reset { RstInt.init with rel := 2 }, by decide +kernel⟩

theorem test_meets_OrderOfRelease_7 : ∃ (s : State), (s.inReset = false) ∧ (s.rst.rel = 3) ∧ (s.domOn 161 = true) ∧ (s.rf Reg.RST_STAT 31 28 = 1) :=
  ⟨withRst (regs [(Reg.PWR_DSTAT 161, 0), (Reg.RST_STAT, 0x10000000)]) { RstInt.init with rel := 3 }, by decide +kernel⟩

theorem test_meets_OrderOfRelease_8 : ∃ (s : State), (s.inReset = false) ∧ (s.rst.rel ≠ 0) ∧ (s.bit Reg.RST_CFG 30 = false) :=
  ⟨withRst (regs [(Reg.RST_CFG, 0)]) { RstInt.init with rel := 1 }, by decide +kernel⟩

theorem test_meets_OrderOfRelease_9 : ∃ (s : State), (s.inReset = false) ∧ (s.rst.rel ≠ 0) ∧ (s.bit Reg.RST_CFG 30 = true) ∧ (s.bit Reg.RST_STAT 27 = false) ∧ (s.rf Reg.RST_STAT 31 28 ≠ 0xB) :=
  ⟨withRst (regs [(Reg.RST_CFG, 0x40000000), (Reg.RST_STAT, 0xA0000000)]) { RstInt.init with rel := 4 }, by decide +kernel⟩

theorem test_meets_OrderOfRelease_10 : ∃ (s : State) (w : Nat), (w < 9) ∧ (s.rf Reg.RST_STAT 31 28 = 7) ∧ (s.rst.wave = w) :=
  ⟨withRst (regs [(Reg.RST_STAT, 0x70000000)]) { RstInt.init with wave := 8 }, 8, by decide +kernel⟩

theorem test_meets_StagesOfAStart_1 : ∃ (s : State) (found : List Nat), (s.inReset = false) ∧ (s.bit Reg.PWR_DEVSTAT 29 = false) ∧ (s.stageOver = true) ∧ (s.pwr.pwrfail = true) :=
  ⟨{ atStage 4 (on [162]) with pwr := { PwrInt.init with pwrfail := true } }, [], by decide +kernel⟩

theorem test_meets_StagesOfAStart_2 : ∃ (s : State) (n : Nat) (found : List Nat), (s.inReset = false) ∧ (s.bit Reg.PWR_DEVSTAT 29 = false) ∧ (s.stageOver = true) ∧ (s.pwr.pwrfail = false) ∧ (n ∈ [3, 4, 6]) ∧ (s.rf Reg.RST_STAT 31 28 = n) :=
  ⟨atStage 4 (on [162]), 4, [], by decide +kernel⟩

theorem test_meets_StagesOfAStart_3 : ∃ (s : State), (s.inReset = false) ∧ (s.bit Reg.PWR_DEVSTAT 29 = false) ∧ (s.stageOver = true) ∧ (s.pwr.pwrfail = false) ∧ (s.rf Reg.RST_STAT 31 28 = 5) :=
  ⟨atStage 5 (on (List.range' 144 16)), by decide +kernel⟩

theorem test_meets_StagesOfAStart_4 : ∃ (s : State) (found : List Nat), (s.inReset = false) ∧ (s.bit Reg.PWR_DEVSTAT 29 = false) ∧ (s.stageOver = true) ∧ (s.pwr.pwrfail = false) ∧ (s.rf Reg.RST_STAT 31 28 = 7) :=
  ⟨atStage 7 (on (List.range 128)), [1151], by decide +kernel⟩

theorem test_meets_StagesOfAStart_5 : ∃ (s : State) (found : List Nat), (s.inReset = false) ∧ (s.bit Reg.PWR_DEVSTAT 29 = false) ∧ (s.stageOver = true) ∧ (s.pwr.pwrfail = false) ∧ (s.rf Reg.RST_STAT 31 28 = 9) :=
  ⟨atStage 9 [], [], by decide +kernel⟩

theorem test_meets_BandRowMaps_1 : ∃ (s : State) (d : Nat) (i : Nat), (d < 128) ∧ (i < 9) :=
  ⟨.reset, 127, 8, by decide +kernel⟩

theorem test_meets_BandRowMaps_2 : ∃ (s : State) (d : Nat) (i : Nat), (d < 128) ∧ ((∃ i, i < 9 ∧ (fun i => bitAt (s.recordedMap d) i || s.bit (Reg.RST_MAP d) i) i = true)) ∧ (i < ((s.chooseMap d).rf (Reg.RST_MAP d) 16 13)) :=
  ⟨regs [(Reg.RST_MAP 127, 0x104)], 127, 1, by decide +kernel⟩

theorem test_meets_BandRowMaps_3 : ∃ (s : State) (d : Nat), (d < 128) ∧ ((∀ i, i < 9 → (fun i => bitAt (s.recordedMap d) i || s.bit (Reg.RST_MAP d) i) i = false)) :=
  ⟨.reset, 127, by decide +kernel⟩

theorem test_meets_CoreSubstitution_1 : ∃ (s : State) (d : Nat) (pos : Nat), (d < 128) ∧ (pos < 9) ∧ (s.rst.swap = some (d, pos)) ∧ (s.rst.hold ≠ []) ∧ (s.rst.copies = []) ∧ (s.bandEmpty = true) ∧ (s.sparePos d < pos + 2 ∧ pos < s.sparePos d + 2) :=
  ⟨withRst .reset { RstInt.init with swap := some (127, 7), hold := [127] }, 127, 7, by decide +kernel⟩

theorem test_meets_CoreSubstitution_2 : ∃ (s : State) (d : Nat) (pos : Nat), (d < 128) ∧ (pos < 9) ∧ (s.rst.swap = some (d, pos)) ∧ (s.rst.hold ≠ []) ∧ (s.rst.copies = []) ∧ (s.bandEmpty = true) ∧ (s.sparePos d + 2 ≤ pos) :=
  ⟨withRst (regs [(Reg.RST_MAP 127, 0x80000000)]) { RstInt.init with swap := some (127, 8), hold := [127] }, 127, 8, by decide +kernel⟩

theorem test_meets_CoreSubstitution_3 : ∃ (s : State) (d : Nat) (pos : Nat), (d < 128) ∧ (pos < 9) ∧ (s.rst.swap = some (d, pos)) ∧ (s.rst.hold ≠ []) ∧ (s.rst.copies = []) ∧ (s.bandEmpty = true) ∧ (pos + 2 ≤ s.sparePos d) :=
  ⟨withRst .reset { RstInt.init with swap := some (127, 0), hold := [127] }, 127, 0, by decide +kernel⟩

theorem test_meets_CoreSubstitution_4 : ∃ (s : State) (d : Nat) (pos : Nat) (c : Nat) (rest : List Nat), (d < 128) ∧ (pos < 9) ∧ (s.rst.swap = some (d, pos)) ∧ (s.rst.copies = c :: rest) ∧ (rest = []) :=
  ⟨withRst .reset { RstInt.init with swap := some (127, 0), hold := [127], copies := [5] }, 127, 0, 5, [], by decide +kernel⟩

theorem test_meets_CoreSubstitution_5 : ∃ (s : State) (d : Nat) (pos : Nat) (c : Nat) (rest : List Nat), (d < 128) ∧ (pos < 9) ∧ (s.rst.swap = some (d, pos)) ∧ (s.rst.copies = c :: rest) ∧ (rest ≠ []) :=
  ⟨withRst .reset { RstInt.init with swap := some (127, 0), hold := [127], copies := [5, 6] }, 127, 0, 5, [6], by decide +kernel⟩

theorem test_meets_CoreSubstitution_6 : ∃ (s : State) (p : Nat), (p < 16) ∧ (s.bit Reg.RST_ISO (16 + p) = true) ∧ (s.bit Reg.SMC_RECSTAT (16 + p) = true) :=
  ⟨regs [(Reg.RST_ISO, 0x80000000), (Reg.SMC_RECSTAT, 0x80000000)], 15, by decide +kernel⟩

theorem test_meets_FirmwareCommands_1 : ∃ (s : State) (k : Nat), (k < 2) ∧ (s.accKind .pcie true Reg.RST_FWCMD = none) ∧ (s.rf Reg.SEC_STAT 31 30 = 1) ∧ (¬ (¬ (s.rst.fwRuns = true ∧ s.rf Reg.RST_FWSTAT 30 30 = k))) :=
  ⟨withRst (inst [(Reg.RST_FWSTAT, 0x40000000)]) { RstInt.init with fwRuns := true }, 1, by decide +kernel⟩

theorem test_meets_FirmwareCommands_2 : ∃ (s : State) (k : Nat), (k < 2) ∧ (s.accKind .pcie true Reg.RST_FWCMD = none) ∧ (s.rf Reg.SEC_STAT 31 30 = 1) ∧ ((¬ (s.rst.fwRuns = true ∧ s.rf Reg.RST_FWSTAT 30 30 = k))) ∧ (s.bit Reg.HIF_LINK 31 = false ∨ s.hostGone = true ∨ ((s.rd (Reg.RST_FWHADDR 0)).toNat + 2 ^ 32 * (s.rd (Reg.RST_FWHADDR 1)).toNat) % 16 ≠ 0) :=
  ⟨inst [(Reg.HIF_LINK, 0)], 0, by decide +kernel⟩

theorem test_meets_FirmwareCommands_3 : ∃ (s : State) (k : Nat), (k < 2) ∧ (s.accKind .pcie true Reg.RST_FWCMD = none) ∧ (s.rf Reg.SEC_STAT 31 30 = 1) ∧ ((¬ (s.rst.fwRuns = true ∧ s.rf Reg.RST_FWSTAT 30 30 = k))) ∧ (s.bit Reg.HIF_LINK 31 = true) ∧ (s.hostGone = false) ∧ (((s.rd (Reg.RST_FWHADDR 0)).toNat + 2 ^ 32 * (s.rd (Reg.RST_FWHADDR 1)).toNat) % 16 = 0) ∧ ((s.rd Reg.RST_FWHLEN).toNat < (256 + leNat (s.hostBytes (((s.rd (Reg.RST_FWHADDR 0)).toNat + 2 ^ 32 * (s.rd (Reg.RST_FWHADDR 1)).toNat) + 8) 4))) :=
  ⟨fwState [(Reg.RST_FWHLEN, 256)] package, 0, by decide +kernel⟩

theorem test_meets_FirmwareCommands_4 : ∃ (s : State) (k : Nat), (k < 2) ∧ (s.accKind .pcie true Reg.RST_FWCMD = none) ∧ (s.rf Reg.SEC_STAT 31 30 = 1) ∧ ((¬ (s.rst.fwRuns = true ∧ s.rf Reg.RST_FWSTAT 30 30 = k))) ∧ (s.bit Reg.HIF_LINK 31 = true) ∧ (s.hostGone = false) ∧ (((s.rd (Reg.RST_FWHADDR 0)).toNat + 2 ^ 32 * (s.rd (Reg.RST_FWHADDR 1)).toNat) % 16 = 0) ∧ ((256 + leNat (s.hostBytes (((s.rd (Reg.RST_FWHADDR 0)).toNat + 2 ^ 32 * (s.rd (Reg.RST_FWHADDR 1)).toNat) + 8) 4)) ≤ (s.rd Reg.RST_FWHLEN).toNat) ∧ (0x100000 < (256 + leNat (s.hostBytes (((s.rd (Reg.RST_FWHADDR 0)).toNat + 2 ^ 32 * (s.rd (Reg.RST_FWHADDR 1)).toNat) + 8) 4))) :=
  ⟨fwState [(Reg.RST_FWHLEN, 0x100001)] (raw 12 [(8, 0xFFF01)]), 1, by decide +kernel⟩

theorem test_meets_FirmwareCommands_5 : ∃ (s : State) (k : Nat), (k < 2) ∧ (s.accKind .pcie true Reg.RST_FWCMD = none) ∧ (s.rf Reg.SEC_STAT 31 30 = 1) ∧ ((¬ (s.rst.fwRuns = true ∧ s.rf Reg.RST_FWSTAT 30 30 = k))) ∧ (s.bit Reg.HIF_LINK 31 = true) ∧ (s.hostGone = false) ∧ (((s.rd (Reg.RST_FWHADDR 0)).toNat + 2 ^ 32 * (s.rd (Reg.RST_FWHADDR 1)).toNat) % 16 = 0) ∧ ((256 + leNat (s.hostBytes (((s.rd (Reg.RST_FWHADDR 0)).toNat + 2 ^ 32 * (s.rd (Reg.RST_FWHADDR 1)).toNat) + 8) 4)) ≤ (s.rd Reg.RST_FWHLEN).toNat) ∧ ((256 + leNat (s.hostBytes (((s.rd (Reg.RST_FWHADDR 0)).toNat + 2 ^ 32 * (s.rd (Reg.RST_FWHADDR 1)).toNat) + 8) 4)) ≤ 0x100000) ∧ (s.domState 175 ≠ 4) ∧ ((s.store (fwBase k) (s.hostBytes ((s.rd (Reg.RST_FWHADDR 0)).toNat + 2 ^ 32 * (s.rd (Reg.RST_FWHADDR 1)).toNat) (256 + leNat (s.hostBytes (((s.rd (Reg.RST_FWHADDR 0)).toNat + 2 ^ 32 * (s.rd (Reg.RST_FWHADDR 1)).toNat) + 8) 4)))).pkgCheck (fwBase k) = 0) ∧ (s.bit Reg.RST_FWSTAT 29 = false) :=
  ⟨fwState [] package, 1, by decide +kernel⟩

theorem test_meets_FirmwareCommands_6 : ∃ (s : State) (k : Nat), (k < 2) ∧ (s.accKind .pcie true Reg.RST_FWCMD = none) ∧ (s.rf Reg.SEC_STAT 31 30 = 1) ∧ ((¬ (s.rst.fwRuns = true ∧ s.rf Reg.RST_FWSTAT 30 30 = k))) ∧ (s.bit Reg.HIF_LINK 31 = true) ∧ (s.hostGone = false) ∧ (((s.rd (Reg.RST_FWHADDR 0)).toNat + 2 ^ 32 * (s.rd (Reg.RST_FWHADDR 1)).toNat) % 16 = 0) ∧ ((256 + leNat (s.hostBytes (((s.rd (Reg.RST_FWHADDR 0)).toNat + 2 ^ 32 * (s.rd (Reg.RST_FWHADDR 1)).toNat) + 8) 4)) ≤ (s.rd Reg.RST_FWHLEN).toNat) ∧ ((256 + leNat (s.hostBytes (((s.rd (Reg.RST_FWHADDR 0)).toNat + 2 ^ 32 * (s.rd (Reg.RST_FWHADDR 1)).toNat) + 8) 4)) ≤ 0x100000) ∧ (s.domState 175 ≠ 4) ∧ ((s.store (fwBase k) (s.hostBytes ((s.rd (Reg.RST_FWHADDR 0)).toNat + 2 ^ 32 * (s.rd (Reg.RST_FWHADDR 1)).toNat) (256 + leNat (s.hostBytes (((s.rd (Reg.RST_FWHADDR 0)).toNat + 2 ^ 32 * (s.rd (Reg.RST_FWHADDR 1)).toNat) + 8) 4)))).pkgCheck (fwBase k) ≠ 0) :=
  ⟨fwState [(Reg.SEC_OTP, 0)] package, 1, by decide +kernel⟩

theorem test_meets_FirmwareCommands_7 : ∃ (s : State) (k : Nat), (k < 2) ∧ (s.accKind .pcie true Reg.RST_FWCMD = none) ∧ (s.rf Reg.SEC_STAT 31 30 = 1) ∧ (s.rf (Reg.RST_FWSLOT k) 31 29 ≠ 0) ∧ (s.pkgHeader (fwBase k) = true) ∧ (s.domState 175 ≠ 4) ∧ (s.bit Reg.RST_FWSTAT 29 = false) :=
  ⟨(fwState [(Reg.RST_FWSLOT 1, 0x20000000)] []).store (fwBase 1) package, 1, by decide +kernel⟩

theorem test_meets_FirmwareCommands_8 : ∃ (s : State) (k : Nat), (k < 2) ∧ (s.accKind .pcie true Reg.RST_FWCMD = none) ∧ (s.rf Reg.SEC_STAT 31 30 = 1) ∧ (s.rf (Reg.RST_FWSLOT k) 31 29 = 0) :=
  ⟨inst [], 0, by decide +kernel⟩

theorem test_meets_FirmwareCommands_9 : ∃ (s : State) (k : Nat) (i : Instr), (s.accKind .pcie true Reg.RST_FWCMD = none) ∧ (s.rf Reg.SEC_STAT 31 30 = 0) ∧ (i ∈ [Instr.fwInstall .pcie k, .fwActivate .pcie k, .fwSetreset .pcie k]) :=
  ⟨inst [(Reg.SEC_STAT, 0)], 1, .fwActivate .pcie 1, by decide +kernel⟩

theorem test_meets_FirmwareCommands_10 : ∃ (s : State) (src : Src), (s.accKind src false Reg.RST_DIAGDATA = none) ∧ (1151 < s.rf Reg.RST_DIAGSEL 31 21) :=
  ⟨inst [(Reg.RST_DIAGSEL, 0x90000000)], .pcie, by decide +kernel⟩

theorem test_meets_FirmwareCommands_11 : ∃ (s : State) (src : Src), (s.accKind src false Reg.RST_DIAGDATA = none) ∧ (s.rf Reg.RST_DIAGSEL 31 21 ≤ 1151) ∧ ((s.nodeAt (s.rf Reg.RST_DIAGSEL 31 21 / 36) (s.rf Reg.RST_DIAGSEL 31 21 % 36)) < 1024) ∧ (s.domOn (128 + partOf (s.nodeAt (s.rf Reg.RST_DIAGSEL 31 21 / 36) (s.rf Reg.RST_DIAGSEL 31 21 % 36))) = true) ∧ (s.accKind src false (rtrWin (s.nodeAt (s.rf Reg.RST_DIAGSEL 31 21 / 36) (s.rf Reg.RST_DIAGSEL 31 21 % 36)) + 4 * s.rf Reg.RST_DIAGSEL 11 2) = none) :=
  ⟨inst [(Reg.RST_DIAGSEL, 4)], .pcie, by decide +kernel⟩

theorem test_meets_FaultCases_1 : ∃ (s : State) (p : Packet) (k : Nat), (s.smcHalted = false) ∧ (s.bit Reg.PWR_DEVSTAT 29 = false) ∧ (s.inboxHead 1060 0 = some p) ∧ ((p.cls = 3 ∨ p.cls = 7)) ∧ (bits p.key 31 28 = 4) ∧ (p.key < 2 ^ 32) ∧ (p.good = true) ∧ (k < 16) ∧ (s.absorber p.key = some k) :=
  ⟨reported (regs [(Reg.SMC_CASE 15 0, 0x80000000), (Reg.SMC_CASE 15 1, 0x42000280)]) 1 0 5, pk 3 0x41000280 1 0 [], 15, by decide +kernel⟩

theorem test_meets_FaultCases_2 : ∃ (s : State) (p : Packet), (s.smcHalted = false) ∧ (s.bit Reg.PWR_DEVSTAT 29 = false) ∧ (s.inboxHead 1060 0 = some p) ∧ ((p.cls = 3 ∨ p.cls = 7)) ∧ (bits p.key 31 28 = 4) ∧ (p.key < 2 ^ 32) ∧ (p.good = true) ∧ (s.absorber p.key = none) ∧ ((s.suspectPart p.key) < 16) ∧ (s.recovering (s.suspectPart p.key) = false) ∧ (s.heldPart (s.suspectPart p.key) = false) ∧ ((bits p.key 27 24) = 1) ∧ ((suspectClass p.key) = 0) ∧ (s.rf (Reg.TMP_STAT (s.suspectPart p.key)) 31 29 ≠ 0) :=
  ⟨reported (regs [(Reg.TMP_STAT 0, 0x20000000)]) 1 0 5, pk 3 0x41000280 1 0 [], by decide +kernel⟩

theorem test_meets_FaultCases_3 : ∃ (s : State) (p : Packet) (k : Nat), (s.smcHalted = false) ∧ (s.bit Reg.PWR_DEVSTAT 29 = false) ∧ (s.inboxHead 1060 0 = some p) ∧ ((p.cls = 3 ∨ p.cls = 7)) ∧ (bits p.key 31 28 = 4) ∧ (p.key < 2 ^ 32) ∧ (p.good = true) ∧ (s.absorber p.key = none) ∧ (¬ ((s.suspectPart p.key) < 16 ∧ (s.recovering (s.suspectPart p.key) = true ∨ s.heldPart (s.suspectPart p.key) = true ∨ s.rf (Reg.TMP_STAT (s.suspectPart p.key)) 31 29 ≠ 0))) ∧ (s.recv.fifo = []) ∧ (s.freeSlot = some k) ∧ ((∀ i, i < 8 → s.rd (Reg.SMC_CASE k i) = 0)) ∧ ((∀ j ∈ s.openCases, (s.case j).chain = none)) ∧ (bits p.key 23 20 = s.dev) ∧ (((bits p.key 27 24) = 1 ∧ ((suspectClass p.key) = 0 ∨ (suspectClass p.key) = 1 ∨ (suspectClass p.key) = 4) ∨ ((bits p.key 27 24) = 2 ∨ (bits p.key 27 24) = 3) ∧ ((suspectClass p.key) = 0 ∨ (suspectClass p.key) = 2 ∨ (suspectClass p.key) = 3))) :=
  ⟨reported .reset 3 3 9, pk 3 0x43060480 1 0 [], 0, by decide +kernel⟩

theorem test_meets_FaultCases_4 : ∃ (s : State) (p : Packet) (k : Nat), (s.smcHalted = false) ∧ (s.bit Reg.PWR_DEVSTAT 29 = false) ∧ (s.inboxHead 1060 0 = some p) ∧ ((p.cls = 3 ∨ p.cls = 7)) ∧ (bits p.key 31 28 = 4) ∧ (p.key < 2 ^ 32) ∧ (p.good = true) ∧ (s.absorber p.key = none) ∧ (¬ ((s.suspectPart p.key) < 16 ∧ (s.recovering (s.suspectPart p.key) = true ∨ s.heldPart (s.suspectPart p.key) = true ∨ s.rf (Reg.TMP_STAT (s.suspectPart p.key)) 31 29 ≠ 0))) ∧ (s.recv.fifo = []) ∧ (s.freeSlot = some k) ∧ ((∀ i, i < 8 → s.rd (Reg.SMC_CASE k i) = 0)) ∧ ((∀ j ∈ s.openCases, (s.case j).chain = none)) ∧ (bits p.key 23 20 = s.dev) ∧ (5 ≤ (bits p.key 27 24)) ∧ (s.bit Reg.SMC_RECCFG 31 = false) :=
  ⟨reported (regs [(Reg.SMC_RECCFG, 0)]) 10 6 7, pk 3 0x4A0C0380 1 0 [], 0, by decide +kernel⟩

theorem test_meets_FaultCases_5 : ∃ (s : State) (p : Packet), (s.smcHalted = false) ∧ (s.bit Reg.PWR_DEVSTAT 29 = false) ∧ (s.inboxHead 1060 0 = some p) ∧ ((p.cls = 3 ∨ p.cls = 7)) ∧ (bits p.key 31 28 = 4) ∧ (p.key < 2 ^ 32) ∧ (p.good = true) ∧ (s.absorber p.key = none) ∧ (¬ ((s.suspectPart p.key) < 16 ∧ (s.recovering (s.suspectPart p.key) = true ∨ s.heldPart (s.suspectPart p.key) = true ∨ s.rf (Reg.TMP_STAT (s.suspectPart p.key)) 31 29 ≠ 0))) ∧ (s.recv.fifo ≠ [] ∨ s.freeSlot = none) ∧ (s.recv.fifo.length < 64) :=
  ⟨withRecv (reported .reset 1 0 5) 0 { RecInt.init with fifo := List.replicate 63 (pk 3 0 0 0 []) }, pk 3 0x41000280 1 0 [], by decide +kernel⟩

theorem test_meets_FaultCases_6 : ∃ (s : State) (p : Packet), (s.smcHalted = false) ∧ (s.bit Reg.PWR_DEVSTAT 29 = false) ∧ (s.inboxHead 1060 0 = some p) ∧ ((p.cls = 3 ∨ p.cls = 7)) ∧ (bits p.key 31 28 = 4) ∧ (p.key < 2 ^ 32) ∧ (p.good = true) ∧ (s.absorber p.key = none) ∧ (¬ ((s.suspectPart p.key) < 16 ∧ (s.recovering (s.suspectPart p.key) = true ∨ s.heldPart (s.suspectPart p.key) = true ∨ s.rf (Reg.TMP_STAT (s.suspectPart p.key)) 31 29 ≠ 0))) ∧ (s.recv.fifo ≠ [] ∨ s.freeSlot = none) ∧ (64 ≤ s.recv.fifo.length) :=
  ⟨withRecv (reported .reset 1 0 5) 0 { RecInt.init with fifo := List.replicate 64 (pk 3 0 0 0 []) }, pk 3 0x41000280 1 0 [], by decide +kernel⟩

theorem test_meets_FaultCases_7 : ∃ (s : State) (p : Packet), (s.smcHalted = false) ∧ (s.bit Reg.PWR_DEVSTAT 29 = true) ∧ (s.inboxHead 1060 0 = some p) ∧ ((p.cls = 3 ∨ p.cls = 7)) ∧ (bits p.key 31 28 = 4) ∧ (p.good = true) :=
  ⟨reported (regs [(Reg.PWR_DEVSTAT, 0x20000000)]) 1 0 5, pk 3 0x41000280 1 0 [], by decide +kernel⟩

theorem test_meets_FaultCases_8 : ∃ (s : State) (k : Nat), (k < 16) ∧ (s.bit (Reg.SMC_CASE k 0) 31 = true) ∧ (s.rf (Reg.SMC_CASE k 0) 30 28 = 1) ∧ ((s.case k).chain = none) ∧ (s.smcHalted = false) ∧ (s.bit Reg.SMC_RECCFG 31 = false) ∧ (suspectClass (s.caseKey k) = 0) ∧ (s.rf (Reg.NCR_STAT (suspectUnit (s.caseKey k))) 31 29 ≠ 4) ∧ ((s.rd (Reg.NCR_SEALED (suspectUnit (s.caseKey k)))).toNat ≠ (s.case k).sealed0) :=
  ⟨hangs [] 32 9, 15, by decide +kernel⟩

theorem test_meets_FaultCases_9 : ∃ (s : State) (k : Nat), (k < 16) ∧ (s.bit (Reg.SMC_CASE k 0) 31 = true) ∧ (s.rf (Reg.SMC_CASE k 0) 30 28 = 1) ∧ ((s.case k).chain = none) ∧ (s.smcHalted = false) ∧ (s.bit Reg.SMC_RECCFG 31 = false) ∧ (suspectClass (s.caseKey k) = 0) ∧ (s.rf (Reg.NCR_STAT (suspectUnit (s.caseKey k))) 31 29 ≠ 4) ∧ ((s.rd (Reg.NCR_SEALED (suspectUnit (s.caseKey k)))).toNat = (s.case k).sealed0) ∧ ((s.blockOf (suspectUnit (s.caseKey k))).1 ∈ [1, 4, 5, 6]) :=
  ⟨hangs [(Reg.SMC_STEPCFG, 0x01000064)] 32 0, 15, by decide +kernel⟩

theorem test_meets_FaultCases_10 : ∃ (s : State) (k : Nat), (k < 16) ∧ (s.bit (Reg.SMC_CASE k 0) 31 = true) ∧ (s.rf (Reg.SMC_CASE k 0) 30 28 = 1) ∧ ((s.case k).chain = none) ∧ (s.smcHalted = false) ∧ (s.bit Reg.SMC_RECCFG 31 = false) ∧ (suspectClass (s.caseKey k) = 0) ∧ (s.rf (Reg.NCR_STAT (suspectUnit (s.caseKey k))) 31 29 ≠ 4) ∧ ((s.rd (Reg.NCR_SEALED (suspectUnit (s.caseKey k)))).toNat = (s.case k).sealed0) ∧ ((s.blockOf (suspectUnit (s.caseKey k))).1 ∈ [2, 3]) ∧ ((∀ j ∈ s.openCases, j = k ∨ suspectOf (s.caseKey j) ≠ s.holderOf (suspectUnit (s.caseKey k)))) :=
  ⟨hangs [(Reg.SMC_STEPCFG, 0x01800000), (Reg.NCR_HZLIST 5 3, 0x80000000), (Reg.NCR_HZVAL 5 3, 0xFFFFFFFF), (Reg.SMC_EPOCH, 4)] 32 0, 15, by decide +kernel⟩

theorem test_meets_FaultCases_11 : ∃ (s : State) (k : Nat), (k < 16) ∧ (s.bit (Reg.SMC_CASE k 0) 31 = true) ∧ (s.rf (Reg.SMC_CASE k 0) 30 28 = 1) ∧ ((s.case k).chain = none) ∧ (s.smcHalted = false) ∧ (s.bit Reg.SMC_RECCFG 31 = false) ∧ (suspectClass (s.caseKey k) = 0) ∧ (s.rf (Reg.NCR_STAT (suspectUnit (s.caseKey k))) 31 29 ≠ 4) ∧ ((s.rd (Reg.NCR_SEALED (suspectUnit (s.caseKey k)))).toNat = (s.case k).sealed0) ∧ ((s.blockOf (suspectUnit (s.caseKey k))).1 ∈ [0, 7]) :=
  ⟨hangs [] 0 0, 15, by decide +kernel⟩

theorem test_meets_PartitionRecovery_1 : ∃ (s : State) (p : Nat) (k : Nat), (p < 16) ∧ (k < 16) ∧ (s.smcHalted = false) ∧ (s.recovering p = false) ∧ (s.heldPart p = false) ∧ (s.dueCase p = some k) ∧ (s.pwr.pwrfail = false) ∧ ((∀ c ∈ s.partCores p, s.rf (Reg.NCR_STAT c) 31 29 ≠ 4)) ∧ ((s.case k).subst = false) ∧ (4 ≤ ((List.range 16).filter s.recovering).length) :=
  ⟨withRecv (regs [(Reg.SMC_CASE 15 0, 0xC00F0000), (Reg.SMC_RECSTAT, 0x000F0000)]) 0 .init, 15, 15, by decide +kernel⟩

theorem test_meets_PartitionRecovery_2 : ∃ (s : State) (p : Nat) (k : Nat), (p < 16) ∧ (k < 16) ∧ (s.smcHalted = false) ∧ (s.recovering p = false) ∧ (s.heldPart p = false) ∧ (s.dueCase p = some k) ∧ (s.pwr.pwrfail = false) ∧ ((∀ c ∈ s.partCores p, s.rf (Reg.NCR_STAT c) 31 29 ≠ 4)) ∧ ((s.case k).subst = false) ∧ (((List.range 16).filter s.recovering).length < 4) ∧ (s.recoveryBarred k p = none) :=
  ⟨withRecv (regs [(Reg.SMC_CASE 15 0, 0x80000000), (Reg.VLT_CKSTAT 0, 0x80000000)]) 1 .init, 0, 15, by decide +kernel⟩

theorem test_meets_PartitionRecovery_3 : ∃ (s : State) (p : Nat) (k : Nat), (p < 16) ∧ (k < 16) ∧ (s.smcHalted = false) ∧ (s.recovering p = false) ∧ (s.heldPart p = false) ∧ (s.dueCase p = some k) ∧ (s.pwr.pwrfail = false) ∧ ((∀ c ∈ s.partCores p, s.rf (Reg.NCR_STAT c) 31 29 ≠ 4)) ∧ ((s.case k).subst = false) ∧ (((List.range 16).filter s.recovering).length < 4) ∧ (s.bit (Reg.VLT_CKSTAT p) 29 = true) ∧ (s.rf (Reg.TMP_STAT p) 31 29 = 0) ∧ ((s.temper p).ckBusy = false) ∧ (s.bit Reg.SMC_RECCFG 31 = false) :=
  ⟨withRecv (regs [(Reg.SMC_CASE 15 0, 0x80000000), (Reg.VLT_CKSTAT 0, 0x20000000), (Reg.SMC_RECCFG, 0)]) 1 .init, 0, 15, by decide +kernel⟩

theorem test_meets_PartitionRecovery_4 : ∃ (s : State) (p : Nat) (k : Nat) (x : CaseInt), (p < 16) ∧ (k < 16) ∧ (s.recCase p = some k) ∧ (s.case k = x) ∧ (x.subst = false) ∧ (x.again = none) ∧ (x.guilty = none) ∧ (s.recovering p = true) ∧ (s.bit Reg.RST_ISO p = true) ∧ (s.rf (Reg.TMP_STAT p) 31 29 = 0) ∧ ((s.temper p).ckBusy = false) ∧ (mapGet 0 s.recv.replay p = 0) ∧ (s.bit (Reg.VLT_CKSTAT p) 29 = false) ∧ (s.bit (Reg.VLT_CKSTAT p) 31 = true) ∧ ((partDoms p).all s.domOn = true) ∧ (s.smcHalted = false) ∧ (s.upsets = []) ∧ (s.poison = []) ∧ (Memory.wf s.mem) ∧ (s.rf (Reg.VLT_JUSED p) 20 0 = 0) ∧ (s.castOf 1 = none) :=
  ⟨recovers [(Reg.VLT_CKSTEP 0, 8), (Reg.VLT_CKSTAT 0, 0x80000000)] { RecInt.init with cases := [(15, { CaseInt.init with f := 9 })] }, 0, 15, { CaseInt.init with f := 9 }, by decide +kernel⟩

theorem test_meets_PartitionRecovery_5 : ∃ (s : State) (p : Nat) (k : Nat) (c : Nat) (i : Nat), (p < 16) ∧ (s.recCase p = some k) ∧ (mapGet 0 s.recv.replay p ≠ 0) ∧ ((s.partCores p).filterMap (fun c => (s.feedable (s.case k).f c).map (fun i => (c, i))) = [(c, i)]) :=
  ⟨(recovers [(Reg.VLT_JUSED 0, 1), (Reg.VLT_JRNL 0, 0x100), (Reg.NCR_STEP 0, 8)] { RecInt.init with replay := [(0, 10)], cases := [(15, { CaseInt.init with f := 9 })] }).store 0x200001008 (leBytes 4 8), 0, 15, 0, 0, by decide +kernel⟩

theorem test_meets_PartitionRecovery_6 : ∃ (s : State) (p : Nat) (k : Nat), (p < 16) ∧ (s.recCase p = some k) ∧ (mapGet 0 s.recv.replay p ≠ 0) ∧ (s.smcHalted = false) ∧ (s.bit Reg.SMC_RECCFG 31 = false) ∧ ((s.partCores p).all (fun c => !(s.core c).stopped && s.waiting c && stepGe (s.rd (Reg.NCR_SEALED c)).toNat (s.case k).f && (s.feedNext c).isNone) = true) ∧ (s.clampsOf p ≤ (s.case k).clamps) ∧ ((s.case k).subst = false) ∧ (s.castOf 1 = none) ∧ (s.dueCase p = none) ∧ (s.time < 4294967296000) :=
  ⟨recovers [(Reg.NCR_STEP 0, 9), (Reg.NCR_SEALED 0, 9)] { RecInt.init with replay := [(0, 10)], cases := [(15, { CaseInt.init with f := 9 })] }, 0, 15, by decide +kernel⟩

theorem test_meets_SearchCopyAndSmc_1 : ∃ (s : State) (p : Nat) (k : Nat) (c : Nat) (ctx : Nat), (p < 16) ∧ (k < 16) ∧ (s.recCase p = some k) ∧ (s.recurring p = some c) ∧ (s.smcHalted = false) ∧ (c < 1024) ∧ (s.sparePos (rowDom c) < 9) ∧ (s.spareFree (rowDom c) = true) ∧ (s.coreCovered = true) :=
  ⟨{ recovers [(Reg.NCR_ERRSTAT 0, 0x20), (Reg.RST_MAP 0, 0x80010000), (Reg.SMC_RECCOVER, 0x80000000)] { RecInt.init with replay := [(0, 10)] } with cores := [(0, { CoreInt.init with stopped := true })] }, 0, 15, 0, 8191, by decide +kernel⟩

theorem test_meets_SearchCopyAndSmc_2 : ∃ (s : State) (p : Nat) (k : Nat) (c : Nat) (ctx : Nat), (p < 16) ∧ (k < 16) ∧ (s.recCase p = some k) ∧ (s.recurring p = some c) ∧ (s.smcHalted = false) ∧ (c < 1024) ∧ (s.spareFree (rowDom c) = false) ∧ (s.bit Reg.SMC_RECCFG 31 = false) :=
  ⟨{ recovers [(Reg.NCR_ERRSTAT 0, 0x20), (Reg.RST_MAP 0, 0x80010100)] { RecInt.init with replay := [(0, 10)] } with cores := [(0, { CoreInt.init with stopped := true })] }, 0, 15, 0, 8191, by decide +kernel⟩

theorem test_meets_SearchCopyAndSmc_3 : ∃ (s : State) (j : ImgJob) (e : AlmEntry) (b : List Byte), (s.img.loaded = some j) ∧ (s.rf Reg.SMC_IMGSTAT 31 29 = 3) ∧ (s.smcHalted = false) ∧ (s.domState 175 ≠ 4) ∧ ((copyFits 0x900000 s.img.kept)[s.recv.copied]? = some (e, b)) :=
  ⟨{ regs [(Reg.SMC_IMGSTAT, 0x78000000)] with img := { ImgInt.init with loaded := some (job false 2 0x1000 0 false), kept := [(⟨5, 0, 0, 0, 1, 0, 0, 128, 4, 4, crc32 [1, 2, 3, 4], true⟩, [1, 2, 3, 4])] } }, job false 2 0x1000 0 false, ⟨5, 0, 0, 0, 1, 0, 0, 128, 4, 4, crc32 [1, 2, 3, 4], true⟩, [1, 2, 3, 4], by decide +kernel⟩

theorem test_meets_SearchCopyAndSmc_4 : ∃ (s : State) (j : ImgJob), (s.img.loaded = some j) ∧ (s.rf Reg.SMC_IMGSTAT 31 29 = 3) ∧ (s.smcHalted = false) ∧ (s.domState 175 ≠ 4) ∧ ((copyFits 0x900000 s.img.kept).length ≤ s.recv.copied) :=
  ⟨{ regs [(Reg.SMC_IMGSTAT, 0x78000000)] with img := { ImgInt.init with loaded := some (job false 2 0x1000 0 false) } }, job false 2 0x1000 0 false, by decide +kernel⟩

theorem test_meets_SearchCopyAndSmc_5 : ∃ (s : State), (s.smcHalted = false) ∧ (s.domState 175 ≠ 4) :=
  ⟨.reset, by decide +kernel⟩

theorem test_meets_SearchCopyAndSmc_6 : ∃ (s : State) (p : Packet), (s.smcHead = some (p, [])) ∧ (p.good = true) ∧ (s.smcHalted = false) :=
  ⟨inbox .reset 1060 3 (pk 4 0 0 0 []), pk 4 0 0 0 [], by decide +kernel⟩

theorem test_meets_TimerReload_1 : ∃ (s : State) (n : Nat), (n < 16) ∧ (s.rf Reg.PWR_DEVSTAT 31 30 ≠ 2) ∧ (s.bit (Reg.TMR_CHSTAT n) 31 = true) ∧ (s.timeHolds = false) ∧ ((fun c => (s.time % 2 ^ 32 + 2 ^ 32 - c % 2 ^ 32) % 2 ^ 32 < 2 ^ 31 : Nat → Prop) ((s.rd (Reg.TMR_CHCOMPARE n)).toNat)) :=
  ⟨atTime (regs [(Reg.TMR_CHSTAT 15, 0x80000000), (Reg.TMR_CHCTRL 15, 0xC0000000), (Reg.TMR_CHCOMPARE 15, 900), (Reg.TMR_CHPERIOD 15, 100)]) 1050, 15, by decide +kernel⟩

theorem test_meets_TimerReload_2 : ∃ (s : State) (n : Nat), (n < 16) ∧ (s.rf Reg.PWR_DEVSTAT 31 30 ≠ 2) ∧ (s.bit (Reg.TMR_CHSTAT n) 31 = false ∨ s.timeHolds = true ∨ ¬ (fun c => (s.time % 2 ^ 32 + 2 ^ 32 - c % 2 ^ 32) % 2 ^ 32 < 2 ^ 31 : Nat → Prop) ((s.rd (Reg.TMR_CHCOMPARE n)).toNat)) :=
  ⟨atTime (regs [(Reg.TMR_CHSTAT 15, 0x80000000), (Reg.TMR_CHCOMPARE 15, 1051)]) 1050, 15, by decide +kernel⟩

theorem test_meets_TimerCommands_1 : ∃ (s : State) (n : Nat) (data : Nat), (n < 16) ∧ (data < 2 ^ 32) ∧ (s.rf Reg.SEC_STAT 31 30 = 1) ∧ (s.timerDue n = false) ∧ (s.accKind .pcie true (Reg.TMR_CHCOMPARE n) = none) :=
  ⟨inst [(Reg.TMR_CHCTRL 15, 0x80000000)], 15, 0xFFFFFFFF, by decide +kernel⟩

theorem test_meets_TimerCommands_2 : ∃ (s : State) (n : Nat) (data : Nat), (n < 16) ∧ (data < 2 ^ 32) ∧ (s.rf Reg.SEC_STAT 31 30 = 1) ∧ (s.timerDue n = false) ∧ (s.accKind .pcie true (Reg.TMR_CHCTRL n) = none) :=
  ⟨inst [], 15, 0xFFFFFFFF, by decide +kernel⟩

theorem test_meets_TimerCommands_3 : ∃ (s : State) (data : Nat), (data < 2 ^ 32) ∧ (s.accKind .pcie true Reg.TMR_GROUP = none) ∧ (s.rf Reg.SEC_STAT 31 30 = 1) ∧ ((∀ n, n < 16 → s.timerDue n = false)) :=
  ⟨inst [(Reg.TMR_CHCTRL 0, 0x80000000), (Reg.TMR_CHCTRL 3, 0x80000000), (Reg.TMR_CHPERIOD 3, 1000)], 0x800A000F, by decide +kernel⟩

theorem test_meets_TimerCommands_4 : ∃ (s : State) (n : Nat), (n < 16) ∧ (s.timerDue n = true) ∧ (s.rf Reg.PWR_DEVSTAT 31 30 = 0) :=
  ⟨atTime (regs [(Reg.TMR_CHSTAT 15, 0x80000000), (Reg.TMR_CHCTRL 15, 0x90000000), (Reg.TMR_PCCTRL, 0xFC000000)]) 1050, 15, by decide +kernel⟩

theorem test_meets_TimerCommands_5 : ∃ (s : State) (n : Nat), (n < 16) ∧ (n ∈ s.tmr.high) ∧ (s.rf (Reg.TMR_CHCTRL n) 29 28 ≠ 1) ∧ (s.rf Reg.PWR_DEVSTAT 31 30 = 0) :=
  ⟨{ regs [(Reg.TMR_CHCTRL 15, 0xA0000000)] with tmr := { State.reset.tmr with high := [15] } }, 15, by decide +kernel⟩

theorem test_meets_TimebaseAndCounters_1 : ∃ (s : State), (s.pending = []) ∧ (s.timeHolds = true ∨ s.rst.porst = true ∨ s.rst.aon = true) :=
  ⟨{ State.reset with rst := { RstInt.init with porst := true } }, by decide +kernel⟩

theorem test_meets_TimebaseAndCounters_2 : ∃ (s : State), (s.pending = []) ∧ (s.timeHolds = false) ∧ (s.rst.porst = false) ∧ (s.rst.aon = false) ∧ (s.bit Reg.TMR_STAT 31 = true) ∧ (s.bit Reg.CLK_REFSTAT 30 = true) :=
  ⟨regs [(Reg.TMR_STAT, 0x80000000), (Reg.CLK_REFSTAT, 0xC0000000)], by decide +kernel⟩

theorem test_meets_TimebaseAndCounters_3 : ∃ (s : State), (s.pending = []) ∧ (s.timeHolds = false) ∧ (s.rst.porst = false) ∧ (s.rst.aon = false) ∧ (s.bit Reg.TMR_STAT 31 = false) ∧ ((s.tmr.slew = 0 ∨ s.tmr.gap < 4999)) :=
  ⟨regs [(Reg.CLK_REFSTAT, 0xC0000000)], by decide +kernel⟩

theorem test_meets_TimebaseAndCounters_4 : ∃ (s : State), (s.lfWanted = true) ∧ (s.bit Reg.TMR_STAT 31 = false) :=
  ⟨regs [(Reg.PWR_DEVSTAT, 0x80000000), (Reg.CLK_REFSTAT, 0xC0000000)], by decide +kernel⟩

theorem test_meets_TimebaseAndCounters_5 : ∃ (s : State), (s.lfWanted = false) ∧ (s.bit Reg.TMR_STAT 31 = true) :=
  ⟨regs [(Reg.TMR_STAT, 0xE0000000), (Reg.CLK_REFSTAT, 0xE0000000)], by decide +kernel⟩

theorem test_meets_TimebaseAndCounters_6 : ∃ (s : State), (s.bit Reg.CLK_REFSTAT 30 = false) :=
  ⟨regs [(Reg.CLK_REFSTAT, 0)], by decide +kernel⟩

theorem test_meets_TimebaseAndCounters_7 : ∃ (s : State), (s.accKind .pcie true Reg.TMR_PCCTRL = none) ∧ (s.rf Reg.SEC_STAT 31 30 = 1) :=
  ⟨inst [(Reg.TMR_PCCTRL, 0xE4000004), (Reg.TMR_PC 7, 9)], by decide +kernel⟩

theorem test_meets_TimebaseAndCounters_8 : ∃ (s : State) (events : List Nat), (s.bit Reg.TMR_PCCTRL 31 = true) ∧ (s.bit Reg.TMR_PCCTRL 2 = true) :=
  ⟨regs [(Reg.TMR_PCCTRL, 0x80000004), (Reg.TMR_PCSEL 7, 0x01000002), (Reg.TMR_PCSEL 6, 0x0A000000)], List.replicate 256 3, by decide +kernel⟩

theorem test_meets_EphemerisAlarms_1 : ∃ (s : State) (j : Nat) (data : Nat), (j < 64) ∧ (data < 2 ^ 32) ∧ (s.rf Reg.SEC_STAT 31 30 = 1) ∧ (s.accKind .pcie true (Reg.SMC_EPHSTEP j) = none) :=
  ⟨inst [(Reg.SMC_EPHCTRL 63, 0x80000000)], 63, 0xFFFFFFFF, by decide +kernel⟩

theorem test_meets_EphemerisAlarms_2 : ∃ (s : State) (j : Nat) (data : Nat), (j < 64) ∧ (data < 2 ^ 32) ∧ (s.rf Reg.SEC_STAT 31 30 = 1) ∧ (s.accKind .pcie true (Reg.SMC_EPHCTRL j) = none) :=
  ⟨inst [], 63, 0xFFFFFFFF, by decide +kernel⟩

theorem test_meets_EphemerisAlarms_3 : ∃ (s : State) (j : Nat) (st : Nat) (rest : List (Nat × Nat)), (s.smc.alarms = (j, st) :: rest) ∧ (j < 64) ∧ (s.smcHalted = false) ∧ (s.domOn 161 = true) ∧ ((s.smc.flying.filter (fun (e : Nat × Nat) => e.2 < 64)).length < 16) :=
  ⟨{ inst [(Reg.SMC_EPHCTRL 63, 0x20000000), (Reg.SMC_EPHLAND 63, 0x7FF0), (Reg.SMC_EPHKEY 63, 5)] with smc := { State.reset.smc with alarms := [(63, 5)] } }, 63, 5, [], by decide +kernel⟩

theorem test_meets_EphemerisAlarms_4 : ∃ (s : State) (h : Nat) (j : Nat) (n : Nat) (k : Nat), (s.alarmsFrom h = [(stepSub (s.rd (Reg.SMC_EPHSTEP j)).toNat h, j)]) ∧ (s.rf (Reg.SMC_EPHLAND j) 31 16 = 0) ∧ (s.rf (Reg.SMC_EPHCTRL j) 30 29 ≤ 1) ∧ (1 ≤ (stepSub (s.rd (Reg.SMC_EPHSTEP j)).toNat h)) ∧ ((stepSub (s.rd (Reg.SMC_EPHSTEP j)).toNat h) ≤ n) :=
  ⟨regs [(Reg.SMC_EPHSTAT 63, 0x80000000), (Reg.SMC_EPHCTRL 63, 0x80000000), (Reg.SMC_EPHSTEP 63, 10)], 8, 63, 2, 0, by decide +kernel⟩

theorem test_meets_EphemerisAlarms_5 : ∃ (s : State) (h : Nat) (j : Nat) (n : Nat) (k : Nat), (s.alarmsFrom h = [(stepSub (s.rd (Reg.SMC_EPHSTEP j)).toNat h, j)]) ∧ (s.rf (Reg.SMC_EPHLAND j) 31 16 = 0) ∧ (s.rf (Reg.SMC_EPHCTRL j) 30 29 ≤ 1) ∧ ((stepSub (s.rd (Reg.SMC_EPHSTEP j)).toNat h) = 0 ∨ n < (stepSub (s.rd (Reg.SMC_EPHSTEP j)).toNat h)) :=
  ⟨regs [(Reg.SMC_EPHSTAT 63, 0x80000000), (Reg.SMC_EPHCTRL 63, 0x80000000), (Reg.SMC_EPHSTEP 63, 10)], 8, 63, 1, 0, by decide +kernel⟩

theorem test_meets_DebugHalt_1 : ∃ (s : State) (g : Nat) (data : Nat), (g < 32) ∧ (data < 2 ^ 32) ∧ (s.accKind .jtag true (Reg.SMC_DBGHALT g) = none) :=
  ⟨{ inst [(Reg.NCR_STAT 1023, 0x40000000), (Reg.NCR_STEP 1023, 0xFFFFFFFF), (Reg.NCR_SEALED 1023, 0xFFFFFFFF)] with img := { ImgInt.init with inUse := 2 ^ 1023 } }, 31, 0xFFFFFFFF, by decide +kernel⟩

theorem test_meets_DebugHalt_2 : ∃ (s : State) (src : Src) (g : Nat) (data : Nat), (g < 32) ∧ (src ≠ .jtag) :=
  ⟨inst [], .pcie, 31, 0, by decide +kernel⟩

theorem test_meets_DebugHalt_3 : ∃ (s : State), (s.domOn 161 = true) ∧ (s.smcHalted = false) :=
  ⟨inst [], by decide +kernel⟩

theorem test_meets_DebugHalt_4 : ∃ (s : State) (forced : Bool), (s.smcHalted = true) ∧ ((forced = true → s.pwr.pwrfail = true)) ∧ (s.runc.change = none) :=
  ⟨{ regs [(Reg.SMC_DBGSTAT, 0xC0000000)] with pwr := { PwrInt.init with pwrfail := true } }, true, by decide +kernel⟩

theorem test_meets_ResetState_1 : ∃ (c : Nat), (c < 1024) :=
  ⟨1023, by decide +kernel⟩

theorem test_meets_ResetState_2 : ∃ (j : Nat), (j < 32) :=
  ⟨31, by decide +kernel⟩

theorem test_meets_StorageStaysCanonical_1 : ∃ (s : State) (t : State), (Memory.wf s.mem) ∧ (step s = .next t) :=
  ⟨(State.reset.store 5 [7]), after (State.reset.store 5 [7]), by decide +kernel, next_of (by decide +kernel)⟩

theorem test_meets_CanonicalStorageIsItsContents_1 : ∃ (s : State) (t : State), (Memory.wf s.mem) ∧ (Memory.wf t.mem) ∧ ((∀ a, s.byte a = t.byte a)) :=
  ⟨State.reset.store 5 [7], (State.reset.store 5 [8]).store 5 [7], by decide +kernel, by decide +kernel, fun a => rfl⟩

theorem test_meets_CommandWords_1 : ∃ (s : State) (src : Src) (k : Nat) (role : Nat) (slot : Nat) (prof : Nat) (arg : Nat) (n : Nat) (x : Nat × Nat × Instr), (k < 2) ∧ (role < 4) ∧ (slot < 8) ∧ (prof < 4) ∧ (arg < 65536) ∧ (n < 256) ∧ (x ∈ ([(Reg.SMC_IMGCMD, 0x01000000 + k * 2 ^ 16, .loadSlot src k), (Reg.SMC_IMGCMD, 0x02000000, .loadHost src), (Reg.SMC_IMGCMD, 0x03000000 + k * 2 ^ 16, .install src k), (Reg.SMC_IMGCMD, 0x04000000 + arg, .activateDelta src arg), (Reg.SMC_IMGCMD, 0x05000000, .discardDelta src), (Reg.SMC_IMGCMD, 0x06000000 + k * 2 ^ 16, .settingsReset src k), (Reg.SMC_RUNCMD, 0x01000000, .startRun src), (Reg.SMC_RUNCMD, 0x02000000, .holdRun src), (Reg.SMC_RUNCMD, 0x03000000, .resumeRun src), (Reg.SMC_RUNCMD, 0x04000000 + arg, .stepRun src arg), (Reg.SMC_RUNCMD, 0x05000000, .stopRun src), (Reg.SMC_RUNCMD, 0x06000000, .learnOn src), (Reg.SMC_RUNCMD, 0x07000000, .learnOff src), (Reg.SMC_RUNCMD, 0x08000000, .lockstepMode src), (Reg.SMC_RUNCMD, 0x09000000, .horizonMode src), (Reg.SMC_RUNCMD, 0x0A000000 + arg, .steplen src arg), (Reg.SEC_CMD, 0x01000000 + role * 2 ^ 16 + slot, .challenge src role slot), (Reg.SEC_CMD, 0x02000000, .verifySession src), (Reg.SEC_CMD, 0x03000000, .closeSession src), (Reg.SEC_CMD, 0x04000000 + role * 2 ^ 16 + slot, .progKey src role slot), (Reg.SEC_CMD, 0x05000000 + role * 2 ^ 16 + slot, .revokeKey src role slot), (Reg.SEC_CMD, 0x06000000, .provMaker src), (Reg.PWR_DEVCMD, 0x01000000, .sleep src), (Reg.PWR_DEVCMD, 0x02000000, .deepState src), (Reg.PWR_DEVCMD, 0x03000000, .wake src), (Reg.PWR_DEVCMD, 0x04000000 + prof * 2 ^ 16 + arg, .profile src prof arg), (Reg.RST_CMD, 0x01000000, .warmReset src), (Reg.RST_CMD, 0x02000000, .warmFull src), (Reg.RST_FWCMD, 0x01000000 + k * 2 ^ 16, .fwInstall src k), (Reg.RST_FWCMD, 0x02000000 + k * 2 ^ 16, .fwActivate src k), (Reg.RST_FWCMD, 0x03000000 + k * 2 ^ 16, .fwSetreset src k), (Reg.VRN_UPDCMD, 0x01000000 + n, .fwChunk src n), (Reg.VRN_UPDCMD, 0x02000000, .vrnFwActivate src), (Reg.VRN_UPDCMD, 0x03000000 + n, .parChunk src n), (Reg.VRN_UPDCMD, 0x04000000, .parCommit src), (Reg.VRN_UPDCMD, 0x05000000, .archive src), (Reg.VRN_UPDCMD, 0x06000000, .abortStaged src), (Reg.SPL_LRNCLR, 0x80000000, .learningClearAll src), (Reg.SPL_LRNCLR, 0x100 + n, .learningClearOne src n)] : List (Nat × Nat × Instr))) :=
  ⟨.reset, .pcie, 1, 3, 7, 3, 65535, 255, (Reg.RST_FWCMD, 0x03000000 + 1 * 2 ^ 16, .fwSetreset .pcie 1), by decide +kernel⟩

theorem test_meets_RegistersWithRows_1 : ∃ (s : State) (src : Src) (c : Nat) (q : Nat) (n : Nat) (j : Nat) (g : Nat) (w : Nat) (m : Nat) (h : Nat) (v : Nat) (x : Nat × Nat × Instr), (c < 1024) ∧ (q < 128) ∧ (n < 16) ∧ (j < 64) ∧ (w < 4) ∧ (g < 32) ∧ (m < 32) ∧ (h < 4096) ∧ (v < 2 ^ 32) ∧ (x ∈ ([(Reg.NCR_DPOOL c, v, .ncrDpoolWrite src c v), (Reg.MSG_RELEASE c, q, .msgRelease src c q), (Reg.MSG_QRING c q, v, .msgQueueConfigWrite src c q true v), (Reg.MSG_QLAND c q, v, .msgQueueConfigWrite src c q false v), (Reg.LDL_CHTAIL m, v, .ladleDoorbell src m v), (Reg.LDL_HQLOCAL h, v, .hostQueueLocalWrite src h v), (Reg.PWR_CEIL, v, .pwrCeilWrite src v), (Reg.TMR_CHCTRL n, v, .timerCtrlWrite src n v), (Reg.TMR_CHCOMPARE n, v, .timerCompareWrite src n v), (Reg.TMR_GROUP, v, .timerGroupStart src v), (Reg.SMC_EPHSTEP j + 4 * w, v, .ephemerisArm src j w v), (Reg.SMC_DBGHALT g, v, .debugHaltWrite src g v)] : List (Nat × Nat × Instr))) :=
  ⟨.reset, .pcie, 1023, 127, 15, 63, 31, 3, 31, 4095, 0xFFFFFFFF, (Reg.SMC_DBGHALT 31, 0xFFFFFFFF, .debugHaltWrite .pcie 31 0xFFFFFFFF), by decide +kernel⟩

/-- Channels 0 to 3 PERIODIC at 100,000 ns while the timebase reads 5,000,000, as in the example after R630. -/
def timers : State :=
  { inst ((List.range 4).flatMap (fun n => [(Reg.TMR_CHPERIOD n, 100000), (Reg.TMR_CHCTRL n, 0xC0000000)])) with time := 5000000 }

/-- The example after R630: T0 is 5,010,000, and the channels are spread over the period. -/
theorem test_timer_group_example :
    (match exec (.timerGroupStart .pcie 0x800A000F) timers with
     | .next t => (List.range 4).map (fun n => ((t.rd (Reg.TMR_CHPHASE n)).toNat, (t.rd (Reg.TMR_CHCOMPARE n)).toNat))
     | _ => []) = [(0, 5010000), (25000, 5035000), (50000, 5060000), (75000, 5085000)] := by decide +kernel

/-- The example of R52: five stored bytes expand to sixteen. -/
theorem test_zero_run_example :
    zeroRun 16 16 [0x8B, 0x01, 0x12, 0x34, 0x81] = some (zeros 12 ++ [0x12, 0x34] ++ zeros 2) := by decide +kernel

/-- The check value of R44 over the ASCII digits 1 to 9. -/
theorem test_crc32_check_value : crc32 [0x31, 0x32, 0x33, 0x34, 0x35, 0x36, 0x37, 0x38, 0x39] = 0xCBF43926 := by decide +kernel

/-- The LUT example of R135: table 4 at a = 1,000. -/
theorem test_lookup_example :
    ((State.reset.putNum (tableAddr 0 + 0x95E) 2 180).putNum (tableAddr 0 + 0x960) 2 196).lookup 0 0xC6041080 1000 = 190 := by decide +kernel

/-- The decay example of R136: 10,000 after three steps of 0.9. -/
theorem test_decay_example : rsr (10000 * 0x5D50) 15 = 7290 := by decide +kernel

/-- The key example of R278: the home core of 0x0989_F420 is 650. -/
theorem test_home_core_example : homeLcn 0x0989F420 = 650 := by decide +kernel

/-- The key of R104's example: context 4,001 of core 650 with population tag 0. -/
theorem test_emit_key_example :
    (regs [(Reg.NCR_KEYBASE 650, 0x09880000), (Reg.NCR_KEYCFG 650, 5)]).emitKey 650 4001 0 = 0x0989F420 := by decide +kernel

/-- The example after R161: axon 17 of core 650. -/
theorem test_axon_offset_example : (regs [(Reg.NCR_AXBASE 650, 139264)]).axonOff 650 17 = 0x110088 := by decide +kernel

/-- R364: a weight that is a level, one above the largest level and one below the smallest keep all of it in CODE and FINE. -/
theorem test_encode_weight_exact :
    [384, 700, -5].map (fun v => (State.reset.encodeWeight 0 [0, 24, 38] v).2) = [(1, 0), (2, 92), (0, -5)] := by decide +kernel

/-- Rule set 0 of partition 9 in the example of On-chip learning. -/
def rule9 : State :=
  [(0x0, 4, 0x83211000), (0x4, 4, 0x00000800), (0x8, 4, 0x0000FF00), (0xC, 2, 384), (0x140 + 2 * 20, 2, 16384), (0x1C0 + 2 * 11, 2, 24576)].foldl
    (fun s e => s.putNum (0x0213FFA000 + e.1) e.2.1 e.2.2) State.reset

/-- The example after R380: p of 20,480 and q of 6,000 take a weight of 389 sixteenths to 393. -/
theorem test_new_weight_example : rule9.newWeight 9 0 389 20480 6000 = 393 := by decide +kernel

/-- The scale example after R203: mx of 1,040, 540 and 400 under G = 60. -/
theorem test_scale_examples : (scaleOf 1040 60, scaleOf 540 60, scaleOf 400 60) = (1, 0, -1) := by decide +kernel

/-- The key example after R410: pixel (517, 37) of stream descriptor 2 gives an ON event with key 0x000E_6060, in row queue 0. -/
theorem test_pixel_key_example :
    (let s := regs [(Reg.TND_DESC 2 0, 0xA8540000), (Reg.TND_DESC 2 5, 0x000C0000), (Reg.TND_DESC 2 6, 0x2210062C)]
     (s.keyOf 2 517 37 1, s.rowOf 2 0x000E6060)) = (some 0x000E6060, 0) := by decide +kernel

/-- The ring of R459's example: devices 0 to 3 are Q, S, T and P. -/
def ringHops : List (Nat × Nat × Nat) :=
  [(3, 3, 0), (0, 6, 3), (0, 5, 1), (1, 0, 0), (1, 7, 2), (2, 2, 1), (2, 1, 3), (3, 4, 2)]

/-- The numbers and the routes of R459's example: P reaches 0 and 1 on link 3 and 2 on link 4, and T reaches Q on link 1. -/
theorem test_ring_example :
    assignNumbers [⟨0x33, 0, 0, []⟩, ⟨0x107, 0, 0, []⟩, ⟨0x150, 1, 2, []⟩, ⟨0x215, 1, 0, []⟩] =
      [(0x150, 2), (0x215, 0), (0x33, 1), (0x107, 3)] ∧
    (List.range 3).map (routeTo ringHops 3) = [some 3, some 3, some 4] ∧ routeTo ringHops 2 0 = some 1 := by decide +kernel

/-- The example after R572: band row 20's spare moves from position 3 to 6, whose core is recorded as a defect. -/
theorem test_map_example :
    ({ regs [(Reg.RST_MAP 76, 0x80006040)] with rst := { RstInt.init with swap := some (76, 6) } }.swapEnd).rd (Reg.RST_MAP 76) = 0x8000C040 := by
  decide +kernel

/-- Each is a command with one operand just beyond its range; the check refuses it. -/
theorem test_illFormed_0 : ([.registerWrite .pcie 1099511627776 0 0,
  .registerWrite .pcie 0 0 4294967296,
  .rcRegisterRead .pcie 1099511627776 0,
  .counterLowRead .pcie 1099511627776 0,
  .windowStorageWrite .pcie 1099511627776 [],
  .pcieConfigRequest true 0 4294967296,
  .loadSlot .pcie 2,
  .configWrite 1024,
  .install .pcie 2,
  .activateDelta .pcie 65536,
  .settingsReset .pcie 2,
  .eventQueueAccept 1024 0,
  .eventQueueAccept 0 6,
  .accumulateEntry 1024,
  .axonEntryRead 1024,
  .synapseBeat 1024,
  .ncrDpoolWrite .pcie 1024 0,
  .ncrDpoolWrite .pcie 0 4294967296,
  .stepAdmit 1024,
  .accumulateEnd 1024,
  .groupRunStart 1024,
  .nop 1024,
  .mov 1024,
  .add 1024,
  .sub 1024,
  .mul 1024,
  .mac 1024,
  .minOp 1024,
  .maxOp 1024,
  .absOp 1024,
  .andOp 1024,
  .orOp 1024,
  .xor 1024,
  .shl 1024,
  .shr 1024,
  .clt 1024,
  .cle 1024,
  .ceq 1024,
  .movi 1024,
  .addi 1024] : List Instr).all (fun i => !i.wellFormed) = true := by decide

/-- Each is a command with one operand just beyond its range; the check refuses it. -/
theorem test_illFormed_1 : ([.muli 1024,
  .clti 1024,
  .cgei 1024,
  .lut 1024,
  .decay 1024,
  .trace 1024,
  .rda 1024,
  .get 1024,
  .setq 1024,
  .br 1024,
  .emit 1024,
  .emitg 1024,
  .sendSum 1024,
  .sendMessage 1024,
  .endRun 1024,
  .uclimitExpiry 1024,
  .stepSeal 1024,
  .coreScrubWord 1024,
  .vaultScrubWord 16,
  .rowCopyDone 16,
  .horizonReportReceive 2066,
  .horizonTimeout 1024,
  .modePrepare 2066,
  .modeCommitReceive 2066,
  .modeAbortReceive 2066,
  .stepRun .pcie 65536,
  .steplen .pcie 65536,
  .routerPacketArrive 4096 0 true,
  .routerPacketArrive 0 8 true,
  .routerRoute 1024 0 0,
  .routerRoute 0 8 0,
  .routerRoute 0 0 6,
  .routerPacketSend 1024 0 [],
  .routerPacketSend 0 7 [],
  .passThroughForward 1152 0 0,
  .passThroughForward 0 8 0,
  .passThroughForward 0 0 6,
  .creditReturn 4096 0 0,
  .creditReturn 0 8 0,
  .creditReturn 0 0 6] : List Instr).all (fun i => !i.wellFormed) = true := by decide

/-- Each is a command with one operand just beyond its range; the check refuses it. -/
theorem test_illFormed_2 : ([.escapeTimeout 1024 0 0,
  .escapeTimeout 0 8 0,
  .escapeTimeout 0 0 6,
  .combineWindowClose 1024 0,
  .faultCoalesceClose 1024 0,
  .injectorDrained 2066,
  .msgRequestAccept 1024,
  .forwardSend 1024,
  .selectorPop .pcie 1024 0,
  .selectorPop .pcie 0 4,
  .msgRelease .pcie 1024 0,
  .msgRelease .pcie 0 128,
  .msgReplyReceive 2066,
  .msgReplyTimeout 2066 0,
  .msgReplyTimeout 0 32,
  .msgQueueConfigWrite .pcie 1024 0 true 0,
  .msgQueueConfigWrite .pcie 0 128 true 0,
  .msgQueueConfigWrite .pcie 0 0 true 4294967296,
  .preRecordApply 16,
  .rewardReceive 16,
  .epochPassBegin 16,
  .checkpointComplete 16,
  .synapseUpdate 16,
  .pass1End 16,
  .synapseRescale 16,
  .epochPassEnd 16,
  .weightSaveChunk 16,
  .csiLongPacket 4 0 [] 0,
  .csiLongPacket 0 4294967296 [] 0,
  .csiFrameStart 4 0 0,
  .csiFrameStart 0 4 0,
  .csiFrameEnd 4 0 0,
  .csiFrameEnd 0 4 0,
  .csi3Copy 4294967296 [] 0,
  .streamDecode 4,
  .tundishInject 32,
  .hostEventInject 32,
  .countRecordSend 1024,
  .countRecordRetry 1024,
  .ladleDoorbell .pcie 32 0] : List Instr).all (fun i => !i.wellFormed) = true := by decide

/-- Each is a command with one operand just beyond its range; the check refuses it. -/
theorem test_illFormed_3 : ([.ladleChannelEnable .pcie 32 0,
  .ladleChannelDisable .pcie 32 0,
  .ladleNop 32,
  .ladleH2d 32,
  .ladleD2h 32,
  .ladleEvents 32,
  .ladleMsg 32,
  .ladleReadq 32,
  .ladleSegment 32,
  .ladleCompletion 32,
  .ladleReadTimeout 32,
  .hostQueueAccept 1060,
  .ladleSelectorSignal 1060,
  .hostQueuePopRead 4096 0 0,
  .hostQueuePopRead 0 512 0,
  .hostRingTransfer 4096,
  .hostQueueIrqDelay 4096,
  .hostQueueLocalWrite .pcie 4096 0,
  .hostQueueLocalWrite .pcie 0 4294967296,
  .linkTrainingDone 8 0,
  .linkTrainingDone 0 16,
  .linkTrainRetry 8,
  .linkLaneFail 8 0,
  .linkLaneFail 0 4,
  .linkRetrainDone 8 0,
  .linkRetrainDone 0 16,
  .linkRetrainRequest .pcie 8,
  .linkEnable .pcie 8,
  .dataFrameReceive 8 [],
  .returnFrameReceive 8 [],
  .idleFrameReceive 8 [],
  .nakFrameReceive 8 [],
  .mgmtFrameReceive 8 [],
  .dataFrameSend 8,
  .idleFrameSend 8,
  .linkAckTimeout 8,
  .linkPeerTimeout 8,
  .encoderEdge 8 .up,
  .indicatorRead 1099511627776 0 [],
  .fwChunk .pcie 96] : List Instr).all (fun i => !i.wellFormed) = true := by decide

/-- Each is a command with one operand just beyond its range; the check refuses it. -/
theorem test_illFormed_4 : ([.parChunk .pcie 96,
  .challenge .pcie 4 0,
  .challenge .pcie 0 8,
  .progKey .pcie 4 0,
  .progKey .pcie 0 8,
  .revokeKey .pcie 4 0,
  .revokeKey .pcie 0 8,
  .profile .pcie 4 0,
  .profile .pcie 0 65536,
  .domainIdleEntry 177,
  .domainIdleExit 177,
  .wakeStageReady 177,
  .wakeStageTimeout 177 0,
  .wakeStageTimeout 0 9,
  .wakeRetry 177,
  .domainHardFailure 177,
  .domainPowerDownDone 177,
  .voltageRampDone 177,
  .clockSwitchDone 177,
  .pwrCeilWrite .pcie 4294967296,
  .coreWave 9,
  .isolationComplete 16,
  .fwInstall .pcie 2,
  .fwActivate .pcie 2,
  .fwSetreset .pcie 2,
  .hangCheckExpiry 16,
  .recoveryBegin 16,
  .recoveryRestore 16,
  .replayArrivalFeed 16,
  .recoveryRejoin 16,
  .suspectSearch 16 0 true,
  .timerFire 16,
  .timerCompareWrite .pcie 16 0,
  .timerCompareWrite .pcie 0 4294967296,
  .timerCtrlWrite .pcie 16 0,
  .timerCtrlWrite .pcie 0 4294967296,
  .timerGroupStart .pcie 4294967296,
  .pulseEnd 80,
  .ephemerisArm .pcie 64 0 0,
  .ephemerisArm .pcie 0 4 0] : List Instr).all (fun i => !i.wellFormed) = true := by decide

/-- Each is a command with one operand just beyond its range; the check refuses it. -/
theorem test_illFormed_5 : ([.ephemerisArm .pcie 0 0 4294967296,
  .debugHaltWrite .pcie 32 0,
  .debugHaltWrite .pcie 0 4294967296,
  .csiLinkStateChange 4 0,
  .csiLinkStateChange 0 4] : List Instr).all (fun i => !i.wellFormed) = true := by decide

/-- Each is a command with every operand at the end of its range. -/
theorem test_wellFormed_0 : ([.registerWrite .pcie 1099511627775 0 4294967295,
  .rcRegisterRead .pcie 1099511627775 0,
  .counterLowRead .pcie 1099511627775 0,
  .windowStorageWrite .pcie 1099511627775 [],
  .pcieConfigRequest true 0 4294967295,
  .loadSlot .pcie 1,
  .configWrite 1023,
  .install .pcie 1,
  .activateDelta .pcie 65535,
  .settingsReset .pcie 1,
  .eventQueueAccept 1023 5,
  .accumulateEntry 1023,
  .axonEntryRead 1023,
  .synapseBeat 1023,
  .ncrDpoolWrite .pcie 1023 4294967295,
  .stepAdmit 1023,
  .accumulateEnd 1023,
  .groupRunStart 1023,
  .nop 1023,
  .mov 1023,
  .add 1023,
  .sub 1023,
  .mul 1023,
  .mac 1023,
  .minOp 1023,
  .maxOp 1023,
  .absOp 1023,
  .andOp 1023,
  .orOp 1023,
  .xor 1023,
  .shl 1023,
  .shr 1023,
  .clt 1023,
  .cle 1023,
  .ceq 1023,
  .movi 1023,
  .addi 1023,
  .muli 1023,
  .clti 1023,
  .cgei 1023] : List Instr).all (fun i => i.wellFormed) = true := by decide

/-- Each is a command with every operand at the end of its range. -/
theorem test_wellFormed_1 : ([.lut 1023,
  .decay 1023,
  .trace 1023,
  .rda 1023,
  .get 1023,
  .setq 1023,
  .br 1023,
  .emit 1023,
  .emitg 1023,
  .sendSum 1023,
  .sendMessage 1023,
  .endRun 1023,
  .uclimitExpiry 1023,
  .stepSeal 1023,
  .coreScrubWord 1023,
  .vaultScrubWord 15,
  .rowCopyDone 15,
  .horizonReportReceive 2065,
  .horizonTimeout 1023,
  .modePrepare 2065,
  .modeCommitReceive 2065,
  .modeAbortReceive 2065,
  .stepRun .pcie 65535,
  .steplen .pcie 65535,
  .routerPacketArrive 4095 7 true,
  .routerRoute 1023 7 5,
  .routerPacketSend 1023 6 [],
  .passThroughForward 1151 7 5,
  .creditReturn 4095 7 5,
  .escapeTimeout 1023 7 5,
  .combineWindowClose 1023 0,
  .faultCoalesceClose 1023 0,
  .injectorDrained 2065,
  .msgRequestAccept 1023,
  .forwardSend 1023,
  .selectorPop .pcie 1023 3,
  .msgRelease .pcie 1023 127,
  .msgReplyReceive 2065,
  .msgReplyTimeout 2065 31,
  .msgQueueConfigWrite .pcie 1023 127 true 4294967295] : List Instr).all (fun i => i.wellFormed) = true := by decide

/-- Each is a command with every operand at the end of its range. -/
theorem test_wellFormed_2 : ([.preRecordApply 15,
  .rewardReceive 15,
  .epochPassBegin 15,
  .checkpointComplete 15,
  .synapseUpdate 15,
  .pass1End 15,
  .synapseRescale 15,
  .epochPassEnd 15,
  .weightSaveChunk 15,
  .csiLongPacket 3 4294967295 [] 0,
  .csiFrameStart 3 3 0,
  .csiFrameEnd 3 3 0,
  .csi3Copy 4294967295 [] 0,
  .streamDecode 3,
  .tundishInject 31,
  .hostEventInject 31,
  .countRecordSend 1023,
  .countRecordRetry 1023,
  .ladleDoorbell .pcie 31 0,
  .ladleChannelEnable .pcie 31 0,
  .ladleChannelDisable .pcie 31 0,
  .ladleNop 31,
  .ladleH2d 31,
  .ladleD2h 31,
  .ladleEvents 31,
  .ladleMsg 31,
  .ladleReadq 31,
  .ladleSegment 31,
  .ladleCompletion 31,
  .ladleReadTimeout 31,
  .hostQueueAccept 1059,
  .ladleSelectorSignal 1059,
  .hostQueuePopRead 4095 511 0,
  .hostRingTransfer 4095,
  .hostQueueIrqDelay 4095,
  .hostQueueLocalWrite .pcie 4095 4294967295,
  .linkTrainingDone 7 15,
  .linkTrainRetry 7,
  .linkLaneFail 7 3,
  .linkRetrainDone 7 15] : List Instr).all (fun i => i.wellFormed) = true := by decide

/-- Each is a command with every operand at the end of its range. -/
theorem test_wellFormed_3 : ([.linkRetrainRequest .pcie 7,
  .linkEnable .pcie 7,
  .dataFrameReceive 7 [],
  .returnFrameReceive 7 [],
  .idleFrameReceive 7 [],
  .nakFrameReceive 7 [],
  .mgmtFrameReceive 7 [],
  .dataFrameSend 7,
  .idleFrameSend 7,
  .linkAckTimeout 7,
  .linkPeerTimeout 7,
  .encoderEdge 7 .up,
  .indicatorRead 1099511627775 0 [],
  .fwChunk .pcie 95,
  .parChunk .pcie 95,
  .challenge .pcie 3 7,
  .progKey .pcie 3 7,
  .revokeKey .pcie 3 7,
  .profile .pcie 3 65535,
  .domainIdleEntry 176,
  .domainIdleExit 176,
  .wakeStageReady 176,
  .wakeStageTimeout 176 8,
  .wakeRetry 176,
  .domainHardFailure 176,
  .domainPowerDownDone 176,
  .voltageRampDone 176,
  .clockSwitchDone 176,
  .pwrCeilWrite .pcie 4294967295,
  .coreWave 8,
  .isolationComplete 15,
  .fwInstall .pcie 1,
  .fwActivate .pcie 1,
  .fwSetreset .pcie 1,
  .hangCheckExpiry 15,
  .recoveryBegin 15,
  .recoveryRestore 15,
  .replayArrivalFeed 15,
  .recoveryRejoin 15,
  .suspectSearch 15 0 true] : List Instr).all (fun i => i.wellFormed) = true := by decide

/-- Each is a command with every operand at the end of its range. -/
theorem test_wellFormed_4 : ([.timerFire 15,
  .timerCompareWrite .pcie 15 4294967295,
  .timerCtrlWrite .pcie 15 4294967295,
  .timerGroupStart .pcie 4294967295,
  .pulseEnd 79,
  .ephemerisArm .pcie 63 3 4294967295,
  .debugHaltWrite .pcie 31 4294967295,
  .csiLinkStateChange 3 3] : List Instr).all (fun i => i.wellFormed) = true := by decide

end Sys2Proof.Tests
end

section
/-! SUPPORT. Numbers in byte storage: their range, what reads back, and what a change of another field leaves as it was. -/

namespace Sys2Proof.Machine

theorem toPattern_lt (n : Nat) (x : Int) : toPattern n x < 2 ^ n := by
  have hpos : (0 : Int) < 2 ^ n := by positivity
  have h := Int.emod_lt_of_pos x hpos
  unfold toPattern
  rw [Int.toNat_lt (Int.emod_nonneg x hpos.ne')]
  exact_mod_cast h

theorem leNat_lt (bs : List Byte) : leNat bs < 256 ^ bs.length := by
  induction bs with
  | nil => simp [leNat]
  | cons b t ih =>
    have hb := b.isLt
    rw [List.length_cons, pow_succ]
    simp only [leNat]
    omega

/-- Clamping to 24 bits changes nothing exactly within the signed range of 24 bits. -/
theorem satS_24_eq_self_iff (x : Int) : satS 24 x = x ↔ -8388608 ≤ x ∧ x ≤ 8388607 := by
  unfold satS
  norm_num
  omega

namespace State

variable (s t : State)

theorem num_lt (a n : Nat) : s.num a n < 256 ^ n := by
  simpa [num] using leNat_lt (s.bytes a n)

/-- The bytes that a store wrote read back. -/
theorem bytes_store_same (a : Nat) (bs : List Byte) : (s.store a bs).bytes a bs.length = bs := by
  refine List.ext_getElem (length_bytes ..) fun i _ hi => ?_
  rw [getElem_bytes, byte_store_in s a bs i hi, List.getD_eq_getElem _ _ hi]

/-- A number that fits its bytes reads back. -/
theorem num_putNum_same (a n v : Nat) (hv : v < 256 ^ n) : (s.putNum a n v).num a n = v := by
  have hb := s.bytes_store_same a (leBytes n v)
  rw [leBytes_length] at hb
  rw [num, putNum, hb, leNat_leBytes n v hv]

theorem byte_putNum_out (a n v x : Nat) (h : x < a ∨ a + n ≤ x) : (s.putNum a n v).byte x = s.byte x :=
  byte_store_out s a _ x (by rwa [leBytes_length])

section SameStorage
variable {s t} (h : t.mem = s.mem)
include h

theorem byte_of_mem (a : Nat) : t.byte a = s.byte a := by simp only [byte, h]

theorem bytes_of_mem (a n : Nat) : t.bytes a n = s.bytes a n := by
  induction n generalizing a with
  | zero => rfl
  | succ n ih => simp only [bytes, ih, byte_of_mem h]

theorem ctx_of_mem (c i : Nat) : t.ctx c i = s.ctx c i := by simp only [ctx, num, bytes_of_mem h]

theorem isPartner_of_mem (c i : Nat) : t.isPartner c i = s.isPartner c i := by
  simp only [isPartner, isPair, ctx_of_mem h]

theorem govern_of_mem (c i : Nat) : t.govern c i = s.govern c i := by
  rw [govern, isPartner_of_mem h, govern]

end SameStorage

end State
end Sys2Proof.Machine
end

section
/-! SUPPORT. One addition into an input accumulator (R98, R99): the context written, the clamp counted, the member marked
active, each with what it leaves as it was. -/

namespace Sys2Proof.Machine

/-- Highest bit of an accumulator in its context: A1 when `hi`, else A0 (R83). -/
abbrev accTop (hi : Bool) : Nat := if hi then 79 else 55
/-- Lowest bit of an accumulator in its context. -/
abbrev accLow (hi : Bool) : Nat := if hi then 56 else 32

namespace State

variable (s : State) (c i : Nat) (hi : Bool) (v : Int)

/-- The exact sum of R98: the accumulator's value before plus the contribution. -/
def accSum : Int := toSigned 24 (bits (s.ctx c i) (accTop hi) (accLow hi)) + v

/-- A sum that clamps is counted and reported in NCR_ERRSTAT.SAT (R98). -/
def countClamp (sum : Int) : State :=
  if satS 24 sum = sum then s else (s.bump (Reg.NCR_SATCNT c) 1).setBit (Reg.NCR_ERRSTAT c) 0

/-- Context `g` is active in the step (R100). -/
def markActive (g : Nat) : State :=
  if (s.core c).active.contains g then s else s.setCore c { s.core c with active := g :: (s.core c).active }

/-- The context of the addition, its accumulator at the clamped sum. -/
def accStored : State :=
  s.putNum (ctxAddr c i) 16 (putBits (s.ctx c i) (accTop hi) (accLow hi) (toPattern 24 (satS 24 (s.accSum c i hi v))))

/-- An addition that is not discarded stores the clamped sum, counts a clamp and marks the member active. -/
theorem accumulate_eq (h : s.disabled c i = false) :
    s.accumulate c i hi v = ((s.accStored c i hi v).countClamp c (s.accSum c i hi v)).markActive c (s.govern c i) := by
  unfold accumulate
  rw [if_neg (by simp [h])]
  cases hi <;> rfl

@[simp] theorem countClamp_mem (sum : Int) : (s.countClamp c sum).mem = s.mem := by
  unfold countClamp
  split
  · rfl
  · rw [setBit_mem, bump_mem]

@[simp] theorem markActive_mem (g : Nat) : (s.markActive c g).mem = s.mem := by
  unfold markActive; split <;> rfl

@[simp] theorem rd_markActive (g a : Nat) : (s.markActive c g).rd a = s.rd a := by
  unfold markActive; split <;> rfl

theorem mem_active_markActive (g : Nat) : g ∈ ((s.markActive c g).core c).active := by
  unfold markActive
  split
  · rename_i h; simpa using h
  · simp

theorem countClamp_of_fits (sum : Int) (h : -8388608 ≤ sum ∧ sum ≤ 8388607) : s.countClamp c sum = s :=
  if_pos ((satS_24_eq_self_iff sum).2 h)

theorem countClamp_of_clamps (sum : Int) (h : sum < -8388608 ∨ 8388607 < sum) :
    s.countClamp c sum = (s.bump (Reg.NCR_SATCNT c) 1).setBit (Reg.NCR_ERRSTAT c) 0 :=
  if_neg (by rw [satS_24_eq_self_iff]; omega)

/-- Counting a clamp touches the counter and the error bits alone. -/
theorem rd_countClamp_other (sum : Int) (a : Nat) (hs : a ≠ Reg.NCR_SATCNT c) (he : a ≠ Reg.NCR_ERRSTAT c) :
    (s.countClamp c sum).rd a = s.rd a := by
  unfold countClamp
  split
  · rfl
  · rw [rd_setBit_other _ _ _ _ he, rd_bump_other _ _ _ _ hs]

section Enabled
variable (h : s.disabled c i = false)
include h

/-- The accumulator holds the exact sum clamped to 24 bits. -/
theorem bits_ctx_accumulate :
    bits ((s.accumulate c i hi v).ctx c i) (accTop hi) (accLow hi) = toPattern 24 (satS 24 (s.accSum c i hi v)) := by
  have hctx : s.ctx c i < 2 ^ 128 := s.num_lt (ctxAddr c i) 16
  have hmem : (s.accumulate c i hi v).mem = (s.accStored c i hi v).mem := by simp [accumulate_eq s c i hi v h]
  have hlow : accLow hi ≤ accTop hi := by cases hi <;> decide
  have htop : accTop hi < 128 := by cases hi <;> decide
  have hwidth : accTop hi + 1 - accLow hi = 24 := by cases hi <;> rfl
  have hread : (s.accumulate c i hi v).ctx c i =
      putBits (s.ctx c i) (accTop hi) (accLow hi) (toPattern 24 (satS 24 (s.accSum c i hi v))) :=
    (ctx_of_mem hmem c i).trans (num_putNum_same s _ 16 _ (putBits_lt 128 _ _ _ _ hctx htop hlow))
  rw [hread, bits_putBits_same _ _ _ _ hlow, hwidth, Nat.mod_eq_of_lt (toPattern_lt 24 _)]

/-- Only the bytes of the context change. -/
theorem byte_accumulate_out (x : Nat) (hx : x < ctxAddr c i ∨ ctxAddr c i + 16 ≤ x) :
    (s.accumulate c i hi v).byte x = s.byte x := by
  have hmem : (s.accumulate c i hi v).mem = (s.accStored c i hi v).mem := by simp [accumulate_eq s c i hi v h]
  rw [byte_of_mem hmem, accStored, byte_putNum_out _ _ _ _ _ hx]

theorem govern_mem_active_accumulate : s.govern c i ∈ ((s.accumulate c i hi v).core c).active := by
  rw [accumulate_eq s c i hi v h]; exact mem_active_markActive ..

theorem rd_accumulate (a : Nat) :
    (s.accumulate c i hi v).rd a = ((s.accStored c i hi v).countClamp c (s.accSum c i hi v)).rd a := by
  rw [accumulate_eq s c i hi v h, rd_markActive]

/-- A sum within 24 bits leaves every register as it was. -/
theorem rd_accumulate_of_fits (hf : -8388608 ≤ s.accSum c i hi v ∧ s.accSum c i hi v ≤ 8388607) (a : Nat) :
    (s.accumulate c i hi v).rd a = s.rd a := by
  rw [rd_accumulate s c i hi v h, countClamp_of_fits _ _ _ hf]; rfl

/-- An addition changes no register but NCR_SATCNT and NCR_ERRSTAT. -/
theorem rd_accumulate_other (a : Nat) (hs : a ≠ Reg.NCR_SATCNT c) (he : a ≠ Reg.NCR_ERRSTAT c) :
    (s.accumulate c i hi v).rd a = s.rd a := by
  rw [rd_accumulate s c i hi v h, rd_countClamp_other _ _ _ _ hs he]; rfl

/-- A clamp sets NCR_ERRSTAT.SAT and is counted once; the counter saturates. -/
theorem accumulate_of_clamps (hc : s.accSum c i hi v < -8388608 ∨ 8388607 < s.accSum c i hi v) :
    (s.accumulate c i hi v).bit (Reg.NCR_ERRSTAT c) 0 = true ∧
    (s.accumulate c i hi v).rd (Reg.NCR_SATCNT c) =
      BitVec.ofNat 32 (min ((s.rd (Reg.NCR_SATCNT c)).toNat + 1) 0xFFFFFFFF) := by
  have hrd := rd_accumulate s c i hi v h
  rw [countClamp_of_clamps _ _ _ hc] at hrd
  constructor
  · rw [bit, rf, hrd]
    exact bit_setBit_same _ _ _ (by decide)
  · have hne : Reg.NCR_SATCNT c ≠ Reg.NCR_ERRSTAT c := by unfold Reg.NCR_SATCNT Reg.NCR_ERRSTAT; omega
    rw [hrd, rd_setBit_other _ _ _ _ hne, rd_bump_same]
    rfl

end Enabled

end State
end Sys2Proof.Machine
end

section
/-! SUPPORT. A due SUM entry at the head of the event queue (R93, R99, R106): it is taken and added. -/

namespace Sys2Proof.Machine.State

variable (s : State) (c : Nat)

/-- Reads meet no wrong word where none is stored (R82). -/
theorem reading_of_no_upsets (rs : List (Nat × Nat)) (f : State → State) (h : s.upsets = []) : s.reading c rs f = f s := by
  unfold reading
  rw [if_pos (by simp [wrongWords, h])]

@[simp] theorem eqTake_mem : (s.eqTake c).mem = s.mem := by
  rw [eqTake, wf_mem, setCore_mem]

/-- Taking an entry changes no register but NCR_EQSTAT. -/
theorem rd_eqTake_other (a : Nat) (h : a ≠ Reg.NCR_EQSTAT c) : (s.eqTake c).rd a = s.rd a := by
  unfold eqTake; rw [rd_wf_other _ _ _ _ _ _ h]; rfl

/-- Taking an entry takes its words off the count. -/
theorem eqCount_eqTake : (s.eqTake c).rf (Reg.NCR_EQSTAT c) 12 0 = s.rf (Reg.NCR_EQSTAT c) 12 0 - (s.eqNext c).length := by
  have hlt : s.rf (Reg.NCR_EQSTAT c) 12 0 < 2 ^ 13 := bits_lt _ 12 0
  unfold eqTake
  rw [rf_wf_same _ _ _ _ _ (by decide) (by decide)]
  exact Nat.mod_eq_of_lt (by omega)

/-- A SUM entry that was present when the step began and is due in it is taken and processed (R93). -/
theorem queueEntry_of_due_sum (h d : Nat) (hphase : s.phase c = 0) (hpresent : 0 < (s.core c).eqPresent)
    (hnext : s.eqNext c = [h, d]) (hsum : bits h 31 30 = 2) (hdue : s.dueStep c h = s.stepOf c) :
    s.queueEntry c = (s.eqTake c).accumulate c (bits h 12 0) (bitAt h 13) (toSigned 32 d) := by
  simp [queueEntry, processDue, hphase, hpresent, hnext, hsum, hdue]

/-- Where no parked entry is due, ACCUMULATE_ENTRY takes the head of the event queue. -/
theorem execAccumulateEntry_of_queue (hready : s.accReady c = true) (hslot : s.slotDue c = false)
    (hcount : 0 < s.rf (Reg.NCR_EQSTAT c) 12 0) (hup : s.upsets = []) :
    execAccumulateEntry c s = .next (s.queueEntry c) := by
  simp [execAccumulateEntry, hready, hslot, hcount.ne', reading_of_no_upsets s c _ _ hup]

end Sys2Proof.Machine.State
end

section
/-! CERTIFICATES. The statement of the neuron core: a due SUM entry (R98, R99). -/

namespace Sys2Proof.Proofs

open Sys2Proof Sys2Proof.Machine Sys2Proof.Machine.State Sys2Proof.Claims

/-- Settles O9: the command takes the entry off the queue, which touches no storage and of the registers NCR_EQSTAT
alone, and adds its value: each part is what the addition does to the state without the entry. -/
theorem dueSumEntryAdds : Obligations.DueSumEntryAdds := by
  intro s c h d _ hready hslot hphase hcount hpresent hnext hsum hup hdue hdis
  set i := bits h 12 0
  set hi := bitAt h 13
  let u := s.eqTake c
  have hmem : u.mem = s.mem := eqTake_mem s c
  have hen : u.disabled c i = false := by rw [disabled, govern_of_mem hmem, ctx_of_mem hmem]; exact hdis
  have hacc : u.accSum c i hi (toSigned 32 d) = s.accSum c i hi (toSigned 32 d) := by rw [accSum, ctx_of_mem hmem]; rfl
  have hexec : exec (.accumulateEntry c) s = .next (u.accumulate c i hi (toSigned 32 d)) :=
    (execAccumulateEntry_of_queue s c hready hslot hcount hup).trans
      (congrArg _ (queueEntry_of_due_sum s c h d hphase hpresent hnext hsum hdue))
  have hsatcnt : u.rd (Reg.NCR_SATCNT c) = s.rd (Reg.NCR_SATCNT c) :=
    rd_eqTake_other s c _ (by unfold Reg.NCR_SATCNT Reg.NCR_EQSTAT; omega)
  refine ⟨_, hexec, ?sum, ?count, ?active, ?frame, ?fits, ?clamps⟩
  case sum =>
    rw [bits_ctx_accumulate u c i hi _ hen, hacc]
    rfl
  case count =>
    have hother := rd_accumulate_other u c i hi (toSigned 32 d) hen (Reg.NCR_EQSTAT c)
      (by unfold Reg.NCR_EQSTAT Reg.NCR_SATCNT; omega) (by unfold Reg.NCR_EQSTAT Reg.NCR_ERRSTAT; omega)
    have htake := eqCount_eqTake s c
    rw [hnext] at htake
    rw [rf, hother]
    exact htake
  case active =>
    rw [← govern_of_mem hmem]
    exact govern_mem_active_accumulate u c i hi _ hen
  case frame =>
    intro x hx
    rw [byte_accumulate_out u c i hi _ hen x hx, byte_of_mem hmem]
  case fits =>
    intro hlo hhi
    rw [rd_accumulate_of_fits u c i hi _ hen (by rw [hacc]; exact ⟨hlo, hhi⟩), hsatcnt]
  case clamps =>
    intro hc
    rw [← hsatcnt]
    exact accumulate_of_clamps u c i hi _ hen (by rw [hacc]; exact hc)

end Sys2Proof.Proofs
end

section
/-! SUPPORT. An instruction of the update engine that changes lanes only (R102, R103, R114, R119, R120, R125): which word it
executes, what it leaves, and the model's registers and words in the terms of the statements. -/

namespace Sys2Proof.Machine

open Sys2Proof.Claims

theorem aluOk_of_aluWord {op : Nat} {b sh rnd : Bool} {w : Nat} (h : aluWord op b sh rnd w) : aluOk b sh rnd w = true := by
  obtain ⟨-, hd, hpred, hzero, hb, hsh, hrnd⟩ := h
  simp [aluOk, dOk, predOk, hd, hpred, hzero, hb, hsh, hrnd]

namespace Lane

theorem runs_eq_live (l : Lane) (w : Nat) : l.runs w = Claims.live w l := rfl

theorem putBits_eq_wroteBits (l : Lane) (d x : Nat) : l.putBits d x = wroteBits l d x := by
  simp [Lane.putBits, wroteBits, setIdx, and_assoc]

end Lane

namespace State

variable {s : State} {c : Nat} {r : Run} {w : Nat}

theorem ucReg_eq_regVal (s : State) (c : Nat) (r : Run) (l : Lane) (code : Nat) :
    s.ucReg c r.model l code = regVal s c r l code := by
  have haddr : tableAddr c + 0x100 = 0x100000000 + c * 0x400000 + 0x22100 := by simp only [tableAddr, coreWin, Nat.add_assoc]
  rw [ucReg, regVal, haddr]

/-- A run that is not at its cycle limit executes the word at its address (R102, R103, R143). -/
theorem ucFetch_of_ucAt (h : UcAt s c r w) : s.ucFetch c = some (r, w) := by
  obtain ⟨hphase, hstopped, hrun, -, hcycles, hword, -⟩ := h
  have hlimit : r.cycles < s.ucLimit c := hcycles
  have hfetched : s.ucWord c r.pc = w := hword
  have hupdates : s.phase c = 1 := hphase
  simp [ucFetch, hupdates, hstopped, hrun, hlimit, hfetched]

/-- Below the last address the run goes on at the next one, a cycle later (R103, R144). -/
theorem ucNext_of_pc_lt (s : State) (c : Nat) (lanes : List Lane) (hpc : r.pc < 2047) :
    s.ucNext c { r with lanes := lanes } = afterUc s c r lanes :=
  if_neg (by show ¬ 2047 < r.pc + 1; omega)

/-- A legal word of the row's opcode changes the lanes, and nothing else of the machine but the run's place and its cycles. -/
theorem ucLanes_of_ucAt {op : Nat} {legal : Nat → Bool} (f : State → Run → Nat → Lane → Lane) (h : UcAt s c r w)
    (hop : bits w 31 26 = op) (hlegal : legal w = true) :
    s.ucLanes c op legal f = afterUc s c r (r.lanes.map (f s r w)) := by
  have hfetch := ucFetch_of_ucAt h
  obtain ⟨-, -, -, hpc, -, -, hup⟩ := h
  simp only [ucLanes, hfetch, hop, hlegal, ne_eq, not_true_eq_false, Bool.not_true, Bool.false_eq_true, if_false,
    reading_of_no_upsets s c _ _ hup, ucNext_of_pc_lt s c _ hpc]

/-- A bitwise instruction writes the pattern of its result to each lane that executes it (R122). -/
theorem ucBitwise_of_ucAt {op : Nat} (f : Nat → Nat → Nat) (h : UcAt s c r w) (hw : aluWord op true false false w) :
    s.ucBitwise c op f = afterUc s c r (r.lanes.map (fun l => if Claims.live w l then
      wroteBits l (bits w 25 21) (f (toPattern 32 (regVal s c r l (bits w 20 16))) (toPattern 32 (regVal s c r l (bits w 15 11))))
      else l)) := by
  rw [ucBitwise, ucLanes_of_ucAt _ h hw.1 (aluOk_of_aluWord hw)]
  simp only [Lane.runs_eq_live, Lane.putBits_eq_wroteBits, ucReg_eq_regVal]

end State
end Sys2Proof.Machine
end

section
/-! CERTIFICATES. The statement of the update microcode: the bitwise instructions (R122). -/

namespace Sys2Proof.Proofs

open Sys2Proof Sys2Proof.Machine Sys2Proof.Machine.State Sys2Proof.Claims

/-- A row whose meaning is the bitwise step of its opcode does what R122 says. -/
theorem bitRow_of_exec {i : Nat → Instr} {op : Nat} {f : Nat → Nat → Nat}
    (hexec : ∀ c s, exec (i c) s = .next (s.ucBitwise c op f)) : BitRow i op f := fun s c _ _ hat hw =>
  (hexec c s).trans (congrArg _ (ucBitwise_of_ucAt f hat hw))

/-- Settles O12: each row's meaning is the bitwise step of its opcode, with AND, OR or XOR of the patterns. -/
theorem bitwiseInstructions : Obligations.BitwiseInstructions :=
  ⟨bitRow_of_exec fun _ _ => rfl, bitRow_of_exec fun _ _ => rfl, bitRow_of_exec fun _ _ => rfl⟩

end Sys2Proof.Proofs
end

section
/-! SUPPORT. Numbering the devices of a system (R457): each pass taken member by member, with what holds before and after
each, and the set of members known, whatever order it was learned in. -/

namespace Sys2Proof.Machine

/-- Member `m` of the set `ms` gets the number it prefers: it has a preference, and no device of a lower serial has the same. -/
def GetsPreference (ms : List Member) (m : Member) : Prop :=
  m.prefv = 1 ∧ ∀ x ∈ ms, x.prefv = 1 → x.prefid = m.prefid → m.serial ≤ x.serial

/-- What the first pass does at member `m`. -/
def preferStep (acc : List (Nat × Nat)) (m : Member) : List (Nat × Nat) :=
  if m.prefv = 1 && !(acc.any (fun e => e.2 == m.prefid)) then acc ++ [(m.serial, m.prefid)] else acc

/-- What the second pass does at member `m`. -/
def fillStep (acc : List (Nat × Nat)) (m : Member) : List (Nat × Nat) :=
  if acc.any (fun e => e.1 == m.serial) then acc else acc ++ [(m.serial, lowestFree acc)]

theorem assignNumbers_eq (ms : List Member) : assignNumbers ms = ms.foldl fillStep (ms.foldl preferStep []) := rfl

/-- No number and no serial stands twice in a table, and its numbers are below 16. -/
structure TableWf (acc : List (Nat × Nat)) : Prop where
  numbers : (acc.map Prod.snd).Nodup
  serials : (acc.map Prod.fst).Nodup
  inRange : ∀ e ∈ acc, e.2 < 16

theorem TableWf.nil : TableWf [] := ⟨.nil, .nil, nofun⟩

theorem TableWf.append {acc : List (Nat × Nat)} (h : TableWf acc) {a n : Nat} (ha : a ∉ acc.map Prod.fst)
    (hn : n ∉ acc.map Prod.snd) (hlt : n < 16) : TableWf (acc ++ [(a, n)]) where
  numbers := by simpa using h.numbers.concat hn
  serials := by simpa using h.serials.concat ha
  inRange e he := by
    rcases List.mem_append.1 he with hold | hnew
    · exact h.inRange e hold
    · obtain rfl := List.mem_singleton.1 hnew
      exact hlt

section Steps

variable (acc : List (Nat × Nat)) (m : Member)

theorem preferStep_of_free (hpref : m.prefv = 1) (hfree : m.prefid ∉ acc.map Prod.snd) :
    preferStep acc m = acc ++ [(m.serial, m.prefid)] := by
  simpa [preferStep, hpref] using hfree

theorem preferStep_of_taken (h : m.prefv = 1 → m.prefid ∈ acc.map Prod.snd) : preferStep acc m = acc := by
  simpa [preferStep] using h

theorem fillStep_of_numbered (h : m.serial ∈ acc.map Prod.fst) : fillStep acc m = acc := by
  simpa [fillStep] using h

theorem fillStep_of_unnumbered (h : m.serial ∉ acc.map Prod.fst) : fillStep acc m = acc ++ [(m.serial, lowestFree acc)] := by
  simpa [fillStep] using h

/-- Fewer than 16 entries leave a number free; the lowest one is free, and every number below it is taken. -/
theorem lowestFree_spec (h : acc.length < 16) : lowestFree acc < 16 ∧ lowestFree acc ∉ acc.map Prod.snd ∧
    ∀ k, k < lowestFree acc → k ∈ acc.map Prod.snd := by
  cases hfind : (List.range 16).find? (fun n => !(acc.any (fun e => e.2 == n))) with
  | none =>
    have htaken : List.range 16 ⊆ acc.map Prod.snd := fun n hn => by simpa using List.find?_eq_none.1 hfind n hn
    have hlen := (List.nodup_range.subperm htaken).length_le
    rw [List.length_range, List.length_map] at hlen
    omega
  | some n =>
    obtain ⟨hfree, hn, hbelow⟩ := List.find?_range_eq_some.1 hfind
    have hlow : lowestFree acc = n := by rw [lowestFree, hfind, Option.getD_some]
    rw [hlow]
    refine ⟨List.mem_range.1 hn, fun hmem => ?_, fun k hk => by simpa using hbelow k hk⟩
    obtain ⟨e, he, heq⟩ := List.mem_map.1 hmem
    simp only [Bool.not_eq_true', List.any_eq_false, beq_iff_eq] at hfree
    exact hfree e he heq

end Steps

section Passes

variable {ms p q : List Member} {m : Member} {acc : List (Nat × Nat)}

/-- The members before one in a list of rising serials have lower serials, and those after it higher ones. -/
theorem serials_around (hs : (ms.map Member.serial).Pairwise (· < ·)) (hms : ms = p ++ m :: q) :
    (∀ x ∈ p, x.serial < m.serial) ∧ ∀ x ∈ q, m.serial < x.serial := by
  subst hms
  rw [List.pairwise_map, List.pairwise_append, List.pairwise_cons] at hs
  obtain ⟨-, ⟨hafter, -⟩, hbefore⟩ := hs
  exact ⟨fun x hx => hbefore x hx m List.mem_cons_self, hafter⟩

theorem eq_of_serial_eq (hs : (ms.map Member.serial).Pairwise (· < ·)) {x y : Member} (hx : x ∈ ms) (hy : y ∈ ms)
    (h : x.serial = y.serial) : x = y :=
  List.inj_on_of_nodup_map (hs.imp Nat.ne_of_lt) hx hy h

/-- The first pass over the set `ms` has taken the members `p`, and stands at the table `acc`. -/
structure Preferred (ms p : List Member) (acc : List (Nat × Nat)) : Prop where
  wf    : TableWf acc
  mem   : ∀ e, e ∈ acc ↔ ∃ x ∈ p, GetsPreference ms x ∧ (x.serial, x.prefid) = e
  taken : ∀ x ∈ p, x.prefv = 1 → x.prefid ∈ acc.map Prod.snd

theorem Preferred.nil : Preferred ms [] [] := ⟨.nil, by simp, nofun⟩

/-- In the first pass a member gets the number it prefers if and only if it is still free there. -/
theorem Preferred.getsPreference_iff (hs : (ms.map Member.serial).Pairwise (· < ·)) (hms : ms = p ++ m :: q)
    (h : Preferred ms p acc) : GetsPreference ms m ↔ m.prefv = 1 ∧ m.prefid ∉ acc.map Prod.snd := by
  obtain ⟨hbefore, hafter⟩ := serials_around hs hms
  constructor
  · rintro ⟨hpref, hleast⟩
    refine ⟨hpref, fun htaken => ?_⟩
    obtain ⟨e, he, hid⟩ := List.mem_map.1 htaken
    obtain ⟨x, hx, hget, rfl⟩ := (h.mem e).1 he
    have hle := hleast x (by simp [hms, hx]) hget.1 hid
    have hlt := hbefore x hx
    omega
  · rintro ⟨hpref, hfree⟩
    refine ⟨hpref, fun x hx hxpref hid => ?_⟩
    rw [hms, List.mem_append, List.mem_cons] at hx
    rcases hx with hx | rfl | hx
    · exact absurd (hid ▸ h.taken x hx hxpref) hfree
    · exact le_rfl
    · exact (hafter x hx).le

theorem Preferred.step (hs : (ms.map Member.serial).Pairwise (· < ·)) (hid : ∀ x ∈ ms, x.prefid < 16)
    (hms : ms = p ++ m :: q) (h : Preferred ms p acc) : Preferred ms (p ++ [m]) (preferStep acc m) := by
  have hiff := h.getsPreference_iff hs hms
  by_cases hget : GetsPreference ms m
  · obtain ⟨hpref, hfree⟩ := hiff.1 hget
    have hnew : m.serial ∉ acc.map Prod.fst := fun hmem => by
      obtain ⟨e, he, heq⟩ := List.mem_map.1 hmem
      obtain ⟨x, hx, -, rfl⟩ := (h.mem e).1 he
      exact ((serials_around hs hms).1 x hx).ne heq
    rw [preferStep_of_free acc m hpref hfree]
    refine ⟨h.wf.append hnew hfree (hid m (by simp [hms])), fun e => ?_, fun x hx hxpref => ?_⟩
    · simp [h.mem, or_and_right, exists_or, hget, eq_comm]
    · rcases List.mem_append.1 hx with hold | hlast
      · simp [List.mem_map.1 (h.taken x hold hxpref)]
      · simp [List.mem_singleton.1 hlast]
  · have htaken : m.prefv = 1 → m.prefid ∈ acc.map Prod.snd := fun hpref =>
      by_contra fun hfree => hget (hiff.2 ⟨hpref, hfree⟩)
    rw [preferStep_of_taken acc m htaken]
    refine ⟨h.wf, fun e => ?_, fun x hx hxpref => ?_⟩
    · simp [h.mem, or_and_right, exists_or, hget]
    · rcases List.mem_append.1 hx with hold | hlast
      · exact h.taken x hold hxpref
      · obtain rfl := List.mem_singleton.1 hlast
        exact htaken hxpref

theorem Preferred.foldl (hs : (ms.map Member.serial).Pairwise (· < ·)) (hid : ∀ x ∈ ms, x.prefid < 16) :
    ∀ {q p acc}, ms = p ++ q → Preferred ms p acc → Preferred ms (p ++ q) (q.foldl preferStep acc)
  | [], p, _, _, h => by simpa using h
  | m :: q, p, acc, hms, h => by
    have hstep := Preferred.foldl hs hid (by simpa using hms) (h.step hs hid hms)
    simpa using hstep

/-- The first pass leaves the entries of the members that get the number they prefer, and no others. -/
theorem preferred_firstPass (hs : (ms.map Member.serial).Pairwise (· < ·)) (hid : ∀ x ∈ ms, x.prefid < 16) :
    Preferred ms ms (ms.foldl preferStep []) :=
  Preferred.foldl hs hid (List.nil_append ms).symm .nil

/-- Number `k` is that of a device that comes before serial `a` in the order of the two passes. -/
def TakenBefore (ms : List Member) (acc : List (Nat × Nat)) (a k : Nat) : Prop :=
  ∃ x ∈ ms, (x.serial, k) ∈ acc ∧ (GetsPreference ms x ∨ x.serial < a)

theorem TakenBefore.append {a k : Nat} (h : TakenBefore ms acc a k) (new : List (Nat × Nat)) : TakenBefore ms (acc ++ new) a k := by
  obtain ⟨x, hx, hmem, hbefore⟩ := h
  exact ⟨x, hx, List.mem_append_left new hmem, hbefore⟩

/-- The second pass over the set `ms` has taken the members `p`, and stands at the table `acc`. -/
structure Filled (ms p : List Member) (acc : List (Nat × Nat)) : Prop where
  wf        : TableWf acc
  owner     : ∀ e ∈ acc, ∃ x ∈ ms, x.serial = e.1 ∧ (GetsPreference ms x ∨ x ∈ p)
  numbered  : ∀ x ∈ p, x.serial ∈ acc.map Prod.fst
  preferred : ∀ x ∈ ms, GetsPreference ms x → (x.serial, x.prefid) ∈ acc
  lowest    : ∀ x ∈ ms, ¬ GetsPreference ms x → ∀ n, (x.serial, n) ∈ acc → ∀ k, k < n → TakenBefore ms acc x.serial k

theorem Preferred.filled (hs : (ms.map Member.serial).Pairwise (· < ·)) (h : Preferred ms ms acc) : Filled ms [] acc where
  wf := h.wf
  owner e he := by
    obtain ⟨x, hx, hget, rfl⟩ := (h.mem e).1 he
    exact ⟨x, hx, rfl, .inl hget⟩
  numbered := nofun
  preferred x hx hget := (h.mem _).2 ⟨x, hx, hget, rfl⟩
  lowest x hx hget n hn := by
    obtain ⟨y, hy, hyget, heq⟩ := (h.mem _).1 hn
    have hyx : y = x := eq_of_serial_eq hs hy hx (congrArg Prod.fst heq)
    exact absurd (hyx ▸ hyget) hget

/-- While a member has no number yet, fewer entries stand in the table than members in the set. -/
theorem Filled.length_lt (h : Filled ms p acc) (hm : m ∈ ms) (hnew : m.serial ∉ acc.map Prod.fst) : acc.length < ms.length := by
  have hsub : m.serial :: acc.map Prod.fst ⊆ ms.map Member.serial := by
    refine List.cons_subset.2 ⟨List.mem_map_of_mem hm, fun a ha => ?_⟩
    obtain ⟨e, he, rfl⟩ := List.mem_map.1 ha
    obtain ⟨x, hx, heq, -⟩ := h.owner e he
    exact List.mem_map.2 ⟨x, hx, heq⟩
  have hnodup := List.nodup_cons.2 ⟨hnew, h.wf.serials⟩
  simpa using (hnodup.subperm hsub).length_le

/-- Every number taken when the second pass comes to a member is that of a device before it. -/
theorem Filled.takenBefore_of_mem (hs : (ms.map Member.serial).Pairwise (· < ·)) (hms : ms = p ++ m :: q)
    (h : Filled ms p acc) {k : Nat} (hk : k ∈ acc.map Prod.snd) : TakenBefore ms acc m.serial k := by
  obtain ⟨⟨a, k⟩, he, rfl⟩ := List.mem_map.1 hk
  obtain ⟨x, hx, rfl, hbefore⟩ := h.owner _ he
  exact ⟨x, hx, he, hbefore.imp_right ((serials_around hs hms).1 x)⟩

theorem Filled.step (hs : (ms.map Member.serial).Pairwise (· < ·)) (hlen : ms.length ≤ 16)
    (hms : ms = p ++ m :: q) (h : Filled ms p acc) : Filled ms (p ++ [m]) (fillStep acc m) := by
  have hm : m ∈ ms := by simp [hms]
  by_cases hold : m.serial ∈ acc.map Prod.fst
  · rw [fillStep_of_numbered acc m hold]
    refine ⟨h.wf, fun e he => ?_, fun x hx => ?_, h.preferred, h.lowest⟩
    · obtain ⟨x, hx, heq, hbefore⟩ := h.owner e he
      exact ⟨x, hx, heq, hbefore.imp_right (List.mem_append_left [m])⟩
    · rcases List.mem_append.1 hx with hx | hx
      · exact h.numbered x hx
      · exact List.mem_singleton.1 hx ▸ hold
  · obtain ⟨hlt, hfree, hbelow⟩ := lowestFree_spec acc ((h.length_lt hm hold).trans_le hlen)
    rw [fillStep_of_unnumbered acc m hold]
    refine ⟨h.wf.append hold hfree hlt, fun e he => ?_, fun x hx => ?_, fun x hx hget => ?_, fun x hx hget n hn k hk => ?_⟩
    · rcases List.mem_append.1 he with he | he
      · obtain ⟨x, hx, heq, hbefore⟩ := h.owner e he
        exact ⟨x, hx, heq, hbefore.imp_right (List.mem_append_left [m])⟩
      · obtain rfl := List.mem_singleton.1 he
        exact ⟨m, hm, rfl, .inr (by simp)⟩
    · rcases List.mem_append.1 hx with hx | hx
      · simp [List.mem_map.1 (h.numbered x hx)]
      · simp [List.mem_singleton.1 hx]
    · exact List.mem_append_left _ (h.preferred x hx hget)
    · rcases List.mem_append.1 hn with hn | hn
      · exact (h.lowest x hx hget n hn k hk).append _
      · obtain ⟨hser, rfl⟩ := Prod.mk.inj (List.mem_singleton.1 hn)
        rw [hser]
        exact (h.takenBefore_of_mem hs hms (hbelow k hk)).append _

theorem Filled.foldl (hs : (ms.map Member.serial).Pairwise (· < ·)) (hlen : ms.length ≤ 16) :
    ∀ {q p acc}, ms = p ++ q → Filled ms p acc → Filled ms (p ++ q) (q.foldl fillStep acc)
  | [], p, _, _, h => by simpa using h
  | m :: q, p, acc, hms, h => by
    have hstep := Filled.foldl hs hlen (by simpa using hms) (h.step hs hlen hms)
    simpa using hstep

/-- R457: the two passes number every member of a set of at most 16. -/
theorem filled_assignNumbers (hlen : ms.length ≤ 16) (hs : (ms.map Member.serial).Pairwise (· < ·))
    (hid : ∀ x ∈ ms, x.prefid < 16) : Filled ms ms (assignNumbers ms) := by
  rw [assignNumbers_eq]
  exact Filled.foldl hs hlen (List.nil_append ms).symm ((preferred_firstPass hs hid).filled hs)

end Passes

section KnownSet

variable {a x : Member}

theorem putMember_of_lt (h : a.serial < x.serial) (l : List Member) : putMember a (x :: l) = a :: x :: l := if_pos h

theorem putMember_of_eq (h : a.serial = x.serial) (l : List Member) : putMember a (x :: l) = a :: l := by
  simp [putMember, h]

theorem putMember_of_gt (h : x.serial < a.serial) (l : List Member) : putMember a (x :: l) = x :: putMember a l := by
  simp [putMember, h.not_gt, h.ne']

/-- Two members with different serials can be put among those known in either order. -/
theorem putMember_comm {a b : Member} (h : a.serial ≠ b.serial) (l : List Member) :
    putMember a (putMember b l) = putMember b (putMember a l) := by
  wlog hab : a.serial < b.serial generalizing a b
  · exact (this h.symm (by omega)).symm
  induction l with
  | nil => simp only [putMember, putMember_of_lt hab, putMember_of_gt hab]
  | cons x l ih =>
    rcases Nat.lt_trichotomy a.serial x.serial with ha | ha | ha
    · rcases Nat.lt_trichotomy b.serial x.serial with hb | hb | hb
      · simp only [putMember_of_lt ha, putMember_of_lt hb, putMember_of_lt hab, putMember_of_gt hab]
      · simp only [putMember_of_lt ha, putMember_of_eq hb, putMember_of_lt hab, putMember_of_gt hab]
      · simp only [putMember_of_lt ha, putMember_of_gt hb, putMember_of_gt hab]
    · have hb : x.serial < b.serial := ha ▸ hab
      simp only [putMember_of_eq ha, putMember_of_gt hb, putMember_of_gt hab]
    · simp only [putMember_of_gt ha, putMember_of_gt (ha.trans hab), ih]

/-- The set of members known does not depend on the order in which they were learned. -/
theorem foldr_putMember_of_perm {l k : List Member} (hperm : l.Perm k) (hserials : (l.map Member.serial).Nodup) :
    l.foldr putMember [] = k.foldr putMember [] := by
  refine hperm.foldr_eq' (fun x hx y hy t => ?_) []
  by_cases hxy : x = y
  · rw [hxy]
  · exact putMember_comm (fun heq => hxy (List.inj_on_of_nodup_map hserials hy hx heq).symm) t

end KnownSet

end Sys2Proof.Machine
end

section
/-! CERTIFICATES. The statement of the system of devices: the numbers that devices get (R457). -/

namespace Sys2Proof.Proofs

open Sys2Proof Sys2Proof.Machine

/-- Settles O38: what holds after both passes, and that the set is the same in whatever order a holder learned it. -/
theorem deviceNumbers : Obligations.DeviceNumbers := by
  refine ⟨fun ms hlen hs hid => ?_, fun l k => foldr_putMember_of_perm⟩
  obtain ⟨hwf, -, hnumbered, hpreferred, hlowest⟩ := filled_assignNumbers hlen hs hid
  refine ⟨hwf.numbers, hwf.inRange, fun m hm => ?_, hpreferred, hlowest⟩
  simpa using hnumbered m hm

end Sys2Proof.Proofs
end
